-- ==== Sys2Proof/Word.lean ====
section
/-! DEFINITION. The words of the chassis link: bytes, and the 16- and 32-bit fields built from them. -/
namespace Sys2Proof

/-- One byte of a frame. -/
abbrev Byte := BitVec 8

/-- A u16 or s16 field, or a frame check (R3, R184). -/
abbrev Half := BitVec 16

/-- A u32 or s32 field (R184). -/
abbrev Word := BitVec 32

end Sys2Proof
end

