-- ==== Sys2Proof/Syntax.lean ====
section
/-! DEFINITION. The commands of spec/opcode_table.json, one constructor a row, with the names and readings
that their operands use. -/
namespace Sys2Proof

/-- The four steering corners (00, Names). -/
inductive CornerId | fl | fr | rl | rr
  deriving DecidableEq, Repr

/-- The two axles (00, Names). -/
inductive AxleId | front | rear
  deriving DecidableEq, Repr

/-- The four pattern generators (00, Names). -/
inductive GenId | pg0 | pg1 | pg2 | pg3
  deriving DecidableEq, Repr

/-- The eight pack conditions, in the order of their codes 1 to 8 (04, table of conditions). -/
inductive Condition | uvCaution | imbalance | reserve | uvLimit | overtemp | overcurrent | uvCutoff | overvolt
  deriving DecidableEq, Repr

/-- A lamp channel, 0 to 11. -/
abbrev ChannelId := Fin 12

/-- A lamp function, 0 to 9. -/
abbrev FunctionId := Fin 10

/-- One value for each corner. -/
structure PerCorner (α : Type) where
  fl : α
  fr : α
  rl : α
  rr : α
  deriving DecidableEq, Repr

/-- One value for each axle. -/
structure PerAxle (α : Type) where
  front : α
  rear : α
  deriving DecidableEq, Repr

/-- The payload of a CONTROL frame as sent (12, CONTROL payload): four s16 axes and four switch codes. -/
structure ControlFrame where
  throttle : Half
  steer : Half
  winch : Half
  aux : Half
  steerSel : Byte
  driveSel : Byte
  lightSel : Byte
  winchSel : Byte
  deriving DecidableEq, Repr

/-- What the pack sensors read at a sample, before R50 holds each within its range: mV, mA, °C. -/
structure PackReading where
  cell1 : Int
  cell2 : Int
  cell3 : Int
  cell4 : Int
  current : Int
  temperature : Int
  deriving DecidableEq, Repr

/-- What the corner sensors read at a servo frame (R90 step 2): servo currents in mA, centre-sense switches. -/
structure ServoReading where
  currents : PerCorner Nat
  senses : PerCorner Bool
  deriving DecidableEq, Repr

/-- What the axle sensors read at a drive update (R128 steps 1 and 2): signed counts since the last update, mA. -/
structure DriveReading where
  counts : PerAxle Int
  currents : PerAxle Nat
  deriving DecidableEq, Repr

/-- What the winch sensors read at a winch update (R146 steps 1 to 3): signed spool counts, positive for line
coming in; the line-in switch; the load in N; the draw in mA. -/
structure WinchReading where
  counts : Int
  lineInClosed : Bool
  load : Nat
  current : Nat
  deriving DecidableEq, Repr

/-- The fields of a SET_FUNCTION payload after the function number (12, table of requests). -/
structure FunctionFields where
  nominal : Half
  shedClass : Byte
  generator : Byte
  brightness : Byte
  remap : Byte
  deriving DecidableEq, Repr

/-- The commands, one constructor per row of spec/opcode_table.json, in the table's order. Requests carry the
host's tag and the payload fields of their kind (12, table of requests). -/
inductive Instr
  | byteReceived (b : Byte)
  | gapTimerExpiry
  | frameSent
  | powerOnReset
  | brownOut
  | controlFrame (f : ControlFrame)
  | undefinedRequest (kind tag : Byte)
  | hello (tag : Byte)
  | reset (tag : Byte)
  | getStatus (tag : Byte)
  | resume (tag : Byte)
  | park (tag : Byte)
  | wake (tag : Byte)
  | getWake (tag : Byte)
  | loadingEnd
  | packCheckEnd
  | centeringEnd
  | silenceTimerExpiry
  | autoParkExpiry
  | parkTimerExpiry
  | motionWake
  | packSample (r : PackReading)
  | levelRise (c : Condition)
  | levelStepDown
  | getPack (tag : Byte)
  | clearCutoff (tag : Byte)
  | resetEnergy (tag : Byte)
  | allotmentWindow
  | surgeHoldCompleted
  | surgeLapsed
  | calmReturn
  | getAllot (tag part : Byte)
  | servoFrame (r : ServoReading)
  | cornerStall (c : CornerId)
  | cornerOpen (c : CornerId)
  | restEnd (c : CornerId)
  | clearingHoldEnd (c : CornerId)
  | alignTimeout
  | settleEnd
  | getSteer (tag part : Byte)
  | clearCorner (tag corner : Byte)
  | trimSearch (tag corners : Byte)
  | searchCornerBegin
  | searchWaitEnd
  | searchStepJudged
  | trimAbort (tag : Byte)
  | getTrim (tag : Byte)
  | driveUpdate (r : DriveReading)
  | pendingLockTaken
  | axleStall (a : AxleId)
  | axleRestEnd (a : AxleId)
  | getDrive (tag : Byte)
  | winchUpdate (r : WinchReading)
  | winchJam
  | clutchTimerExpiry
  | winchClutchFree (tag : Byte)
  | winchClutchEngage (tag : Byte)
  | getWinch (tag : Byte)
  | clearWinch (tag : Byte)
  | lampCheck (currents : Vector Nat 12)
  | onEdge (g : GenId)
  | offEdge (g : GenId)
  | shortTrip (ch : ChannelId)
  | lightSelTake
  | mapLamp (tag fn channel : Byte)
  | setFunction (tag fn : Byte) (f : FunctionFields)
  | getFunction (tag fn : Byte)
  | setGenerator (tag gen : Byte) (period : Half) (duty : Byte)
  | clearChannel (tag channel : Byte)
  | getLamps (tag part : Byte)
  | set (tag item : Byte) (value : Word)
  | get (tag item : Byte)
  | storeSave (tag : Byte) (lock : Bool)
  | saveComplete
  | storeLoad (tag : Byte)
  | storeLoadEnd
  | storeDefaults (tag : Byte)
  deriving DecidableEq, Repr

end Sys2Proof
end

