-- ==== Sys2Proof/Config.lean ====
section
/-! DEFINITION. What this part fixes for itself: its identity (R30) and the marks of a frame (R1). -/
namespace Sys2Proof.Config

/-- The sync byte that begins a frame (R1). -/
def sync : Byte := 0xD7

/-- The part code of the HELLO reply (R30). -/
def partCode : Nat := 0x2D04

/-- The revision letter A as its ASCII code (R30). -/
def revision : Nat := 0x41

end Sys2Proof.Config
end

