-- ==== Sys2Proof/Machine/Types.lean ====
section
/-! DEFINITION. The names and records of the part's state, block by block, as the tables of state that open
each chapter of the spec give them. -/
namespace Sys2Proof

/-! ## One value per corner, axle, consumer, condition, generator -/

/-- A corner's value. -/
def PerCorner.get {α : Type} (t : PerCorner α) : CornerId → α
  | .fl => t.fl
  | .fr => t.fr
  | .rl => t.rl
  | .rr => t.rr

/-- Replaces a corner's value. -/
def PerCorner.put {α : Type} (t : PerCorner α) (c : CornerId) (x : α) : PerCorner α :=
  match c with
  | .fl => { t with fl := x }
  | .fr => { t with fr := x }
  | .rl => { t with rl := x }
  | .rr => { t with rr := x }

/-- One value per corner, computed from the corner. -/
def PerCorner.ofFn {α : Type} (f : CornerId → α) : PerCorner α := ⟨f .fl, f .fr, f .rl, f .rr⟩

/-- Applies a function at every corner. -/
def PerCorner.map {α β : Type} (f : α → β) (t : PerCorner α) : PerCorner β := ⟨f t.fl, f t.fr, f t.rl, f t.rr⟩

/-- The same value at every corner. -/
def PerCorner.all {α : Type} (x : α) : PerCorner α := ⟨x, x, x, x⟩

/-- The corners in corner order (00, Names). -/
def cornerIds : List CornerId := [.fl, .fr, .rl, .rr]

/-- An axle's value. -/
def PerAxle.get {α : Type} (t : PerAxle α) : AxleId → α
  | .front => t.front
  | .rear => t.rear

/-- Replaces an axle's value. -/
def PerAxle.put {α : Type} (t : PerAxle α) (a : AxleId) (x : α) : PerAxle α :=
  match a with
  | .front => { t with front := x }
  | .rear => { t with rear := x }

/-- One value per axle, computed from the axle. -/
def PerAxle.ofFn {α : Type} (f : AxleId → α) : PerAxle α := ⟨f .front, f .rear⟩

namespace Machine

/-! ## Link (01) -/

/-- Reasons of a drop, in code order (12, Codes). -/
inductive DropReason | gap | length | crc | malformed | queueFull
  deriving DecidableEq, Repr

/-- The receiver's state with the frame being assembled (R1). -/
inductive Receiver
  /-- HUNT: no frame in assembly. -/
  | hunt
  /-- LENGTH: the next byte is LEN. -/
  | length
  /-- HEADER: LEN is held; KIND is held once it has arrived. -/
  | header (len : Byte) (kind : Option Byte)
  /-- BODY: fewer than LEN payload bytes are held. -/
  | body (len kind tag : Byte) (payload : List Byte)
  /-- CHECK: the payload is whole; the low check byte is held once it has arrived. -/
  | check (len kind tag : Byte) (payload : List Byte) (low : Option Byte)
  deriving DecidableEq, Repr

/-- A request in the inbound queue (R5). -/
structure RawRequest where
  kind : Byte
  tag : Byte
  payload : List Byte
  deriving DecidableEq, Repr

/-- A frame that the ZD4 sends: a reply or a notice. -/
structure TxFrame where
  kind : Byte
  tag : Byte
  payload : List Byte
  deriving DecidableEq, Repr

/-- Reply statuses, in code order (R8). -/
inductive Status
  | ok | notStarted | busy | badState | range | unknown | lowSupply | tensioned | notAllowed | faulted | malformed
  deriving DecidableEq, Repr

/-! ## Driver intent (02) -/

/-- STEER_SEL codes. -/
inductive SteerSel | front | rear | counter | crab | independent
  deriving DecidableEq, Repr

/-- DRIVE_SEL codes, also the drive modes (R132). -/
inductive DriveSel | both | digRear | digFront | rearOnly
  deriving DecidableEq, Repr

/-- LIGHT_SEL codes, also the scenes (R169). -/
inductive LightSel | off | running | trail | full
  deriving DecidableEq, Repr

/-- WINCH_SEL codes, also the selections (R149). -/
inductive WinchSel | off | manual | assist
  deriving DecidableEq, Repr

/-- The intent record (R18), permille. -/
structure Axes where
  throttle : Int
  steer : Int
  winch : Int
  aux : Int
  deriving DecidableEq, Repr

/-- Acceptance state and change queue of one switch (R20, R22). -/
structure Switch (α : Type) where
  candidate : Option α
  last : Option α
  queue : List α
  deriving DecidableEq, Repr

/-- The Intent Filter's state. -/
structure Intent where
  axes : Axes
  steer : Switch SteerSel
  drive : Switch DriveSel
  light : Switch LightSel
  winch : Switch WinchSel
  deriving DecidableEq, Repr

/-! ## Vehicle modes (03) -/

/-- The nine vehicle modes, in code order. -/
inductive VehicleMode | start | loading | packCheck | centering | ready | run | failsafe | park | shutdown
  deriving DecidableEq, Repr

inductive ResetCause | powerOn | resetRequest
  deriving DecidableEq, Repr

inductive StoreResult | valid | defaulted
  deriving DecidableEq, Repr

/-- Wake causes, in code order (R44). -/
inductive WakeCause | request | stick | motion | pack | timer
  deriving DecidableEq, Repr

/-- A set of wake causes. -/
structure WakeSet where
  request : Bool
  stick : Bool
  motion : Bool
  pack : Bool
  timer : Bool
  deriving DecidableEq, Repr

/-- The Mode Controller's state. Timers are ms counted, 0 when stopped; `parkTimer` is ms left, absent when stopped. -/
structure Mdc where
  mode : VehicleMode
  resetCause : ResetCause
  deferredHello : Option Byte
  stageMs : Nat
  packCheckCount : Nat
  silenceMs : Nat
  autoParkMs : Nat
  parkTimer : Option Nat
  motionCount : Nat
  resumeCount : Nat
  wakeSet : WakeSet
  wakeFirst : Option WakeCause
  wakeCentering : Bool
  notNeutral : Bool
  storeResult : StoreResult
  /-- The start sequence has ended since the last reset (R33); false is also the gate of R16. -/
  startDone : Bool
  /-- The any-non-neutral judgement of the latest reported frame (R25, R41). -/
  lastNonNeutral : Bool
  deriving DecidableEq, Repr

/-! ## Pack monitor (04) -/

/-- Protection levels, lowest first. -/
inductive Level | normal | caution | limit | cutoff
  deriving DecidableEq, Repr

/-- One value per pack condition. -/
structure PerCond (α : Type) where
  uvCaution : α
  imbalance : α
  reserve : α
  uvLimit : α
  overtemp : α
  overcurrent : α
  uvCutoff : α
  overvolt : α
  deriving DecidableEq, Repr

/-- A condition's value. -/
def PerCond.get {α : Type} (t : PerCond α) : Condition → α
  | .uvCaution => t.uvCaution
  | .imbalance => t.imbalance
  | .reserve => t.reserve
  | .uvLimit => t.uvLimit
  | .overtemp => t.overtemp
  | .overcurrent => t.overcurrent
  | .uvCutoff => t.uvCutoff
  | .overvolt => t.overvolt

/-- One value per condition, computed from the condition. -/
def PerCond.ofFn {α : Type} (f : Condition → α) : PerCond α :=
  ⟨f .uvCaution, f .imbalance, f .reserve, f .uvLimit, f .overtemp, f .overcurrent, f .uvCutoff, f .overvolt⟩

/-- The conditions in code order. -/
def conditions : List Condition :=
  [.uvCaution, .imbalance, .reserve, .uvLimit, .overtemp, .overcurrent, .uvCutoff, .overvolt]

/-- Causes of a level change: codes 1 to 8, 9 RECOVERED, 10 CLEARED (04). -/
inductive LevelCause
  | condition (c : Condition)
  | recovered
  | cleared
  deriving DecidableEq, Repr

/-- The sample record (R50): cells 1 to CELL_COUNT in mV, current in mA, temperature in °C. -/
structure Sample where
  cells : List Int
  current : Int
  temperature : Int
  deriving DecidableEq, Repr

/-- The Pack Monitor's state. RESERVE has no confirm count (R54): its place in `counts` stays 0. -/
structure Pkm where
  sample : Option Sample
  usedMah : Nat
  residue : Nat
  counts : PerCond Nat
  confirmed : PerCond Bool
  sagExempt : Bool
  level : Level
  recovery : Nat
  lastCause : Option LevelCause
  deriving DecidableEq, Repr

/-! ## Current allotment (05) -/

/-- The five consumers, in number order. -/
inductive Consumer | steer | winch | driveF | driveR | lamps
  deriving DecidableEq, Repr

/-- One value per consumer. -/
structure PerConsumer (α : Type) where
  steer : α
  winch : α
  driveF : α
  driveR : α
  lamps : α
  deriving DecidableEq, Repr

/-- A consumer's value. -/
def PerConsumer.get {α : Type} (t : PerConsumer α) : Consumer → α
  | .steer => t.steer
  | .winch => t.winch
  | .driveF => t.driveF
  | .driveR => t.driveR
  | .lamps => t.lamps

/-- Replaces a consumer's value. -/
def PerConsumer.put {α : Type} (t : PerConsumer α) (c : Consumer) (x : α) : PerConsumer α :=
  match c with
  | .steer => { t with steer := x }
  | .winch => { t with winch := x }
  | .driveF => { t with driveF := x }
  | .driveR => { t with driveR := x }
  | .lamps => { t with lamps := x }

/-- One value per consumer, computed from the consumer. -/
def PerConsumer.ofFn {α : Type} (f : Consumer → α) : PerConsumer α :=
  ⟨f .steer, f .winch, f .driveF, f .driveR, f .lamps⟩

/-- The consumers in number order. -/
def consumers : List Consumer := [.steer, .winch, .driveF, .driveR, .lamps]

/-- The sum of the five values. -/
def PerConsumer.sum (t : PerConsumer Nat) : Nat := t.steer + t.winch + t.driveF + t.driveR + t.lamps

/-- One allotment record; base and floor are the working set's (R68). -/
structure Allot where
  scaled : Nat
  granted : Nat
  wish : Bool
  lowered : Bool
  quiet : Nat
  hold : Nat
  lapse : Nat
  deriving DecidableEq, Repr

/-- The Current Allotment Unit's state. -/
structure Cau where
  budget : Nat
  budgetLevel : Level
  records : PerConsumer Allot
  holder : Option Consumer
  calm : Nat
  deriving DecidableEq, Repr

/-! ## Steering (06) -/

/-- The steering machine's states, in code order. -/
inductive SteerMachine | unpowered | centering | steady | aligning | settling | search
  deriving DecidableEq, Repr

/-- Steering modes, in code order; `none` is the mode NONE. -/
inductive SteerMode | front | rear | counter | crab | independent | none
  deriving DecidableEq, Repr

inductive CornerState | active | held | rest | unpowered | searching | failed
  deriving DecidableEq, Repr

inductive FaultKind | none | stall | open | align
  deriving DecidableEq, Repr

/-- A corner record (06). `history` holds servo frame numbers, oldest first (R98). -/
structure Corner where
  state : CornerState
  fault : FaultKind
  target : Int
  commanded : Int
  current : Nat
  stateTimer : Nat
  stallCount : Nat
  openCount : Nat
  history : List Nat
  sense : Bool
  prevSense : Bool
  /-- A clearing hold is in progress (R108). -/
  clearing : Bool
  /-- HELD for the time of a STORE_LOAD (R109). -/
  loadHeld : Bool
  /-- The pulse sent at the latest servo frame, in µs (R89). -/
  pulse : Option Int
  deriving DecidableEq, Repr

/-- The Steering Controller's state. Timers are ms counted, 0 when stopped. -/
structure Stc where
  machine : SteerMachine
  mode : SteerMode
  pending : Option SteerMode
  alignMs : Nat
  settleMs : Nat
  starved : Bool
  slewStep : Nat
  frameNo : Nat
  corners : PerCorner Corner
  deriving DecidableEq, Repr

/-! ## Trim search (07) -/

inductive SearchResult | none | waiting | running | found | noEdge | startHigh | outOfRange | aborted | skipped
  deriving DecidableEq, Repr

inductive Phase | wait | step
  deriving DecidableEq, Repr

inductive EndCause | none | completed | request | failsafe | shutdown
  deriving DecidableEq, Repr

structure ResultEntry where
  result : SearchResult
  oldTrim : Int
  newTrim : Option Int
  steps : Nat
  deriving DecidableEq, Repr

/-- The Trim Search Engine's state. Sense readings are true for 1. -/
structure Tse where
  running : Bool
  list : List CornerId
  corner : Option CornerId
  phase : Phase
  frames : Nat
  span : Int
  step : Int
  probe : Int
  firstSample : Bool
  lastClear : Bool
  last0 : Int
  results : PerCorner ResultEntry
  endCause : EndCause
  deriving DecidableEq, Repr

/-! ## Drive (08) -/

inductive AxleState | coast | drive | brake | locked | rest
  deriving DecidableEq, Repr

inductive FollowState | none | following | jamBrake
  deriving DecidableEq, Repr

/-- An axle record (08); its surge wish is held in the allotment record it is written to (R138). -/
structure Axle where
  state : AxleState
  target : Int
  ramped : Int
  ceiling : Nat
  effective : Int
  brake : Nat
  current : Nat
  speed : Int
  counts : Int
  restMs : Nat
  stallMs : Nat
  limitCount : Nat
  deriving DecidableEq, Repr

structure Drc where
  mode : DriveSel
  lockPending : Option DriveSel
  follow : FollowState
  assistTarget : Int
  axles : PerAxle Axle
  braking : Bool
  reversing : Bool
  speed : Nat
  deriving DecidableEq, Repr

/-! ## Winch (09) -/

inductive WinchState
  | stopped | clutchReleasing | freespool | clutchEngaging | reeling | paying | holding | assist | jammed
  deriving DecidableEq, Repr

inductive Clutch | engaged | moving | free
  deriving DecidableEq, Repr

/-- Spool position in counts and payout in mm, present once the line is referenced (R147). -/
structure LineRef where
  spool : Nat
  payout : Nat
  deriving DecidableEq, Repr

/-- The Winch Controller's state. `clutchMs` is ms left, 0 when stopped; `line` is absent while unreferenced. -/
structure Wnc where
  state : WinchState
  clutch : Clutch
  clutchMs : Nat
  selection : WinchSel
  rearm : Bool
  line : Option LineRef
  lineSpeed : Int
  load : Nat
  lineIn : Bool
  lineInPrev : Bool
  jamMs : Nat
  demand : Int
  duty : Int
  ceiling : Nat
  current : Nat
  limitCount : Nat
  deriving DecidableEq, Repr

/-! ## Settings records (10, 11) -/

/-- A function's generator field. -/
inductive FuncGen | pg (g : GenId) | steady
  deriving DecidableEq, Repr

/-- A function record (10). -/
structure FuncRec where
  nominal : Nat
  shedClass : Nat
  generator : FuncGen
  brightness : Nat
  remap : Bool
  deriving DecidableEq, Repr

inductive GenDuty | quarter | third | half | full
  deriving DecidableEq, Repr

/-- A generator record of the working set (R167). -/
structure GenRec where
  period : Nat
  duty : GenDuty
  deriving DecidableEq, Repr

/-- One value per generator. -/
structure PerGen (α : Type) where
  pg0 : α
  pg1 : α
  pg2 : α
  pg3 : α
  deriving DecidableEq, Repr

/-- A generator's value. -/
def PerGen.get {α : Type} (t : PerGen α) : GenId → α
  | .pg0 => t.pg0
  | .pg1 => t.pg1
  | .pg2 => t.pg2
  | .pg3 => t.pg3

/-- Replaces a generator's value. -/
def PerGen.put {α : Type} (t : PerGen α) (g : GenId) (x : α) : PerGen α :=
  match g with
  | .pg0 => { t with pg0 := x }
  | .pg1 => { t with pg1 := x }
  | .pg2 => { t with pg2 := x }
  | .pg3 => { t with pg3 := x }

/-- One value per generator, computed from the generator. -/
def PerGen.ofFn {α : Type} (f : GenId → α) : PerGen α := ⟨f .pg0, f .pg1, f .pg2, f .pg3⟩

/-- The generators in order. -/
def genIds : List GenId := [.pg0, .pg1, .pg2, .pg3]

/-- A working set (11): `items` at the index of each item's id, indices that are no id holding 0. -/
structure WorkingSet where
  items : Vector Int 78
  functions : Vector FuncRec 10
  gens : PerGen GenRec
  map : Vector (Option ChannelId) 10
  failed : Vector Bool 12
  deriving DecidableEq, Repr

/-- The image (R178): a copy of a working set, with its stored 16-bit check. -/
structure Image where
  content : WorkingSet
  check : Half
  deriving DecidableEq, Repr

inductive StoreState | valid | invalid | writing
  deriving DecidableEq, Repr

/-- The Settings Store's state. -/
structure Sst where
  working : WorkingSet
  image : Image
  store : StoreState
  snapshot : Option WorkingSet
  writeMs : Nat
  deriving DecidableEq, Repr

/-! ## Lamps (10) -/

inductive Output | off | driving | tripped
  deriving DecidableEq, Repr

inductive Suspect | none | open | short
  deriving DecidableEq, Repr

/-- A channel record; its status is its membership in the failed set (R162). -/
structure Channel where
  commanded : Bool
  brightness : Nat
  output : Output
  tripSeen : Bool
  current : Nat
  suspect : Suspect
  /-- The generator that blinks its lamp, as the latest check found its lit function (R164, R165, R171). -/
  blink : Option GenId
  deriving DecidableEq, Repr

/-- The running part of a pattern generator (R167). -/
structure GenRun where
  running : Bool
  on : Bool
  ms : Nat
  deriving DecidableEq, Repr

structure Lmp where
  channels : Vector Channel 12
  gens : PerGen GenRun
  scene : LightSel
  requested : Vector Bool 10
  /-- The lit set, as the latest check left it (R171, R175; log 52). -/
  lit : Vector Bool 10
  shed : List FunctionId
  deriving DecidableEq, Repr

/-! ## Notices (12) -/

inductive NoticeKind | mode | pack | steer | trim | winch | lamp | store | link
  deriving DecidableEq, Repr

structure ModeNotice where
  new : VehicleMode
  prev : VehicleMode
  set : WakeSet
  first : Option WakeCause
  deriving DecidableEq, Repr

structure PackNotice where
  prev : Level
  new : Level
  cause : LevelCause
  usedMah : Nat
  deriving DecidableEq, Repr

inductive SteerEvent | switched | refused | failed | cleared
  deriving DecidableEq, Repr

structure SteerNotice where
  event : SteerEvent
  mode : SteerMode
  failed : PerCorner Bool
  deriving DecidableEq, Repr

structure TrimNotice where
  cause : EndCause
  results : PerCorner ResultEntry
  deriving DecidableEq, Repr

inductive WinchEvent | jammed | hardHold | referenced | forcedEngage
  deriving DecidableEq, Repr

inductive EngageCause | shutdown | lowGrant | driveAway
  deriving DecidableEq, Repr

structure WinchNotice where
  event : WinchEvent
  cause : Option EngageCause
  state : WinchState
  clutch : Clutch
  line : Option LineRef
  load : Nat
  deriving DecidableEq, Repr

inductive LampEvent | failed | cleared | loaded
  deriving DecidableEq, Repr

structure LampNotice where
  event : LampEvent
  channel : Option ChannelId
  fn : Option FunctionId
  newChannel : Option ChannelId
  failed : Vector Bool 12
  map : Vector (Option ChannelId) 10
  deriving DecidableEq, Repr

inductive StoreEvent | done | abandoned
  deriving DecidableEq, Repr

structure StoreNotice where
  event : StoreEvent
  store : StoreState
  deriving DecidableEq, Repr

structure LinkNotice where
  count : Nat
  reason : DropReason
  deriving DecidableEq, Repr

/-- A notice with its content (R29, R64, R112, R126, R161, R177, R183, R12). -/
inductive Notice
  | mode (n : ModeNotice)
  | pack (n : PackNotice)
  | steer (n : SteerNotice)
  | trim (n : TrimNotice)
  | winch (n : WinchNotice)
  | lamp (n : LampNotice)
  | store (n : StoreNotice)
  | link (n : LinkNotice)
  deriving DecidableEq, Repr

/-- The pending notice set: at most one notice of each kind (R10). -/
structure NoticeSet where
  mode : Option ModeNotice
  pack : Option PackNotice
  steer : Option SteerNotice
  trim : Option TrimNotice
  winch : Option WinchNotice
  lamp : Option LampNotice
  store : Option StoreNotice
  link : Option LinkNotice
  deriving DecidableEq, Repr

/-- The Link Interface's state. -/
structure Link where
  rx : Receiver
  gapMs : Nat
  waiting : List RawRequest
  slots : Nat
  /-- The dispatcher is held by a store load (R6). -/
  held : Bool
  /-- ms of the load that holds the dispatcher (R182); 0 when none runs. -/
  loadMs : Nat
  replies : List TxFrame
  notices : NoticeSet
  dropCount : Nat
  lastDrop : Option DropReason
  tx : Option TxFrame
  /-- A RESET has been accepted and its reply has not yet been sent (R14). -/
  resetting : Bool
  deriving DecidableEq, Repr

end Machine
end Sys2Proof
end

