-- ==== Sys2Proof/Machine/Settings.lean ====
section
/-! DEFINITION. The settings items: ids, ranges and defaults (R179, table), the default records and map
(10_lamps.md), and the accessors every block reads its settings through. -/
namespace Sys2Proof.Machine

/-! ## Item ids (R179, table) -/

/-- SILENCE_MS -/
abbrev Item.silenceMs : Fin 78 := 1
/-- AXIS_DEADBAND -/
abbrev Item.axisDeadband : Fin 78 := 2
/-- AUTO_PARK_S -/
abbrev Item.autoParkS : Fin 78 := 3
/-- WAKE_MASK -/
abbrev Item.wakeMask : Fin 78 := 4
/-- PARK_TIMER_S -/
abbrev Item.parkTimerS : Fin 78 := 5
/-- NOTICE_MASK -/
abbrev Item.noticeMask : Fin 78 := 6
/-- CELL_COUNT -/
abbrev Item.cellCount : Fin 78 := 10
/-- CELL_CAUTION_MV -/
abbrev Item.cellCautionMv : Fin 78 := 11
/-- CELL_LIMIT_MV -/
abbrev Item.cellLimitMv : Fin 78 := 12
/-- CELL_CUTOFF_MV -/
abbrev Item.cellCutoffMv : Fin 78 := 13
/-- CELL_OVER_MV -/
abbrev Item.cellOverMv : Fin 78 := 14
/-- IMBALANCE_MV -/
abbrev Item.imbalanceMv : Fin 78 := 15
/-- CONFIRM_SAMPLES -/
abbrev Item.confirmSamples : Fin 78 := 16
/-- TEMP_LIMIT_C -/
abbrev Item.tempLimitC : Fin 78 := 17
/-- PACK_CAPACITY_MAH -/
abbrev Item.packCapacityMah : Fin 78 := 18
/-- RESERVE_PCT -/
abbrev Item.reservePct : Fin 78 := 19
/-- BUDGET_MA -/
abbrev Item.budgetMa : Fin 78 := 20
/-- CAUTION_PCT -/
abbrev Item.cautionPct : Fin 78 := 21
/-- LIMIT_PCT -/
abbrev Item.limitPct : Fin 78 := 22
/-- SURGE_MA -/
abbrev Item.surgeMa : Fin 78 := 23
/-- SURGE_HOLD -/
abbrev Item.surgeHold : Fin 78 := 24
/-- BASE_STEER_MA -/
abbrev Item.baseSteerMa : Fin 78 := 25
/-- BASE_WINCH_MA -/
abbrev Item.baseWinchMa : Fin 78 := 26
/-- BASE_DRIVE_F_MA -/
abbrev Item.baseDriveFMa : Fin 78 := 27
/-- BASE_DRIVE_R_MA -/
abbrev Item.baseDriveRMa : Fin 78 := 28
/-- BASE_LAMP_MA -/
abbrev Item.baseLampMa : Fin 78 := 29
/-- FLOOR_STEER_MA -/
abbrev Item.floorSteerMa : Fin 78 := 30
/-- FLOOR_WINCH_MA -/
abbrev Item.floorWinchMa : Fin 78 := 31
/-- FLOOR_DRIVE_MA -/
abbrev Item.floorDriveMa : Fin 78 := 32
/-- FLOOR_LAMP_MA -/
abbrev Item.floorLampMa : Fin 78 := 33
/-- STEER_SLEW -/
abbrev Item.steerSlew : Fin 78 := 40
/-- REAR_RATIO_PCT -/
abbrev Item.rearRatioPct : Fin 78 := 41
/-- LIMIT_FL_L -/
abbrev Item.limitFlL : Fin 78 := 42
/-- LIMIT_FL_R -/
abbrev Item.limitFlR : Fin 78 := 43
/-- LIMIT_FR_L -/
abbrev Item.limitFrL : Fin 78 := 44
/-- LIMIT_FR_R -/
abbrev Item.limitFrR : Fin 78 := 45
/-- LIMIT_RL_L -/
abbrev Item.limitRlL : Fin 78 := 46
/-- LIMIT_RL_R -/
abbrev Item.limitRlR : Fin 78 := 47
/-- LIMIT_RR_L -/
abbrev Item.limitRrL : Fin 78 := 48
/-- LIMIT_RR_R -/
abbrev Item.limitRrR : Fin 78 := 49
/-- TRIM_FL -/
abbrev Item.trimFl : Fin 78 := 50
/-- TRIM_FR -/
abbrev Item.trimFr : Fin 78 := 51
/-- TRIM_RL -/
abbrev Item.trimRl : Fin 78 := 52
/-- TRIM_RR -/
abbrev Item.trimRr : Fin 78 := 53
/-- ALIGN_TIMEOUT_MS -/
abbrev Item.alignTimeoutMs : Fin 78 := 54
/-- SETTLE_MS -/
abbrev Item.settleMs : Fin 78 := 55
/-- CORNER_STALL_MA -/
abbrev Item.cornerStallMa : Fin 78 := 56
/-- SEARCH_SPAN -/
abbrev Item.searchSpan : Fin 78 := 57
/-- SEARCH_STEP -/
abbrev Item.searchStep : Fin 78 := 58
/-- INDICATOR_ANGLE -/
abbrev Item.indicatorAngle : Fin 78 := 59
/-- ACCEL_STEP -/
abbrev Item.accelStep : Fin 78 := 60
/-- DECEL_STEP -/
abbrev Item.decelStep : Fin 78 := 61
/-- DRAG_BRAKE_PCT -/
abbrev Item.dragBrakePct : Fin 78 := 62
/-- LOCK_SPEED_MM_S -/
abbrev Item.lockSpeedMmS : Fin 78 := 63
/-- TRANSITION_CAP -/
abbrev Item.transitionCap : Fin 78 := 64
/-- AXLE_STALL_MA -/
abbrev Item.axleStallMa : Fin 78 := 65
/-- COUNTS_PER_M -/
abbrev Item.countsPerM : Fin 78 := 66
/-- MOTION_WAKE_COUNTS -/
abbrev Item.motionWakeCounts : Fin 78 := 67
/-- MAX_PAYOUT_MM -/
abbrev Item.maxPayoutMm : Fin 78 := 70
/-- FREESPOOL_N -/
abbrev Item.freespoolN : Fin 78 := 71
/-- TENSION_LIMIT_N -/
abbrev Item.tensionLimitN : Fin 78 := 72
/-- TENSION_HARD_N -/
abbrev Item.tensionHardN : Fin 78 := 73
/-- ASSIST_RATIO_PCT -/
abbrev Item.assistRatioPct : Fin 78 := 74
/-- JAM_MS -/
abbrev Item.jamMs : Fin 78 := 75
/-- REEL_SPEED_MM_S -/
abbrev Item.reelSpeedMmS : Fin 78 := 76
/-- SPOOL_COUNTS_PER_M -/
abbrev Item.spoolCountsPerM : Fin 78 := 77

/-- What a SET may give an item: a range, or a set given as the mask of its members (R179 test 3). -/
inductive ItemRange
  | range (lo hi : Int)
  | set (members : Nat)
  deriving DecidableEq, Repr

/-- One row of the settings item table. -/
structure ItemSpec where
  id : Nat
  allowed : ItemRange
  default : Int
  deriving DecidableEq, Repr

/-- Items 1 to 19 of the table. -/
def itemRowsDriverAndPack : List ItemSpec :=
  [⟨1, .range (50) 1000, 250⟩, ⟨2, .range (0) 200, 30⟩, ⟨3, .range (0) 600, 120⟩,
   ⟨4, .set 30, 14⟩, ⟨5, .range (0) 3600, 0⟩, ⟨6, .set 255, 255⟩,
   ⟨10, .range (2) 4, 3⟩, ⟨11, .range (3000) 4000, 3500⟩, ⟨12, .range (2900) 3900, 3350⟩,
   ⟨13, .range (2800) 3800, 3200⟩, ⟨14, .range (4100) 4500, 4300⟩, ⟨15, .range (50) 500, 200⟩,
   ⟨16, .range (2) 50, 20⟩, ⟨17, .range (40) 100, 70⟩, ⟨18, .range (0) 20000, 2200⟩,
   ⟨19, .range (0) 50, 20⟩]

/-- Items 20 to 33 of the table. -/
def itemRowsBudget : List ItemSpec :=
  [⟨20, .range (5000) 60000, 40000⟩, ⟨21, .range (10) 100, 75⟩, ⟨22, .range (10) 100, 40⟩,
   ⟨23, .range (0) 30000, 15000⟩, ⟨24, .range (1) 250, 25⟩, ⟨25, .range (500) 20000, 6000⟩,
   ⟨26, .range (0) 30000, 8000⟩, ⟨27, .range (1000) 40000, 12000⟩, ⟨28, .range (1000) 40000, 12000⟩,
   ⟨29, .range (0) 5000, 2000⟩, ⟨30, .range (0) 6000, 1500⟩, ⟨31, .range (0) 8000, 2000⟩,
   ⟨32, .range (0) 8000, 2000⟩, ⟨33, .range (0) 2000, 600⟩]

/-- Items 40 to 59 of the table. -/
def itemRowsSteering : List ItemSpec :=
  [⟨40, .range (1) 50, 12⟩, ⟨41, .range (0) 100, 100⟩, ⟨42, .range (50) 350, 300⟩,
   ⟨43, .range (50) 350, 300⟩, ⟨44, .range (50) 350, 300⟩, ⟨45, .range (50) 350, 300⟩,
   ⟨46, .range (50) 350, 300⟩, ⟨47, .range (50) 350, 300⟩, ⟨48, .range (50) 350, 300⟩,
   ⟨49, .range (50) 350, 300⟩, ⟨50, .range (-200) 200, 0⟩, ⟨51, .range (-200) 200, 0⟩,
   ⟨52, .range (-200) 200, 0⟩, ⟨53, .range (-200) 200, 0⟩, ⟨54, .range (200) 3000, 1500⟩,
   ⟨55, .range (20) 500, 60⟩, ⟨56, .range (500) 5000, 2500⟩, ⟨57, .range (20) 200, 100⟩,
   ⟨58, .range (1) 10, 2⟩, ⟨59, .range (50) 300, 150⟩]

/-- Items 60 to 67 of the table. -/
def itemRowsDrive : List ItemSpec :=
  [⟨60, .range (1) 200, 40⟩, ⟨61, .range (1) 200, 80⟩, ⟨62, .range (0) 100, 60⟩,
   ⟨63, .range (0) 200, 50⟩, ⟨64, .range (0) 1000, 250⟩, ⟨65, .range (1000) 40000, 18000⟩,
   ⟨66, .range (100) 5000, 800⟩, ⟨67, .range (1) 1000, 20⟩]

/-- Items 70 to 77 of the table. -/
def itemRowsWinch : List ItemSpec :=
  [⟨70, .range (500) 10000, 6000⟩, ⟨71, .range (0) 100, 10⟩, ⟨72, .range (20) 500, 250⟩,
   ⟨73, .range (20) 500, 350⟩, ⟨74, .range (50) 150, 100⟩, ⟨75, .range (200) 5000, 1000⟩,
   ⟨76, .range (20) 300, 150⟩, ⟨77, .range (100) 5000, 2000⟩]

/-- The settings item table (R179). WAKE_MASK has the members STICK, MOTION, PACK, TIMER (bits 1 to 4, R184). -/
def itemTable : List ItemSpec :=
  itemRowsDriverAndPack ++ itemRowsBudget ++ itemRowsSteering ++ itemRowsDrive ++ itemRowsWinch

/-- The default of every item at the index of its id; the table's own defaults (a test compares them). -/
def itemDefaults : Vector Int 78 :=
  #v[0, 250, 30, 120, 14, 0, 255, 0, 0, 0, 3, 3500, 3350,
     3200, 4300, 200, 20, 70, 2200, 20, 40000, 75, 40, 15000, 25, 6000,
     8000, 12000, 12000, 2000, 1500, 2000, 2000, 600, 0, 0, 0, 0, 0,
     0, 12, 100, 300, 300, 300, 300, 300, 300, 300, 300, 0, 0,
     0, 0, 1500, 60, 2500, 100, 2, 150, 40, 80, 60, 50, 250,
     18000, 800, 20, 0, 0, 6000, 10, 250, 350, 100, 1000, 150, 2000]

/-- The row of an id, if the id is one of the table (R179 test 2). -/
def itemSpec (id : Nat) : Option ItemSpec := itemTable.find? (fun r => r.id == id)

/-- R179 test 3: within the range, or naming only members of the set. -/
def ItemRange.admits (r : ItemRange) (v : Int) : Bool :=
  match r with
  | .range lo hi => decide (lo ≤ v) && decide (v ≤ hi)
  | .set members => decide (0 ≤ v) && (v.toNat ||| members) == members

/-! ## Reading the working set -/

/-- An item's working value. -/
def WorkingSet.int (w : WorkingSet) (i : Fin 78) : Int := w.items[i]

/-- The working value of an item whose range has no negative numbers. -/
def WorkingSet.nat (w : WorkingSet) (i : Fin 78) : Nat := (w.int i).toNat

/-- Replaces an item's working value. -/
def WorkingSet.setItem (w : WorkingSet) (i : Fin 78) (v : Int) : WorkingSet :=
  { w with items := w.items.set i v }

/-- The trim item of a corner. -/
def trimItem : CornerId → Fin 78
  | .fl => Item.trimFl
  | .fr => Item.trimFr
  | .rl => Item.trimRl
  | .rr => Item.trimRr

/-- A corner's trim (R88). -/
def WorkingSet.trim (w : WorkingSet) (c : CornerId) : Int := w.int (trimItem c)

/-- A corner's left limit (R88). -/
def WorkingSet.leftLimit (w : WorkingSet) : CornerId → Int
  | .fl => w.int Item.limitFlL
  | .fr => w.int Item.limitFrL
  | .rl => w.int Item.limitRlL
  | .rr => w.int Item.limitRrL

/-- A corner's right limit (R88). -/
def WorkingSet.rightLimit (w : WorkingSet) : CornerId → Int
  | .fl => w.int Item.limitFlR
  | .fr => w.int Item.limitFrR
  | .rl => w.int Item.limitRlR
  | .rr => w.int Item.limitRrR

/-- A consumer's base (05, table of consumers). -/
def WorkingSet.base (w : WorkingSet) : Consumer → Nat
  | .steer => w.nat Item.baseSteerMa
  | .winch => w.nat Item.baseWinchMa
  | .driveF => w.nat Item.baseDriveFMa
  | .driveR => w.nat Item.baseDriveRMa
  | .lamps => w.nat Item.baseLampMa

/-- A consumer's floor (05, table of consumers): the drives share one. -/
def WorkingSet.floor (w : WorkingSet) : Consumer → Nat
  | .steer => w.nat Item.floorSteerMa
  | .winch => w.nat Item.floorWinchMa
  | .driveF => w.nat Item.floorDriveMa
  | .driveR => w.nat Item.floorDriveMa
  | .lamps => w.nat Item.floorLampMa

/-- The orderings of R179 test 4. -/
def WorkingSet.ordered (w : WorkingSet) : Bool :=
  decide (w.int Item.cellCutoffMv < w.int Item.cellLimitMv) &&
  decide (w.int Item.cellLimitMv < w.int Item.cellCautionMv) &&
  decide (w.int Item.cellCautionMv < w.int Item.cellOverMv) &&
  consumers.all (fun c => decide (w.floor c ≤ w.base c)) &&
  decide (w.int Item.tensionLimitN ≤ w.int Item.tensionHardN)

/-- The mask bit of a notice kind: its kind minus 0xC1 (R184). -/
def NoticeKind.bit : NoticeKind → Nat
  | .mode => 0
  | .pack => 1
  | .steer => 2
  | .trim => 3
  | .winch => 4
  | .lamp => 5
  | .store => 6
  | .link => 7

/-- Whether a notice kind is in NOTICE_MASK (R10). -/
def WorkingSet.notices (w : WorkingSet) (k : NoticeKind) : Bool := (w.nat Item.noticeMask).testBit k.bit

/-- The mask bit of a wake cause: its code (R184). -/
def WakeCause.bit : WakeCause → Nat
  | .request => 0
  | .stick => 1
  | .motion => 2
  | .pack => 3
  | .timer => 4

/-- Whether a wake cause is honoured: REQUEST always, the others by WAKE_MASK (R44). -/
def WorkingSet.honours (w : WorkingSet) : WakeCause → Bool
  | .request => true
  | .stick => (w.nat Item.wakeMask).testBit WakeCause.stick.bit
  | .motion => (w.nat Item.wakeMask).testBit WakeCause.motion.bit
  | .pack => (w.nat Item.wakeMask).testBit WakeCause.pack.bit
  | .timer => (w.nat Item.wakeMask).testBit WakeCause.timer.bit

/-! ## Defaults (R178, 10) -/

/-- The default function records (10, table of functions). -/
def functionDefaults : Vector FuncRec 10 :=
  #v[⟨300, 1, .steady, 100, true⟩, ⟨80, 0, .steady, 100, true⟩, ⟨150, 0, .steady, 100, true⟩,
     ⟨120, 1, .steady, 100, true⟩, ⟨100, 0, .pg .pg0, 100, true⟩, ⟨100, 0, .pg .pg0, 100, true⟩,
     ⟨400, 2, .steady, 100, true⟩, ⟨900, 3, .steady, 100, true⟩, ⟨250, 1, .steady, 100, true⟩,
     ⟨150, 2, .pg .pg1, 100, true⟩]

/-- The default generator records (R167, table). -/
def genDefaults : PerGen GenRec := ⟨⟨700, .half⟩, ⟨400, .third⟩, ⟨1000, .quarter⟩, ⟨1000, .full⟩⟩

/-- The default channel map (10, table of functions). -/
def mapDefaults : Vector (Option ChannelId) 10 :=
  #v[some 0, some 1, some 2, some 3, some 4, some 5, some 6, some 7, some 8, some 9]

/-- The defaults of R178. -/
def WorkingSet.defaults : WorkingSet :=
  { items := itemDefaults, functions := functionDefaults, gens := genDefaults, map := mapDefaults,
    failed := Vector.replicate 12 false }

end Sys2Proof.Machine
end

