-- ==== Sys2Proof/Machine/Formats.lean ====
section
/-! DEFINITION. Bytes on the wire (12_message_formats.md): the frame check, number encodings, code tables, the
table of request lengths, the records inside replies and the payloads of notices. -/
namespace Sys2Proof.Machine

/-! ## The frame check (R3) -/

/-- One bit of the cyclic check: polynomial 0x1021, most significant bit first. -/
def crcBit (c : Half) : Half := if c.msb then (c <<< 1) ^^^ 0x1021#16 else c <<< 1

/-- Applies `crcBit` a number of times. -/
def crcBits : Nat → Half → Half
  | 0, c => c
  | n + 1, c => crcBits n (crcBit c)

/-- One byte enters the check. -/
def crcByte (c : Half) (b : Byte) : Half := crcBits 8 (c ^^^ (b.zeroExtend 16 <<< 8))

/-- The frame check of R3, from the initial value 0xFFFF. -/
def crc (bytes : List Byte) : Half := bytes.foldl crcByte 0xFFFF#16

/-! ## Numbers (R184): little-endian -/

/-- A u8 field. -/
def u8 (n : Nat) : List Byte := [BitVec.ofNat 8 n]

/-- The two bytes of a 16-bit field, least significant first. -/
def half (h : Half) : List Byte := [h.truncate 8, (h >>> 8).truncate 8]

/-- A u16 field. -/
def u16 (n : Nat) : List Byte := half (BitVec.ofNat 16 n)

/-- An s16 field, two's complement. -/
def s16 (i : Int) : List Byte := half (BitVec.ofInt 16 i)

/-- An s8 field, two's complement. -/
def s8 (i : Int) : List Byte := [BitVec.ofInt 8 i]

/-- The four bytes of a 32-bit field, least significant first. -/
def word (w : Word) : List Byte :=
  [w.truncate 8, (w >>> 8).truncate 8, (w >>> 16).truncate 8, (w >>> 24).truncate 8]

/-- A u32 field. -/
def u32 (n : Nat) : List Byte := word (BitVec.ofNat 32 n)

/-- An s32 field, two's complement. -/
def s32 (i : Int) : List Byte := word (BitVec.ofInt 32 i)

/-- A flag: 1 for true. -/
def flag (b : Bool) : List Byte := u8 b.toNat

/-- A u8 field that may name nothing: 0xFF for none. -/
def orNone {α : Type} (code : α → Nat) : Option α → List Byte
  | some x => u8 (code x)
  | none => u8 0xFF

/-- Joins the two bytes of a 16-bit field. -/
def joinHalf (lo hi : Byte) : Half := hi ++ lo

/-- Joins the four bytes of a 32-bit field. -/
def joinWord (b0 b1 b2 b3 : Byte) : Word := b3 ++ b2 ++ b1 ++ b0

/-- A set of numbered members as a mask, bit n for member n (R184). -/
def mask : List Bool → Nat
  | [] => 0
  | b :: bs => b.toNat + 2 * mask bs

/-- A corner set as a mask. -/
def cornerMask (t : PerCorner Bool) : Nat := mask [t.fl, t.fr, t.rl, t.rr]

/-! ## Codes (12, Codes): each list in order from 0 -/

def Status.code (x : Status) : Nat := x.ctorIdx
def DropReason.code (x : DropReason) : Nat := x.ctorIdx
def VehicleMode.code (x : VehicleMode) : Nat := x.ctorIdx
def ResetCause.code (x : ResetCause) : Nat := x.ctorIdx
def StoreResult.code (x : StoreResult) : Nat := x.ctorIdx
def StoreState.code (x : StoreState) : Nat := x.ctorIdx
def Level.code (x : Level) : Nat := x.ctorIdx
def WakeCause.code (x : WakeCause) : Nat := x.ctorIdx
def SteerMode.code (x : SteerMode) : Nat := x.ctorIdx
def SteerMachine.code (x : SteerMachine) : Nat := x.ctorIdx
def CornerState.code (x : CornerState) : Nat := x.ctorIdx
def FaultKind.code (x : FaultKind) : Nat := x.ctorIdx
def SteerEvent.code (x : SteerEvent) : Nat := x.ctorIdx
def SearchResult.code (x : SearchResult) : Nat := x.ctorIdx
def Phase.code (x : Phase) : Nat := x.ctorIdx
def EndCause.code (x : EndCause) : Nat := x.ctorIdx
def AxleState.code (x : AxleState) : Nat := x.ctorIdx
def FollowState.code (x : FollowState) : Nat := x.ctorIdx
def WinchState.code (x : WinchState) : Nat := x.ctorIdx
def Clutch.code (x : Clutch) : Nat := x.ctorIdx
def WinchEvent.code (x : WinchEvent) : Nat := x.ctorIdx
def EngageCause.code (x : EngageCause) : Nat := x.ctorIdx
def GenDuty.code (x : GenDuty) : Nat := x.ctorIdx
def Output.code (x : Output) : Nat := x.ctorIdx
def Suspect.code (x : Suspect) : Nat := x.ctorIdx
def LampEvent.code (x : LampEvent) : Nat := x.ctorIdx
def StoreEvent.code (x : StoreEvent) : Nat := x.ctorIdx
def SteerSel.code (x : SteerSel) : Nat := x.ctorIdx
def DriveSel.code (x : DriveSel) : Nat := x.ctorIdx
def LightSel.code (x : LightSel) : Nat := x.ctorIdx
def WinchSel.code (x : WinchSel) : Nat := x.ctorIdx
def Consumer.code (x : Consumer) : Nat := x.ctorIdx

/-- The corner's number (00, Names). -/
def cornerCode (c : CornerId) : Nat := c.ctorIdx

/-- A condition's code, 1 to 8 (04). -/
def conditionCode (c : Condition) : Nat := c.ctorIdx + 1

/-- A level cause's code, 1 to 10 (04). -/
def LevelCause.code : LevelCause → Nat
  | .condition c => conditionCode c
  | .recovered => 9
  | .cleared => 10

/-- A function generator's code: PG0 to PG3, STEADY. -/
def FuncGen.code : FuncGen → Nat
  | .pg g => g.ctorIdx
  | .steady => 4

/-- STEER_SEL by code; none outside its codes (R15). -/
def SteerSel.ofCode : Nat → Option SteerSel
  | 0 => some .front
  | 1 => some .rear
  | 2 => some .counter
  | 3 => some .crab
  | 4 => some .independent
  | _ => none

/-- DRIVE_SEL by code. -/
def DriveSel.ofCode : Nat → Option DriveSel
  | 0 => some .both
  | 1 => some .digRear
  | 2 => some .digFront
  | 3 => some .rearOnly
  | _ => none

/-- LIGHT_SEL by code. -/
def LightSel.ofCode : Nat → Option LightSel
  | 0 => some .off
  | 1 => some .running
  | 2 => some .trail
  | 3 => some .full
  | _ => none

/-- WINCH_SEL by code. -/
def WinchSel.ofCode : Nat → Option WinchSel
  | 0 => some .off
  | 1 => some .manual
  | 2 => some .assist
  | _ => none

/-- A function's generator field by code (R164). -/
def FuncGen.ofCode : Nat → Option FuncGen
  | 0 => some (.pg .pg0)
  | 1 => some (.pg .pg1)
  | 2 => some (.pg .pg2)
  | 3 => some (.pg .pg3)
  | 4 => some .steady
  | _ => none

/-- A generator by number (R168). -/
def genOfNumber : Nat → Option GenId
  | 0 => some .pg0
  | 1 => some .pg1
  | 2 => some .pg2
  | 3 => some .pg3
  | _ => none

/-- A generator duty by code (R168). -/
def GenDuty.ofCode : Nat → Option GenDuty
  | 0 => some .quarter
  | 1 => some .third
  | 2 => some .half
  | 3 => some .full
  | _ => none

/-- A flag by value; none for a value other than 0 and 1 (R184). -/
def flagOfCode : Nat → Option Bool
  | 0 => some false
  | 1 => some true
  | _ => none

/-- A corner by number (R108). -/
def cornerOfNumber : Nat → Option CornerId
  | 0 => some .fl
  | 1 => some .fr
  | 2 => some .rl
  | 3 => some .rr
  | _ => none

/-- A channel by number (R166). -/
def channelOfNumber (n : Nat) : Option ChannelId := if h : n < 12 then some ⟨n, h⟩ else none

/-- A function by number (R164). -/
def functionOfNumber (n : Nat) : Option FunctionId := if h : n < 10 then some ⟨n, h⟩ else none

/-! ## The table of requests (12) -/

/-- The payload length of a defined request kind; none for a kind the table does not list. -/
def definedLen (kind : Byte) : Option Nat :=
  match kind.toNat with
  | 0x01 => some 0
  | 0x02 => some 0
  | 0x03 => some 0
  | 0x04 => some 0
  | 0x05 => some 0
  | 0x06 => some 0
  | 0x07 => some 0
  | 0x10 => some 0
  | 0x11 => some 0
  | 0x12 => some 0
  | 0x13 => some 1
  | 0x18 => some 1
  | 0x19 => some 1
  | 0x1A => some 1
  | 0x1B => some 0
  | 0x1C => some 0
  | 0x20 => some 0
  | 0x24 => some 1
  | 0x25 => some 0
  | 0x26 => some 0
  | 0x28 => some 2
  | 0x29 => some 7
  | 0x2A => some 1
  | 0x2B => some 4
  | 0x2C => some 1
  | 0x2D => some 1
  | 0x30 => some 5
  | 0x31 => some 1
  | 0x32 => some 0
  | 0x33 => some 0
  | 0x34 => some 0
  | _ => none

/-- The request range, 0x01 to 0x3F (R3 step 2). -/
def isRequestKind (kind : Byte) : Bool := decide (1 ≤ kind.toNat) && decide (kind.toNat ≤ 0x3F)

/-! ## Records inside replies and notices (12, table of records) -/

/-- The wake cause set as a mask by cause code. -/
def WakeSet.mask (w : WakeSet) : Nat :=
  Machine.mask [w.request, w.stick, w.motion, w.pack, w.timer]

/-- The confirmed condition set as a mask: code minus 1. -/
def PerCond.mask (t : PerCond Bool) : Nat := Machine.mask (conditions.map t.get)

/-- Allotment record (14 bytes). -/
def Allot.bytes (a : Allot) (base floor : Nat) : List Byte :=
  u16 base ++ u16 floor ++ u16 a.scaled ++ u32 a.granted ++ u8 (Machine.mask [a.wish, a.lowered])
    ++ u8 a.quiet ++ u8 a.hold ++ u8 a.lapse

/-- A stall's age in ms at servo frame `now`, held at 65,535 (R98). -/
def stallAge (now t : Nat) : Nat := min 65535 ((now - t) * 10)

/-- Three stall ages, oldest first, 0 where there is no entry. -/
def stallAges (now : Nat) : List Nat → List Byte
  | [] => u16 0 ++ u16 0 ++ u16 0
  | [a] => u16 (stallAge now a) ++ u16 0 ++ u16 0
  | [a, b] => u16 (stallAge now a) ++ u16 (stallAge now b) ++ u16 0
  | a :: b :: c :: _ => u16 (stallAge now a) ++ u16 (stallAge now b) ++ u16 (stallAge now c)

/-- Corner record (23 bytes). The raw position is trim plus commanded angle (R88). -/
def Corner.bytes (k : Corner) (trim left right : Int) (now : Nat) : List Byte :=
  u8 (k.state.code + 8 * k.fault.code + 32 * k.sense.toNat + 64 * k.history.length)
    ++ s16 trim ++ s16 left ++ s16 right ++ s16 k.target ++ s16 k.commanded ++ s16 (trim + k.commanded)
    ++ u16 k.current ++ u16 k.stateTimer ++ stallAges now k.history

/-- Result entry (7 bytes). -/
def ResultEntry.bytes (e : ResultEntry) : List Byte :=
  u8 e.result.code ++ s16 e.oldTrim ++ s16 (e.newTrim.getD 0) ++ u16 e.steps

/-- The four result entries in corner order. -/
def resultsBytes (t : PerCorner ResultEntry) : List Byte :=
  t.fl.bytes ++ t.fr.bytes ++ t.rl.bytes ++ t.rr.bytes

/-- Axle record (22 bytes); the surge wish is the allotment record's. -/
def Axle.bytes (a : Axle) (wish : Bool) : List Byte :=
  u8 a.state.code ++ s16 a.target ++ s16 a.ramped ++ u16 a.ceiling ++ s16 a.effective ++ u8 a.brake
    ++ u16 a.current ++ s16 a.speed ++ s16 a.counts ++ u16 a.restMs ++ u16 a.stallMs ++ u8 a.limitCount
    ++ flag wish

/-- Channel record (4 bytes). -/
def Channel.bytes (c : Channel) (failed : Bool) : List Byte :=
  u8 (c.commanded.toNat + 2 * c.output.code + 8 * c.suspect.code + 32 * failed.toNat)
    ++ u8 c.brightness ++ u16 c.current

/-- Generator record (5 bytes). -/
def genBytes (g : GenRec) (r : GenRun) : List Byte :=
  u16 g.period ++ u8 (g.duty.code + 4 * r.running.toNat + 8 * r.on.toNat) ++ u16 r.ms

/-- Whether the line is referenced, and its payout, 0 when it is not. -/
def lineBytes (l : Option LineRef) : List Byte :=
  flag l.isSome ++ u16 ((l.map LineRef.payout).getD 0)

/-- The channel map as ten u8 in function order. -/
def mapBytes (m : Vector (Option ChannelId) 10) : List Byte :=
  (m.toList.map (orNone Fin.val)).flatten

/-! ## The image's bytes (R178; their layout is the model's, log 11) -/

/-- Function record as SET_FUNCTION's payload lays it out, after the function number. -/
def FuncRec.bytes (r : FuncRec) : List Byte :=
  u16 r.nominal ++ u8 r.shedClass ++ u8 r.generator.code ++ u8 r.brightness ++ flag r.remap

/-- A working set: items by id as s32, function records, generator records, channel map, failed set. -/
def WorkingSet.bytes (w : WorkingSet) : List Byte :=
  (w.items.toList.map s32).flatten ++ (w.functions.toList.map FuncRec.bytes).flatten
    ++ (genIds.map fun g => u16 (w.gens.get g).period ++ u8 (w.gens.get g).duty.code).flatten
    ++ mapBytes w.map ++ u16 (mask w.failed.toList)

/-- The check computed afresh over a content, by R3's computation (R178). -/
def WorkingSet.check (w : WorkingSet) : Half := crc w.bytes

/-- The stored check matches the one computed afresh (R178). -/
def Image.valid (i : Image) : Bool := decide (i.content.check = i.check)

/-- The image that a completed write leaves: the content with its check (R181). -/
def Image.of (w : WorkingSet) : Image := ⟨w, w.check⟩

/-- The image from the start of a write until its completion: its stored check does not match (R180; log 11). -/
def Image.spoil (i : Image) : Image := { i with check := ~~~i.content.check }

/-! ## Notices (12, Notices) -/

/-- A notice's kind. -/
def Notice.kind : Notice → NoticeKind
  | .mode _ => .mode
  | .pack _ => .pack
  | .steer _ => .steer
  | .trim _ => .trim
  | .winch _ => .winch
  | .lamp _ => .lamp
  | .store _ => .store
  | .link _ => .link

/-- The kind code, 0xC1 to 0xC8. -/
def NoticeKind.code (k : NoticeKind) : Byte := BitVec.ofNat 8 (0xC1 + k.bit)

/-- A notice's payload. -/
def Notice.payload : Notice → List Byte
  | .mode n => u8 n.new.code ++ u8 n.prev.code ++ u8 n.set.mask ++ orNone WakeCause.code n.first
  | .pack n => u8 n.prev.code ++ u8 n.new.code ++ u8 n.cause.code ++ u16 n.usedMah
  | .steer n => u8 n.event.code ++ u8 n.mode.code ++ u8 (cornerMask n.failed)
  | .trim n => u8 n.cause.code ++ resultsBytes n.results
  | .winch n => u8 n.event.code ++ orNone EngageCause.code n.cause ++ u8 n.state.code ++ u8 n.clutch.code
      ++ lineBytes n.line ++ u16 n.load
  | .lamp n => u8 n.event.code ++ orNone Fin.val n.channel ++ orNone Fin.val n.fn ++ orNone Fin.val n.newChannel
      ++ u16 (mask n.failed.toList) ++ mapBytes n.map
  | .store n => u8 n.event.code ++ u8 n.store.code
  | .link n => u8 n.count ++ u8 n.reason.code

/-- The frame a notice is sent as: tag 0 (12). -/
def Notice.frame (n : Notice) : TxFrame := ⟨n.kind.code, 0, n.payload⟩

/-- The bytes of a frame on the wire: sync, LEN, KIND, TAG, payload, check low byte first (12, R11). -/
def TxFrame.wire (f : TxFrame) : List Byte :=
  let inner := BitVec.ofNat 8 f.payload.length :: f.kind :: f.tag :: f.payload
  Config.sync :: inner ++ half (crc inner)

end Sys2Proof.Machine
end

