-- ==== Sys2Proof/Machine/ResetValues.lean ====
section
/-! DEFINITION. Each block's state after a reset, as its chapter gives it. Values the spec does not state are
those of log 13. -/
namespace Sys2Proof.Machine

/-- No notice pending. -/
def noticesEmpty : NoticeSet :=
  { mode := none, pack := none, steer := none, trim := none, winch := none, lamp := none, store := none,
    link := none }

/-- LNK after either reset (R1, R5, R6, R7, R10, R11, R12). -/
def linkReset : Link :=
  { rx := .hunt, gapMs := 0, waiting := [], slots := 0, held := false, loadMs := 0, replies := [],
    notices := noticesEmpty, dropCount := 0, lastDrop := none, tx := none, resetting := false }

/-- A switch after either reset (R20, R22). -/
def switchReset (α : Type) : Switch α := { candidate := none, last := none, queue := [] }

/-- IFL after either reset (R18, R20, R22, R27). -/
def intentReset : Intent :=
  { axes := ⟨0, 0, 0, 0⟩, steer := switchReset SteerSel, drive := switchReset DriveSel,
    light := switchReset LightSel, winch := switchReset WinchSel }

/-- The empty wake cause set. -/
def wakeEmpty : WakeSet := ⟨false, false, false, false, false⟩

/-- MDC after a reset with the given cause (R28). -/
def mdcReset (cause : ResetCause) : Mdc :=
  { mode := .start, resetCause := cause, deferredHello := none, stageMs := 0, packCheckCount := 0,
    silenceMs := 0, autoParkMs := 0, parkTimer := none, motionCount := 0, resumeCount := 0,
    wakeSet := wakeEmpty, wakeFirst := none, wakeCentering := false, notNeutral := false,
    storeResult := .defaulted, startDone := false, lastNonNeutral := false }

/-- PKM after a reset that leaves the given energy counter and level (R50, R51, R54, R57). -/
def pkmReset (usedMah residue : Nat) (level : Level) : Pkm :=
  { sample := none, usedMah := usedMah, residue := residue, counts := PerCond.ofFn fun _ => 0,
    confirmed := PerCond.ofFn fun _ => false, sagExempt := false, level := level, recovery := 0,
    lastCause := none }

/-- An allotment record after either reset (R68). -/
def allotReset : Allot :=
  { scaled := 0, granted := 0, wish := false, lowered := false, quiet := 0, hold := 0, lapse := 0 }

/-- CAU after either reset (R68). -/
def cauReset : Cau :=
  { budget := 0, budgetLevel := .normal, records := PerConsumer.ofFn fun _ => allotReset, holder := none,
    calm := 0 }

/-- A corner record after either reset (R88). -/
def cornerReset : Corner :=
  { state := .unpowered, fault := .none, target := 0, commanded := 0, current := 0, stateTimer := 0,
    stallCount := 0, openCount := 0, history := [], sense := false, prevSense := false, clearing := false,
    loadHeld := false, pulse := none }

/-- STC after either reset (R88). -/
def stcReset : Stc :=
  { machine := .unpowered, mode := .front, pending := none, alignMs := 0, settleMs := 0, starved := false,
    slewStep := 0, frameNo := 0, corners := PerCorner.all cornerReset }

/-- TSE after either reset (R113). -/
def tseReset : Tse :=
  { running := false, list := [], corner := none, phase := .wait, frames := 0, span := 0, step := 0, probe := 0,
    firstSample := false, lastClear := false, last0 := 0, results := PerCorner.all ⟨.none, 0, none, 0⟩,
    endCause := .none }

/-- An axle record after either reset (R127). -/
def axleReset : Axle :=
  { state := .coast, target := 0, ramped := 0, ceiling := 1000, effective := 0, brake := 0, current := 0,
    speed := 0, counts := 0, restMs := 0, stallMs := 0, limitCount := 0 }

/-- DRC after either reset (R127). -/
def drcReset : Drc :=
  { mode := .both, lockPending := none, follow := .none, assistTarget := 0, axles := ⟨axleReset, axleReset⟩,
    braking := false, reversing := false, speed := 0 }

/-- WNC after either reset (R145). -/
def wncReset : Wnc :=
  { state := .stopped, clutch := .engaged, clutchMs := 0, selection := .off, rearm := false, line := none,
    lineSpeed := 0, load := 0, lineIn := false, lineInPrev := false, jamMs := 0, demand := 0, duty := 0,
    ceiling := 1000, current := 0, limitCount := 0 }

/-- A channel record after either reset (R162). -/
def channelReset : Channel :=
  { commanded := false, brightness := 0, output := .off, tripSeen := false, current := 0, suspect := .none,
    blink := none }

/-- A stopped generator (R167): not in ON, 0 ms, as its record reports them (the model's choice, log 47). -/
def genStopped : GenRun := { running := false, on := false, ms := 0 }

/-- LMP after either reset (R162, R167, R169, R170). -/
def lmpReset : Lmp :=
  { channels := Vector.replicate 12 channelReset, gens := PerGen.ofFn fun _ => genStopped, scene := .off,
    requested := Vector.replicate 10 false, lit := Vector.replicate 10 false, shed := [] }

/-- An image that was never written (R178, log 11): a stored check that does not match its content. -/
def imageNeverWritten : Image := { content := WorkingSet.defaults, check := 0 }

/-- SST after either reset: the image keeps its content (R178). -/
def sstReset (image : Image) : Sst :=
  { working := WorkingSet.defaults, image := image, store := .invalid, snapshot := none, writeMs := 0 }

end Sys2Proof.Machine
end

