-- ==== Sys2Proof/Machine/State.lean ====
section
/-! DEFINITION. The part's whole state, the reasons a step can stop, and the state after reset. -/
namespace Sys2Proof.Machine

/-- Reasons the machine stops with a fault: none. Every request the part turns away is answered with a status,
every frame it turns away is counted as a drop, and a part without supply waits for its power-on reset; no rule
names a command that stops it (log 36). Nobody raises a fault: safe. -/
inductive Fault
  deriving DecidableEq, Repr

/-- Reasons a step is refused. -/
inductive Refusal
  /-- A command without a meaning yet, by the name of its row; raised by the dispatch alone. Safe: the model stops
  where the part goes on. -/
  | notModelled (mnemonic : String)
  deriving DecidableEq, Repr

/-- The part's state: one field per block that owns state (00, Block overview; TSE is part of STC but has a table
of its own), the supply, the STORE_LOCK input, and the queue of waiting commands. -/
structure State where
  /-- Commands waiting, first in first out (log 1). -/
  pending : List Instr
  /-- The logic has supply (R67, log 8). -/
  powered : Bool
  /-- The level of the STORE_LOCK input: true is high (R180, log 14). -/
  storeLock : Bool
  link : Link
  intent : Intent
  mdc : Mdc
  pkm : Pkm
  cau : Cau
  stc : Stc
  tse : Tse
  drc : Drc
  wnc : Wnc
  lmp : Lmp
  sst : Sst
  deriving DecidableEq, Repr

/-- The part right after its first power-on reset: every block at its reset values, the image never written (its
check does not match, log 11), no command waiting. -/
def State.reset : State :=
  { pending := [], powered := true, storeLock := false, link := linkReset, intent := intentReset,
    mdc := mdcReset .powerOn, pkm := pkmReset 0 0 .normal, cau := cauReset, stc := stcReset, tse := tseReset,
    drc := drcReset, wnc := wncReset, lmp := lmpReset, sst := sstReset imageNeverWritten }

end Sys2Proof.Machine
end

