-- ==== Sys2Proof/Machine/Ops.lean ====
section
/-! DEFINITION. The named operations every block uses: replacing one block's state, raising a notice, producing a
reply, counting a drop, and the transmitter's choice of its next frame. -/
namespace Sys2Proof.Machine

/-! ## Replacing one part of the state -/

/-- Replaces `pending`. -/
def State.setPending (s : State) (x : List Instr) : State := { s with pending := x }

/-- Replaces `powered`. -/
def State.setPowered (s : State) (x : Bool) : State := { s with powered := x }

/-- Replaces `storeLock`. -/
def State.setStoreLock (s : State) (x : Bool) : State := { s with storeLock := x }

/-- Replaces `link`. -/
def State.setLink (s : State) (x : Link) : State := { s with link := x }

/-- Replaces `intent`. -/
def State.setIntent (s : State) (x : Intent) : State := { s with intent := x }

/-- Replaces `mdc`. -/
def State.setMdc (s : State) (x : Mdc) : State := { s with mdc := x }

/-- Replaces `pkm`. -/
def State.setPkm (s : State) (x : Pkm) : State := { s with pkm := x }

/-- Replaces `cau`. -/
def State.setCau (s : State) (x : Cau) : State := { s with cau := x }

/-- Replaces `stc`. -/
def State.setStc (s : State) (x : Stc) : State := { s with stc := x }

/-- Replaces `tse`. -/
def State.setTse (s : State) (x : Tse) : State := { s with tse := x }

/-- Replaces `drc`. -/
def State.setDrc (s : State) (x : Drc) : State := { s with drc := x }

/-- Replaces `wnc`. -/
def State.setWnc (s : State) (x : Wnc) : State := { s with wnc := x }

/-- Replaces `lmp`. -/
def State.setLmp (s : State) (x : Lmp) : State := { s with lmp := x }

/-- Replaces `sst`. -/
def State.setSst (s : State) (x : Sst) : State := { s with sst := x }

/-! ## The pending notice set (R10) -/

/-- Enters a notice; the new content replaces the old of its kind. -/
def NoticeSet.put (t : NoticeSet) : Notice → NoticeSet
  | .mode n => { t with mode := some n }
  | .pack n => { t with pack := some n }
  | .steer n => { t with steer := some n }
  | .trim n => { t with trim := some n }
  | .winch n => { t with winch := some n }
  | .lamp n => { t with lamp := some n }
  | .store n => { t with store := some n }
  | .link n => { t with link := some n }

/-- The pending notice of a kind. -/
def NoticeSet.get (t : NoticeSet) : NoticeKind → Option Notice
  | .mode => t.mode.map .mode
  | .pack => t.pack.map .pack
  | .steer => t.steer.map .steer
  | .trim => t.trim.map .trim
  | .winch => t.winch.map .winch
  | .lamp => t.lamp.map .lamp
  | .store => t.store.map .store
  | .link => t.link.map .link

/-- Removes every notice whose kind fails a test. -/
def NoticeSet.keep (p : NoticeKind → Bool) (t : NoticeSet) : NoticeSet :=
  { mode := if p .mode then t.mode else none
    pack := if p .pack then t.pack else none
    steer := if p .steer then t.steer else none
    trim := if p .trim then t.trim else none
    winch := if p .winch then t.winch else none
    lamp := if p .lamp then t.lamp else none
    store := if p .store then t.store else none
    link := if p .link then t.link else none }

/-- The notice kinds, lowest kind code first. -/
def noticeKinds : List NoticeKind := [.mode, .pack, .steer, .trim, .winch, .lamp, .store, .link]

/-- The pending notice with the lowest kind code (R11). -/
def NoticeSet.lowest (t : NoticeSet) : Option Notice := noticeKinds.findSome? t.get

/-! ## The transmitter (R11) -/

/-- An idle transmitter takes the oldest reply, else the lowest pending notice, else stays idle. Taking the LINK
notice restarts the drop count at 0 (R12). -/
def Link.kick (l : Link) : Link :=
  match l.tx with
  | some _ => l
  | none =>
    match l.replies with
    | r :: rs => { l with tx := some r, replies := rs }
    | [] =>
      match l.notices.lowest with
      | some n =>
        { l with
          tx := some n.frame
          notices := l.notices.keep (fun k => decide (k ≠ n.kind))
          dropCount := if n.kind = .link then 0 else l.dropCount }
      | none => l

/-- A notice is raised: entered when its kind is in NOTICE_MASK, else not kept (R10). -/
def Link.raise (l : Link) (inMask : Bool) (n : Notice) : Link :=
  if inMask then { l with notices := l.notices.put n }.kick else l

/-- A reply enters the tail of the reply queue (R6). -/
def Link.answer (l : Link) (r : TxFrame) : Link := { l with replies := l.replies ++ [r] }.kick

/-- A drop (R12): the count rises by one up to 255, the reason is recorded, a LINK notice is raised. -/
def Link.drop (l : Link) (inMask : Bool) (why : DropReason) : Link :=
  { l with dropCount := min 255 (l.dropCount + 1), lastDrop := some why }.raise inMask
    (.link ⟨min 255 (l.dropCount + 1), why⟩)

/-! ## The same on the whole state -/

/-- A block raises a notice. -/
def State.raise (s : State) (n : Notice) : State :=
  s.setLink (s.link.raise (s.sst.working.notices n.kind) n)

/-- A frame is dropped. -/
def State.drop (s : State) (why : DropReason) : State :=
  s.setLink (s.link.drop (s.sst.working.notices .link) why)

/-- A reply to request `q` with the given payload: kind plus 0x80, the same tag (R7, R185). -/
def State.answer (s : State) (q : RawRequest) (payload : List Byte) : State :=
  s.setLink (s.link.answer ⟨q.kind + 0x80, q.tag, payload⟩)

/-- A reply with status OK and the reply payload of its kind (R8). -/
def State.ok (s : State) (q : RawRequest) (body : List Byte) : State :=
  s.answer q (u8 Status.ok.code ++ body)

/-- A refusal without a reason: LEN 1 (R185). -/
def State.refuse (s : State) (q : RawRequest) (why : Status) : State := s.answer q (u8 why.code)

/-- A refusal with the owner's reason code: LEN 2 (R185). -/
def State.refuseWith (s : State) (q : RawRequest) (why : Status) (reason : Nat) : State :=
  s.answer q (u8 why.code ++ u8 reason)

/-! ## Arithmetic -/

/-- Holds a number within a range, at the nearer end. -/
def clamp (lo hi v : Int) : Int := max lo (min hi v)

/-- Moves `v` toward `t` by at most `step`, stopping at `t`. -/
def toward (v t : Int) (step : Nat) : Int :=
  if v < t then min t (v + step) else max t (v - step)

end Sys2Proof.Machine
end

