-- ==== Sys2Proof/Machine/Flags.lean ====
section
/-! DEFINITION. The judgements blocks make of the state: neutral axes, stationary, park conditions, pack
conditions, surge states and wishes, limiters, the allowed set of steering modes. -/
namespace Sys2Proof.Machine

/-- The working set every block reads (11). -/
abbrev State.ws (s : State) : WorkingSet := s.sst.working

/-! ## Axes (R19) -/

/-- An axis value is neutral: its magnitude is at most AXIS_DEADBAND. -/
def neutral (w : WorkingSet) (v : Int) : Bool := decide (v.natAbs ≤ w.nat Item.axisDeadband)

/-- A throttle or winch axis as its consumers read it: exactly 0 when neutral, else as held. -/
def shaped (w : WorkingSet) (v : Int) : Int := if neutral w v then 0 else v

/-- The report's first judgement: throttle and winch both neutral (R25). -/
def driveWinchNeutral (w : WorkingSet) (a : Axes) : Bool := neutral w a.throttle && neutral w a.winch

/-- The report's second judgement: at least one axis non-neutral (R25). -/
def anyNonNeutral (w : WorkingSet) (a : Axes) : Bool :=
  !(neutral w a.throttle && neutral w a.steer && neutral w a.winch && neutral w a.aux)

/-! ## Motion and parking -/

/-- The vehicle is stationary: both axle speeds are 0 (R129). -/
def Drc.stationary (d : Drc) : Bool := decide (d.axles.front.speed = 0) && decide (d.axles.rear.speed = 0)

/-- The first park condition that fails, as its reason code (R40, 03 table of reasons): MOVING 4, WINCH 5,
STEERING 6, SEARCH 7, SAVING 8. -/
def State.parkFailure (s : State) : Option Nat :=
  if !s.drc.stationary then some 4
  else if s.wnc.state ≠ .stopped then some 5
  else if s.stc.machine ≠ .steady ∧ s.stc.machine ≠ .search then some 6
  else if s.tse.running then some 7
  else if s.sst.store = .writing then some 8
  else none

/-- The auto-park timer runs: RUN, AUTO_PARK_S above 0, the park conditions hold and the latest report had no
non-neutral axis (R41). -/
def State.autoParkRuns (s : State) : Bool :=
  decide (s.mdc.mode = .run) && decide (0 < s.ws.nat Item.autoParkS) && s.parkFailure.isNone
    && !s.mdc.lastNonNeutral

/-! ## Pack conditions (04) -/

/-- The level a condition holds (04, table of conditions). -/
def conditionLevel : Condition → Level
  | .uvCaution => .caution
  | .imbalance => .caution
  | .reserve => .caution
  | .uvLimit => .limit
  | .overtemp => .limit
  | .overcurrent => .limit
  | .uvCutoff => .cutoff
  | .overvolt => .cutoff

/-- Some cell reads below a figure. -/
def Sample.anyBelow (r : Sample) (mv : Int) : Bool := r.cells.any (fun c => decide (c < mv))

/-- Some cell reads above a figure. -/
def Sample.anyAbove (r : Sample) (mv : Int) : Bool := r.cells.any (fun c => decide (mv < c))

/-- The highest cell reading minus the lowest exceeds a figure (R53): some pair of cells lies further apart. -/
def Sample.spreadOver (r : Sample) (mv : Int) : Bool :=
  r.cells.any (fun a => r.cells.any (fun b => decide (mv < a - b)))

/-- RESERVE (R53), in whole numbers without division. -/
def reservePresent (w : WorkingSet) (usedMah : Nat) : Bool :=
  decide (0 < w.nat Item.packCapacityMah) &&
    decide (w.nat Item.packCapacityMah * (100 - w.nat Item.reservePct) ≤ usedMah * 100)

/-- OVERCURRENT (R55): current × 10 exceeds 11 × (budget, plus SURGE_MA when the slot is held). -/
def overcurrentPresent (w : WorkingSet) (c : Cau) (current : Int) : Bool :=
  decide (((c.budget + if c.holder.isSome then w.nat Item.surgeMa else 0) * 11 : Nat) < current * 10)

/-- A condition is present at a sample (R53). -/
def conditionPresent (w : WorkingSet) (c : Cau) (usedMah : Nat) (r : Sample) : Condition → Bool
  | .uvCaution => r.anyBelow (w.int Item.cellCautionMv)
  | .imbalance => r.spreadOver (w.int Item.imbalanceMv)
  | .reserve => reservePresent w usedMah
  | .uvLimit => r.anyBelow (w.int Item.cellLimitMv)
  | .overtemp => decide (w.int Item.tempLimitC < r.temperature)
  | .overcurrent => overcurrentPresent w c r.current
  | .uvCutoff => r.anyBelow (w.int Item.cellCutoffMv)
  | .overvolt => r.anyAbove (w.int Item.cellOverMv)

/-- A condition is present for recovery (R58): the voltage thresholds moved 50 mV toward safety. -/
def presentForRecovery (w : WorkingSet) (c : Cau) (usedMah : Nat) (r : Sample) : Condition → Bool
  | .uvCaution => r.anyBelow (w.int Item.cellCautionMv + 50)
  | .imbalance => r.spreadOver (w.int Item.imbalanceMv - 50)
  | .uvLimit => r.anyBelow (w.int Item.cellLimitMv + 50)
  | k => conditionPresent w c usedMah r k

/-- The confirm figure: 4 for OVERCURRENT, CONFIRM_SAMPLES for the others (R54). -/
def confirmFigure (w : WorkingSet) : Condition → Nat
  | .overcurrent => 4
  | _ => w.nat Item.confirmSamples

/-- The highest level held by a confirmed condition, NORMAL when none is (R57). -/
def highestLevel (t : PerCond Bool) : Level :=
  if t.uvCutoff || t.overvolt then .cutoff
  else if t.uvLimit || t.overtemp || t.overcurrent then .limit
  else if t.uvCaution || t.imbalance || t.reserve then .caution
  else .normal

/-- The cause of a rise: the lowest code among the confirmed conditions that hold the new level (R57). -/
def riseCause (t : PerCond Bool) (level : Level) : Option Condition :=
  conditions.find? (fun c => t.get c && decide (conditionLevel c = level))

/-! ## Steering modes and failed corners (06) -/

/-- The set of FAILED corners. -/
def Stc.failedSet (c : Stc) : PerCorner Bool := c.corners.map (fun k => decide (k.state = .failed))

/-- A front corner has failed. -/
def frontFailed (f : PerCorner Bool) : Bool := f.fl || f.fr

/-- A rear corner has failed. -/
def rearFailed (f : PerCorner Bool) : Bool := f.rl || f.rr

/-- The allowed set (R100). A corner cleared out of mode NONE leaves NONE in effect (R108) and outside this set until
another mode is reached (the model's choice, log 49). -/
def modeAllowed (f : PerCorner Bool) : SteerMode → Bool
  | .front => !frontFailed f
  | .rear => !rearFailed f
  | .counter => !frontFailed f && !rearFailed f
  | .crab => !frontFailed f && !rearFailed f
  | .independent => !frontFailed f && !rearFailed f
  | .none => frontFailed f && rearFailed f

/-- The fallback mode (R100); with no corner failed there is none to fall back to, and FRONT stands in. -/
def fallbackMode (f : PerCorner Bool) : SteerMode :=
  if frontFailed f && rearFailed f then .none else if frontFailed f then .rear else .front

/-- The allowed set as a mask over steering modes (R184). -/
def allowedMask (f : PerCorner Bool) : Nat :=
  mask ([SteerMode.front, .rear, .counter, .crab, .independent, .none].map (modeAllowed f))

/-- The mode a STEER_SEL code names. -/
def SteerSel.mode : SteerSel → SteerMode
  | .front => .front
  | .rear => .rear
  | .counter => .counter
  | .crab => .crab
  | .independent => .independent

/-! ## Current allotment (05) -/

/-- A consumer is in its surge state (R76). -/
def State.inSurgeState (s : State) : Consumer → Bool
  | .steer => decide (s.stc.machine = .steady) || decide (s.stc.machine = .aligning)
  | .winch => decide (s.wnc.state = .reeling) || decide (s.wnc.state = .assist)
  | .driveF => decide (s.drc.axles.front.state = .drive)
  | .driveR => decide (s.drc.axles.rear.state = .drive)
  | .lamps => false

/-- The quiet-count threshold of a consumer (R78); LAMPS has none. -/
def surgeThreshold (lowered : Bool) : Consumer → Option Nat
  | .steer => some (8 + lowered.toNat)
  | .winch => some (8 + lowered.toNat)
  | .driveF => some (10 + lowered.toNat)
  | .driveR => some (10 + lowered.toNat)
  | .lamps => none

/-- The slot may be held at this level (R79): NORMAL or CAUTION. -/
def slotAllowed : Level → Bool
  | .normal => true
  | .caution => true
  | .limit => false
  | .cutoff => false

/-! ## Axles and winch (08, 09) -/

/-- The axle's surge consumer (R138). -/
def axleConsumer : AxleId → Consumer
  | .front => .driveF
  | .rear => .driveR

/-- The axle a drive mode holds LOCKED (08, table of drive modes). -/
def DriveSel.locks : DriveSel → AxleId → Bool
  | .digRear, .rear => true
  | .digFront, .front => true
  | _, _ => false

/-- A limiter's ceiling, moved against a grant (R137, R153). -/
def movedCeiling (ceiling current grant : Nat) : Nat :=
  if grant < current then max 100 (ceiling - 50)
  else if current * 10 < grant * 9 then min 1000 (ceiling + 20)
  else ceiling

/-- An axle's limiter is active (R138). -/
def Axle.limiterActive (a : Axle) (grant : Nat) : Bool :=
  (decide (a.state = .drive) || decide (a.state = .rest)) &&
    (decide (grant < a.current) || decide (a.ceiling < a.ramped.natAbs))

/-- The winch reels: REELING or ASSIST. -/
def WinchState.reels : WinchState → Bool
  | .reeling => true
  | .assist => true
  | _ => false

/-- The winch moves: REELING, ASSIST or PAYING. -/
def WinchState.moves : WinchState → Bool
  | .reeling => true
  | .assist => true
  | .paying => true
  | _ => false

/-- The solenoid is powered (R145). -/
def WinchState.solenoid : WinchState → Bool
  | .clutchReleasing => true
  | .freespool => true
  | _ => false

/-- What a motor bridge does (R145, 08). -/
inductive Bridge
  /-- Off: the motor turns freely. -/
  | off
  /-- The motor is shorted through the lower switches at a strength in percent. -/
  | brake (percent : Nat)
  /-- Driving at a duty in permille. -/
  | drive (duty : Int)
  deriving DecidableEq, Repr

/-- The winch bridge (R145). -/
def Wnc.bridge (w : Wnc) : Bridge :=
  match w.state with
  | .stopped => .brake 100
  | .holding => .brake 100
  | .jammed => .brake 100
  | .reeling => .drive w.duty
  | .assist => .drive w.duty
  | .paying => .drive w.duty
  | .clutchReleasing => .off
  | .freespool => .off
  | .clutchEngaging => .off

/-- An axle's bridge (08, axle states). -/
def Axle.bridge (a : Axle) : Bridge :=
  match a.state with
  | .coast => .off
  | .drive => .drive a.effective
  | .rest => .drive a.effective
  | .brake => .brake a.brake
  | .locked => .brake a.brake

/-- The idle state a movement ends in "by load" (R148): HOLDING above FREESPOOL_N, else STOPPED. -/
def Wnc.byLoad (w : Wnc) (ws : WorkingSet) : WinchState :=
  if ws.nat Item.freespoolN < w.load then .holding else .stopped

/-- The line is at its payout limit (R151): referenced and paid out at least MAX_PAYOUT_MM. -/
def Wnc.atPayoutLimit (w : Wnc) (ws : WorkingSet) : Bool :=
  match w.line with
  | some l => decide (ws.nat Item.maxPayoutMm ≤ l.payout)
  | none => false

end Sys2Proof.Machine
end

