-- ==== Sys2Proof/Machine/Allotment.lean ====
section
/-! DEFINITION. The Current Allotment Unit (05): the budget, the scaling of the bases, the surge slot and its
arbitration, the recomputations outside the window. -/
namespace Sys2Proof.Machine

/-! ## Budget and scaling -/

/-- The level budget (R70). -/
def budgetFor (w : WorkingSet) : Level → Nat
  | .normal => w.nat Item.budgetMa
  | .caution => w.nat Item.budgetMa * w.nat Item.cautionPct / 100
  | .limit => w.nat Item.budgetMa * w.nat Item.limitPct / 100
  | .cutoff => 0

/-- How the drives share an amount (R71 step 2): halves, DRIVE_F's rounded down; a drive whose room is smaller than
its half gives its whole room and the other gives the rest. -/
def driveSplit (amount roomF roomR : Nat) : Nat × Nat :=
  if roomF < amount / 2 then (roomF, amount - roomF)
  else if roomR < amount - amount / 2 then (amount - roomR, roomR)
  else (amount / 2, amount - amount / 2)

/-- One pass over the consumers (R71): takes a deficit from `cur`, from no consumer more than its room, in the order
LAMPS, the drives together, WINCH, STEER. Answers what is left to each and the deficit left. -/
def scalePass (deficit : Nat) (cur room : PerConsumer Nat) : PerConsumer Nat × Nat :=
  let lamps := min deficit room.lamps
  let d1 := deficit - lamps
  let pair := min d1 (room.driveF + room.driveR)
  let split := driveSplit pair room.driveF room.driveR
  let d2 := d1 - pair
  let winch := min d2 room.winch
  let d3 := d2 - winch
  let steer := min d3 room.steer
  ({ steer := cur.steer - steer, winch := cur.winch - winch, driveF := cur.driveF - split.1,
     driveR := cur.driveR - split.2, lamps := cur.lamps - lamps }, d3 - steer)

/-- The scaled bases for a budget (R71, R72): a first pass down to the floors, a second down to 0. -/
def scaleBases (b : Nat) (base floor : PerConsumer Nat) : PerConsumer Nat :=
  if base.sum ≤ b then base
  else
    let first := scalePass (base.sum - b) base (PerConsumer.ofFn fun c => base.get c - floor.get c)
    if first.2 = 0 then first.1 else (scalePass first.2 first.1 first.1).1

/-- The scaled bases of the working set at a budget. -/
def scaledBases (w : WorkingSet) (b : Nat) : PerConsumer Nat :=
  scaleBases b (PerConsumer.ofFn w.base) (PerConsumer.ofFn w.floor)

/-! ## Writing budget, scaled bases and ceilings -/

/-- Computes the budget and the scaled bases for a level (R70 to R72). -/
def Cau.rescale (c : Cau) (w : WorkingSet) (level : Level) : Cau :=
  let b := budgetFor w level
  let t := scaledBases w b
  { c with
    budget := b
    budgetLevel := level
    records := PerConsumer.ofFn fun k => { c.records.get k with scaled := t.get k } }

/-- Writes the granted ceilings (R73): the scaled base, plus SURGE_MA for the holder. -/
def Cau.writeCeilings (c : Cau) (w : WorkingSet) : Cau :=
  { c with
    records := PerConsumer.ofFn fun k =>
      { c.records.get k with
        granted := (c.records.get k).scaled + if c.holder = some k then w.nat Item.surgeMa else 0 } }

/-- Releases the slot: the former holder's hold and lapse counts return to 0, and its level becomes LOWERED when the
release is a completed or lapsed hold (R74, R80 to R82). -/
def Cau.release (c : Cau) (lower : Bool) : Cau :=
  match c.holder with
  | none => c
  | some h =>
    { c with
      holder := none
      records := c.records.put h
        { c.records.get h with hold := 0, lapse := 0, lowered := (c.records.get h).lowered || lower } }

/-- The recomputation outside the window for a level (R74, R75): no count moves; at LIMIT or CUTOFF the slot is
released, forced. -/
def Cau.recompute (c : Cau) (w : WorkingSet) (level : Level) : Cau :=
  let c1 := c.rescale w level
  (if slotAllowed level then c1 else c1.release false).writeCeilings w

/-- CAU recomputes at once; before the start sequence ends its values stand (R68, log 12). -/
def State.recomputeCau (s : State) : State :=
  if s.mdc.startDone then s.setCau (s.cau.recompute s.ws s.pkm.level) else s

/-! ## The window (R69) -/

/-- Step 3: the hold count, the lapse count and the forced release (R80, R81, R82). -/
def Cau.releaseTest (c : Cau) (w : WorkingSet) (run : Bool) (inSurge : Consumer → Bool) : Cau :=
  match c.holder with
  | none => c
  | some h =>
    let r := c.records.get h
    let hold := r.hold + 1
    let lapse := if r.wish then 0 else r.lapse + 1
    let c1 := { c with records := c.records.put h { r with hold := hold, lapse := lapse } }
    if w.nat Item.surgeHold ≤ hold ∨ 2 ≤ lapse then c1.release true
    else if run && inSurge h then c1
    else c1.release false

/-- Step 4: the quiet counts (R77). -/
def Cau.countQuiet (c : Cau) : Cau :=
  { c with
    records := PerConsumer.ofFn fun k =>
      { c.records.get k with
        quiet := if c.holder.isNone then min 255 ((c.records.get k).quiet + 1) else 0 } }

/-- A consumer is eligible for the slot (R78), the vehicle mode and the level apart. -/
def Cau.eligible (c : Cau) (inSurge : Consumer → Bool) (k : Consumer) : Bool :=
  let r := c.records.get k
  match surgeThreshold r.lowered k with
  | some t => r.wish && inSurge k && decide (t ≤ r.quiet)
  | none => false

/-- Taking the slot (R79): hold and lapse counts of the holder 0, every quiet count 0. -/
def Cau.take (c : Cau) (h : Consumer) : Cau :=
  { c with
    holder := some h
    records := PerConsumer.ofFn fun k =>
      if k = h then { c.records.get k with hold := 0, lapse := 0, quiet := 0 }
      else { c.records.get k with quiet := 0 } }

/-- Step 5: with the slot free, the lowest-numbered eligible consumer takes it (R78, R79). -/
def Cau.arbitrate (c : Cau) (run : Bool) (level : Level) (inSurge : Consumer → Bool) : Cau :=
  if c.holder.isNone && run && slotAllowed level then
    match consumers.find? (c.eligible inSurge) with
    | some h => c.take h
    | none => c
  else c

/-- No consumer wishes. -/
def Cau.noWish (c : Cau) : Bool := consumers.all (fun k => !(c.records.get k).wish)

/-- Every LOWERED consumer returns to NORMAL. -/
def Cau.clearLowered (c : Cau) : Cau :=
  { c with records := PerConsumer.ofFn fun k => { c.records.get k with lowered := false } }

/-- Step 6: the calm count; at 2 every LOWERED consumer returns to NORMAL (R83). -/
def Cau.countCalm (c : Cau) : Cau :=
  if c.holder.isNone && c.noWish then
    let c1 := { c with calm := min 2 (c.calm + 1) }
    if 2 ≤ c1.calm then c1.clearLowered else c1
  else { c with calm := 0 }

/-- One allotment window, in the order of R69. -/
def State.window (s : State) : State :=
  let run := decide (s.mdc.mode = .run)
  let c1 := s.cau.rescale s.ws s.pkm.level
  let c2 := c1.releaseTest s.ws run s.inSurgeState
  let c3 := c2.countQuiet
  let c4 := c3.arbitrate run s.pkm.level s.inSurgeState
  let c5 := c4.countCalm
  s.setCau (c5.writeCeilings s.ws)

/-- A consumer's granted ceiling (R85). -/
def State.grant (s : State) (k : Consumer) : Nat := (s.cau.records.get k).granted

/-- A consumer writes its surge wish into its own record (R76). -/
def State.writeWish (s : State) (k : Consumer) (wish : Bool) : State :=
  s.setCau { s.cau with records := s.cau.records.put k { s.cau.records.get k with wish := wish } }

end Sys2Proof.Machine
end

