-- ==== Sys2Proof/Machine/LampMap.lean ====
section
/-! DEFINITION. The channel map (10): what a channel carries, spares, and a working set with another map, which the lamp
check, requests and loads share. -/
namespace Sys2Proof.Machine

/-- The channels in number order. -/
def channelIds : List ChannelId := [0, 1, 2, 3, 4, 5, 6, 7, 8, 9, 10, 11]

/-- The functions in number order. -/
def functionIds : List FunctionId := [0, 1, 2, 3, 4, 5, 6, 7, 8, 9]

/-! ## The channel map (R165) -/

/-- The function a channel carries, if any. -/
def WorkingSet.carried (w : WorkingSet) (ch : ChannelId) : Option FunctionId :=
  functionIds.find? fun f => decide (w.map[f] = some ch)

/-- A spare: neither failed nor carrying a function. -/
def WorkingSet.spare (w : WorkingSet) (ch : ChannelId) : Bool := !w.failed[ch] && (w.carried ch).isNone

/-- The lowest-numbered spare. -/
def WorkingSet.lowestSpare (w : WorkingSet) : Option ChannelId := channelIds.find? w.spare

/-- Maps a function to a channel or to none. -/
def WorkingSet.mapTo (w : WorkingSet) (f : FunctionId) (ch : Option ChannelId) : WorkingSet :=
  { w with map := w.map.set f ch }

/-- Adds a channel to the failed set, or removes it. -/
def WorkingSet.setFailed (w : WorkingSet) (ch : ChannelId) (b : Bool) : WorkingSet :=
  { w with failed := w.failed.set ch b }

/-- A DARK function takes the lowest spare if its record allows a remap (R173, R174, R175). -/
def WorkingSet.giveSpare (w : WorkingSet) (f : FunctionId) : WorkingSet :=
  if w.functions[f].remap then
    match w.lowestSpare with
    | some ch => w.mapTo f (some ch)
    | none => w
  else w

/-- Replaces the working set. -/
def State.setWorking (s : State) (w : WorkingSet) : State := s.setSst { s.sst with working := w }

/-- Replaces a channel's record. -/
def Lmp.put (l : Lmp) (ch : ChannelId) (c : Channel) : Lmp := { l with channels := l.channels.set ch c }

/-- One channel record per channel, computed from the channel. -/
def Lmp.mapChannels (l : Lmp) (f : ChannelId → Channel → Channel) : Lmp :=
  { l with channels := Vector.ofFn fun ch => f ch l.channels[ch] }

/-- A channel stops carrying a function (R165, R162): off, output OFF, suspect none, brightness 0. Its trip seen stands
until a check examines the channel (log 23). A channel that begins to carry a function starts from the same record, so
its brightness is 0 until the next setting of channels (the model's choice, log 59). -/
def Channel.vacate (c : Channel) : Channel :=
  { c with commanded := false, brightness := 0, output := .off, suspect := .none, blink := none }

/-- Brings the channel records in line with a new map (R165): a channel whose function changed is vacated; one that
begins to carry a function starts so as well, with suspect none, and is lit, and given its function's brightness, from
the next setting of channels, at the next check or in this one (brightness 0 until then: the model's choice, log
59). -/
def Lmp.remapped (l : Lmp) (old new : WorkingSet) : Lmp :=
  l.mapChannels fun ch c => if old.carried ch = new.carried ch then c else c.vacate

/-- The working set is replaced by one whose map may differ, and the channel records follow (R162, R165). -/
def State.remap (s : State) (w : WorkingSet) : State := (s.setWorking w).setLmp (s.lmp.remapped s.ws w)

end Sys2Proof.Machine
end

