-- ==== Sys2Proof/Machine/WinchOps.lean ====
section
/-! DEFINITION. The operations of the winch and the axles that other events share: ending a movement, engaging the
clutch, the WINCH notice (09), stopping an axle (08). -/
namespace Sys2Proof.Machine

/-- A movement ends in a given state: winch duty, demand and jam timer become 0; re-arm as given (R150, R151). -/
def Wnc.endMovement (w : Wnc) (state : WinchState) (rearm : Bool) : Wnc :=
  { w with state := state, duty := 0, demand := 0, jamMs := 0, rearm := rearm }

/-- A movement ends by load (R148), with the load last read. -/
def Wnc.endByLoad (w : Wnc) (ws : WorkingSet) (rearm : Bool) : Wnc := w.endMovement (w.byLoad ws) rearm

/-- The solenoid goes off and the clutch travels for 150 ms (R158, R159). -/
def Wnc.engage (w : Wnc) : Wnc := { w with state := .clutchEngaging, clutch := .moving, clutchMs := 150 }

/-- WNC raises a WINCH notice (R161) from the state as it stands. -/
def State.winchNotice (s : State) (e : WinchEvent) (cause : Option EngageCause) : State :=
  s.raise (.winch ⟨e, cause, s.wnc.state, s.wnc.clutch, s.wnc.line, s.wnc.load⟩)

/-- A forced engage (R159): acts in CLUTCH_RELEASING and FREESPOOL, with its notice. -/
def State.forcedEngage (s : State) (cause : EngageCause) : State :=
  if s.wnc.state.solenoid then (s.setWnc s.wnc.engage).winchNotice .forcedEngage (some cause) else s

/-- WNC at a change of vehicle mode to one other than RUN (R157): a movement ends by load with re-arm set; at
SHUTDOWN a released or releasing clutch is engaged (R159). -/
def State.winchModeChange (s : State) (m : VehicleMode) : State :=
  if m = .run then s
  else
    let s1 := if s.wnc.state.moves then s.setWnc (s.wnc.endByLoad s.ws true) else s
    if m = .shutdown then s1.forcedEngage .shutdown else s1

/-! ## Axles (08) -/

/-- An axle that a row stops (R131 rows 1 to 6): its state and brake strength, ramped duty, stall timer and limit
count 0; its target duty is 0, the throttle not being asked (log 21). -/
def Axle.stop (a : Axle) (state : AxleState) (brake : Nat) : Axle :=
  { a with state := state, brake := brake, target := 0, ramped := 0, stallMs := 0, limitCount := 0 }

/-- Both axles as R131's second row gives them outside RUN, with no effective duty and neither flag (R137, R142). -/
def Drc.halt (d : Drc) : Drc :=
  let held (a : Axle) : Axle := { a.stop .brake 100 with effective := 0 }
  { d with axles := ⟨held d.axles.front, held d.axles.rear⟩, braking := false, reversing := false }

/-- The axles at a change of vehicle mode: no axle is in DRIVE outside RUN (R131, R157), so leaving RUN halts both at
that moment and not at their next update (log 39). -/
def State.axleModeChange (s : State) (old : VehicleMode) : State :=
  if old = .run then s.setDrc s.drc.halt else s

end Sys2Proof.Machine
end

