-- ==== Sys2Proof/Machine/Modes.lean ====
section
/-! DEFINITION. The Mode Controller (03): changing the vehicle mode, the start sequence, the timers, parking and
waking. A mode change is ONE operation, `State.setMode`, and a wake cause is one, `State.wake`. -/
namespace Sys2Proof.Machine

/-! ## Acting -/

/-- At every moment when a condition of the auto-park timer fails, it is held at 0 (R41, log 37). -/
def State.holdAutoPark (s : State) : State :=
  if s.autoParkRuns then s else s.setMdc { s.mdc with autoParkMs := 0 }

/-- What a command does to a part with supply; without supply nothing acts (R67, log 8). After it the auto-park
timer stands at 0 unless it runs. -/
def act (s : State) (f : State → State) : Host.Outcome State Fault Refusal :=
  .next (if s.powered then (f s).holdAutoPark else s)

/-! ## HELLO (R30) -/

/-- The OK reply of HELLO after its status (R30): part code, revision, reset cause, store result, cell count,
level, mode. -/
def State.helloBody (s : State) : List Byte :=
  u16 Config.partCode ++ u8 Config.revision ++ u8 s.mdc.resetCause.code ++ u8 s.mdc.storeResult.code
    ++ u8 (s.ws.nat Item.cellCount) ++ u8 s.pkm.level.code ++ u8 s.mdc.mode.code

/-- The deferred HELLO is answered and cleared (R33). -/
def State.answerDeferredHello (s : State) : State :=
  match s.mdc.deferredHello with
  | some tag => (s.ok ⟨0x01, tag, []⟩ s.helloBody).setMdc { s.mdc with deferredHello := none }
  | none => s

/-! ## Changing the mode -/

/-- MDC's own state on entering a mode: every timer of the mode left stops and those of the mode entered start
from 0; counts and marks restart where their rules say (R31, R36, R38, R42, R44, R47). -/
def Mdc.enter (d : Mdc) (w : WorkingSet) (m : VehicleMode) : Mdc :=
  { d with
    mode := m
    stageMs := 0
    silenceMs := 0
    autoParkMs := 0
    packCheckCount := if m = .packCheck then 0 else d.packCheckCount
    motionCount := if m = .park then 0 else d.motionCount
    parkTimer := if m = .park ∧ 0 < w.nat Item.parkTimerS then some (w.nat Item.parkTimerS * 1000) else none
    resumeCount := if m = .failsafe then 0 else d.resumeCount
    notNeutral := if m = .failsafe then false else d.notNeutral
    wakeCentering := d.wakeCentering && decide (m = .centering) }

/-- The start sequence ends, in READY or SHUTDOWN: CAU runs its first window (R69), the deferred HELLO is
answered (R33). -/
def State.endStart (s : State) : State :=
  (s.setMdc { s.mdc with startDone := true }).window.answerDeferredHello

/-- The vehicle mode changes (R28, R29): MDC enters the mode, raises a MODE notice, the axles and the winch act at that
moment (R157, log 39), and a start sequence that reaches READY or SHUTDOWN ends. A change to the same mode does not
occur. -/
def State.setMode (s : State) (m : VehicleMode) : State :=
  if s.mdc.mode = m then s
  else
    let s1 := s.setMdc (s.mdc.enter s.ws m)
    let s2 := s1.raise (.mode ⟨m, s.mdc.mode, s1.mdc.wakeSet, s1.mdc.wakeFirst⟩)
    let s3 := (s2.axleModeChange s.mdc.mode).winchModeChange m
    if !s3.mdc.startDone && (decide (m = .ready) || decide (m = .shutdown)) then s3.endStart else s3

/-! ## Waking (R44, R45) -/

/-- Adds a cause to a set; a cause is held once. -/
def WakeSet.add (t : WakeSet) : WakeCause → WakeSet
  | .request => { t with request := true }
  | .stick => { t with stick := true }
  | .motion => { t with motion := true }
  | .pack => { t with pack := true }
  | .timer => { t with timer := true }

/-- An honoured cause enters the wake record (R44): in PARK as the first cause, in the CENTERING after a wake
beside it, elsewhere not at all. -/
def Mdc.recordCause (d : Mdc) (c : WakeCause) : Mdc :=
  if d.mode = .park then { d with wakeSet := d.wakeSet.add c, wakeFirst := some c }
  else if d.mode = .centering ∧ d.wakeCentering then { d with wakeSet := d.wakeSet.add c }
  else d

/-- A wake cause occurs (R44). -/
def State.wake (s : State) (c : WakeCause) : State :=
  if s.ws.honours c then
    let d := s.mdc.recordCause c
    if s.mdc.mode = .park then (s.setMdc { d with wakeCentering := true }).setMode .centering else s.setMdc d
  else s

/-! ## The protection level, as MDC acts on it (R33, R44, R47) -/

/-- The modes that CUTOFF ends at once (R47). -/
def cutoffEnds : VehicleMode → Bool
  | .centering => true
  | .ready => true
  | .run => true
  | .failsafe => true
  | .park => true
  | _ => false

/-- MDC acts on a change of the protection level: PACK is a wake cause where honoured, and CUTOFF changes the
mode to SHUTDOWN (R44, R47). -/
def State.modeOnLevel (s : State) (new : Level) : State :=
  if new = .cutoff then
    let s1 := if s.ws.honours .pack then s.setMdc (s.mdc.recordCause .pack) else s
    if cutoffEnds s.mdc.mode then s1.setMode .shutdown else s1
  else s.wake .pack

/-! ## Reports of accepted frames (R25, R36, R37, R38, R44) -/

/-- MDC takes IFL's report of an accepted frame. -/
def State.report (s : State) : State :=
  let quiet := driveWinchNeutral s.ws s.intent.axes
  let any := anyNonNeutral s.ws s.intent.axes
  let s1 := s.setMdc { s.mdc with lastNonNeutral := any }
  match s1.mdc.mode with
  | .ready => if quiet then s1.setMode .run else s1
  | .run => s1.setMdc { s1.mdc with silenceMs := 0 }
  | .failsafe =>
    if quiet then s1.setMdc { s1.mdc with resumeCount := min 255 (s1.mdc.resumeCount + 1), notNeutral := false }
    else s1.setMdc { s1.mdc with resumeCount := 0, notNeutral := true }
  | _ => if any then s1.wake .stick else s1

/-! ## Stages and timers -/

/-- The image is read at a LOADING (R178): its check is computed afresh and compared; where it matches the image becomes
the working set, else the defaults do. The channels follow the map (R162). -/
def State.loadImage (s : State) : State :=
  let valid := s.sst.image.valid
  let s1 := s.remap (if valid then s.sst.image.content else WorkingSet.defaults)
  (s1.setSst { s1.sst with store := if valid then .valid else .invalid }).setMdc
    { s1.mdc with storeResult := if valid then .valid else .defaulted }

/-- PACK_CHECK ends (R32): SHUTDOWN at CUTOFF, else CENTERING. -/
def State.endPackCheck (s : State) : State :=
  s.setMode (if s.pkm.level = .cutoff then .shutdown else .centering)

/-- PKM reports a sample (R49 step 5): PACK_CHECK counts it and ends when the count reaches CONFIRM_SAMPLES
(R32). -/
def State.countSample (s : State) : State :=
  if s.mdc.mode = .packCheck then
    let n := s.mdc.packCheckCount + 1
    let s1 := s.setMdc { s.mdc with packCheckCount := n }
    if s.ws.nat Item.confirmSamples ≤ n then s1.endPackCheck else s1
  else s

/-- The silence timer expires in RUN (R37). -/
def State.silenceExpires (s : State) : State := if s.mdc.mode = .run then s.setMode .failsafe else s

/-- The auto-park timer expires (R41). -/
def State.autoParkExpires (s : State) : State := if s.autoParkRuns then s.setMode .park else s

/-- The park timer expires in PARK: TIMER occurs as a wake cause, and the timer is not started again (R42). -/
def State.parkTimerExpires (s : State) : State :=
  if s.mdc.mode = .park ∧ s.mdc.parkTimer.isSome then
    (s.setMdc { s.mdc with parkTimer := none }).wake .timer
  else s

/-- The motion count is judged (R43): at or above MOTION_WAKE_COUNTS in PARK, MOTION occurs. -/
def State.judgeMotion (s : State) : State :=
  if s.mdc.mode = .park ∧ s.ws.nat Item.motionWakeCounts ≤ s.mdc.motionCount then s.wake .motion else s

/-- DRC passes the counts of both axles at an update in PARK (R43). -/
def State.countMotion (s : State) (front rear : Int) : State :=
  if s.mdc.mode = .park then
    (s.setMdc { s.mdc with
      motionCount := min 65535 (s.mdc.motionCount + front.natAbs + rear.natAbs) }).judgeMotion
  else s

/-! ## Meanings of MDC's own events -/

/-- LOADING_END (R31): the image is loaded and the mode changes to PACK_CHECK. -/
def execLoadingEnd (s : State) : Host.Outcome State Fault Refusal :=
  act s fun s => if s.mdc.mode = .loading then s.loadImage.setMode .packCheck else s

/-- PACK_CHECK_END (R32): the count reaches CONFIRM_SAMPLES (log 6). -/
def execPackCheckEnd (s : State) : Host.Outcome State Fault Refusal :=
  act s fun s =>
    if s.mdc.mode = .packCheck ∧ s.ws.nat Item.confirmSamples ≤ s.mdc.packCheckCount + 1 then
      (s.setMdc { s.mdc with packCheckCount := s.mdc.packCheckCount + 1 }).endPackCheck
    else s

/-- CENTERING_END (R33): the 200 ms run out and the mode changes to READY. -/
def execCenteringEnd (s : State) : Host.Outcome State Fault Refusal :=
  act s fun s => if s.mdc.mode = .centering then s.setMode .ready else s

/-- SILENCE_TIMER_EXPIRY (R37). -/
def execSilenceTimerExpiry (s : State) : Host.Outcome State Fault Refusal := act s State.silenceExpires

/-- AUTO_PARK_EXPIRY (R41). -/
def execAutoParkExpiry (s : State) : Host.Outcome State Fault Refusal := act s State.autoParkExpires

/-- PARK_TIMER_EXPIRY (R42). -/
def execParkTimerExpiry (s : State) : Host.Outcome State Fault Refusal := act s State.parkTimerExpires

/-- MOTION_WAKE (R43). -/
def execMotionWake (s : State) : Host.Outcome State Fault Refusal := act s State.judgeMotion

/-! ## The requests MDC owns -/

/-- HELLO (R30): begins the start sequence in START with its reply deferred; BUSY in LOADING, PACK_CHECK and any
CENTERING; else answered at once. -/
def State.serveHello (s : State) (q : RawRequest) : State :=
  match s.mdc.mode with
  | .start => (s.setMdc { s.mdc with deferredHello := some q.tag }).setMode .loading
  | .loading => s.refuse q .busy
  | .packCheck => s.refuse q .busy
  | .centering => s.refuse q .busy
  | _ => s.ok q s.helloBody

/-- RESET (R35, R14): BUSY while a save is in flight; else LNK stops taking in new work, waiting requests and a
deferred HELLO with its slot are discarded, and the OK reply is produced. -/
def State.serveReset (s : State) (q : RawRequest) : State :=
  if s.sst.store = .writing then s.refuse q .busy
  else
    let freed := if s.mdc.deferredHello.isSome then 1 else 0
    let s1 := s.setLink { s.link with
      resetting := true, waiting := [], rx := .hunt, gapMs := 0, slots := s.link.slots - freed }
    (s1.setMdc { s.mdc with deferredHello := none }).ok q []

/-- RESUME (R39): NOT_NEUTRAL 1, NO_FRAMES 2, WRONG_MODE 3. -/
def State.serveResume (s : State) (q : RawRequest) : State :=
  if s.mdc.mode = .failsafe then
    if 2 ≤ s.mdc.resumeCount then (s.setMode .run).ok q []
    else if s.mdc.notNeutral then s.refuseWith q .badState 1
    else s.refuseWith q .badState 2
  else s.refuseWith q .badState 3

/-- PARK (R40): WRONG_MODE 3, else the first park condition that fails. -/
def State.servePark (s : State) (q : RawRequest) : State :=
  if s.mdc.mode = .ready ∨ s.mdc.mode = .run ∨ s.mdc.mode = .failsafe then
    match s.parkFailure with
    | some reason => s.refuseWith q .badState reason
    | none => (s.setMode .park).ok q []
  else s.refuseWith q .badState 3

/-- WAKE (R45): accepted in PARK and in the CENTERING after a wake. -/
def State.serveWake (s : State) (q : RawRequest) : State :=
  if s.mdc.mode = .park ∨ (s.mdc.mode = .centering ∧ s.mdc.wakeCentering) then (s.ok q []).wake .request
  else s.refuseWith q .badState 3

/-- GET_WAKE (R46): returns the record and empties it. -/
def State.serveGetWake (s : State) (q : RawRequest) : State :=
  (s.ok q (u8 s.mdc.wakeSet.mask ++ orNone WakeCause.code s.mdc.wakeFirst)).setMdc
    { s.mdc with wakeSet := wakeEmpty, wakeFirst := none }

/-- A change queue as its head and second code, 0xFF where empty (12, GET_STATUS). -/
def queueBytes {α : Type} (code : α → Nat) (l : List α) : List Byte :=
  orNone code l[0]? ++ orNone code l[1]?

/-- The body of GET_STATUS (R48, R26). The auto-park time is given in whole seconds, those begun not counted (the
model's choice, log 40); the park timer's are rounded up, as R48 says. -/
def State.statusBody (s : State) : List Byte :=
  let d := s.mdc
  let i := s.intent
  u8 d.mode.code ++ u8 d.resetCause.code ++ u8 d.resumeCount ++ u16 (d.autoParkMs / 1000)
    ++ u16 ((d.parkTimer.getD 0 + 999) / 1000) ++ u16 d.motionCount
    ++ s16 i.axes.throttle ++ s16 i.axes.steer ++ s16 i.axes.winch ++ s16 i.axes.aux
    ++ orNone SteerSel.code i.steer.last ++ orNone DriveSel.code i.drive.last
    ++ orNone LightSel.code i.light.last ++ orNone WinchSel.code i.winch.last
    ++ queueBytes SteerSel.code i.steer.queue ++ queueBytes DriveSel.code i.drive.queue
    ++ queueBytes LightSel.code i.light.queue ++ queueBytes WinchSel.code i.winch.queue

/-- GET_STATUS (R48). -/
def State.serveGetStatus (s : State) (q : RawRequest) : State := s.ok q s.statusBody

end Sys2Proof.Machine
end

