-- ==== Sys2Proof/Machine/Pack.lean ====
section
/-! DEFINITION. The Pack Monitor (04): samples, the energy counter, conditions and their confirmation, the
protection level. A change of level is ONE operation, `State.setLevel`. -/
namespace Sys2Proof.Machine

/-! ## A change of the level (R63, R64, R74, R181) -/

/-- A store write is abandoned when the level becomes CUTOFF (R181): INVALID, no snapshot, STORE notice ABANDONED. -/
def State.abandonWrite (s : State) : State :=
  if s.sst.store = .writing then
    (s.setSst { s.sst with store := .invalid, snapshot := none, writeMs := 0, image := s.sst.image.spoil }).raise
      (.store ⟨.abandoned, .invalid⟩)
  else s

/-- PKM's own part of a level change: the level, the recovery count at 0, the cause, the PACK notice (R64). -/
def State.enterLevel (s : State) (new : Level) (cause : LevelCause) : State :=
  (s.setPkm { s.pkm with level := new, recovery := 0, lastCause := some cause }).raise
    (.pack ⟨s.pkm.level, new, cause, s.pkm.usedMah⟩)

/-- The level changes: PKM enters it, CAU recomputes at once, a write is abandoned at CUTOFF, MDC acts (R63). That the
Settings Store acts before the Mode Controller, so that STORE ABANDONED enters before MODE, is the model's choice (log
53). -/
def State.setLevel (s : State) (new : Level) (cause : LevelCause) : State :=
  let s1 := (s.enterLevel new cause).recomputeCau
  let s2 := if new = .cutoff then s1.abandonWrite else s1
  s2.modeOnLevel new

/-! ## Taking a sample (R49) -/

/-- The sample period in ms (R49): 100 in PARK, else 5. -/
def samplePeriod (m : VehicleMode) : Nat := if m = .park then 100 else 5

/-- The sample record of a reading (R50): each field held within its range; cells above CELL_COUNT absent. -/
def sampleOf (w : WorkingSet) (r : PackReading) : Sample :=
  { cells := ([r.cell1, r.cell2, r.cell3, r.cell4].take (w.nat Item.cellCount)).map (clamp 0 5000)
    current := clamp 0 80000 r.current
    temperature := clamp (-40) 125 r.temperature }

/-- The energy counter takes a charge in mA·ms (R51): one used mAh for each 3,600,000; it stops at 65,535, where
the residue no longer grows (log 16). -/
def Pkm.addCharge (p : Pkm) (charge : Nat) : Pkm :=
  if 65535 ≤ p.usedMah then p
  else
    let total := p.residue + charge
    { p with usedMah := min 65535 (p.usedMah + total / 3600000), residue := total % 3600000 }

/-- A condition's confirm count is frozen at this sample (R56). -/
def frozen (exempt : Bool) : Condition → Bool
  | .uvCaution => exempt
  | .uvLimit => exempt
  | _ => false

/-- OVERCURRENT is not tested at CUTOFF (R55). -/
def untested (level : Level) (k : Condition) : Bool := decide (k = .overcurrent) && decide (level = .cutoff)

/-- A condition's confirm count after a sample (R54, R55, R56). -/
def nextCount (exempt : Bool) (level : Level) (present : Bool) (old : Nat) (k : Condition) : Nat :=
  if frozen exempt k then old
  else if k = .reserve ∨ untested level k then 0
  else if present then min 50 (old + 1)
  else 0

/-- Whether a condition is confirmed after a sample (R54, R55, R56). A frozen condition keeps its mark, through a hold
of any length and a fall of the level within it, so that the level may rise again at the next sample (R56 before R59's
count of 0: the model's choice, log 43). -/
def nextConfirmed (w : WorkingSet) (exempt : Bool) (level : Level) (present old : Bool) (count : Nat)
    (k : Condition) : Bool :=
  if frozen exempt k then old
  else if k = .reserve then present
  else if untested level k then false
  else present && decide (confirmFigure w k ≤ count)

/-- Steps 1 to 3 of a sample: the record, the energy counter, the counts and the confirmed set (R49). OVERCURRENT is
tested under the level that the sample finds, so its count and mark at the sample that itself raises the level to
CUTOFF stand until the next sample clears them (the model's choice, log 41). -/
def Pkm.observe (p : Pkm) (w : WorkingSet) (c : Cau) (periodMs : Nat) (r : PackReading) : Pkm :=
  let rec_ := sampleOf w r
  let p1 := { p with sample := some rec_ }.addCharge (rec_.current.toNat * periodMs)
  let exempt := c.holder.isSome
  let present := fun k => conditionPresent w c p1.usedMah rec_ k
  let counts := PerCond.ofFn fun k => nextCount exempt p.level (present k) (p.counts.get k) k
  { p1 with
    counts := counts
    confirmed := PerCond.ofFn fun k =>
      nextConfirmed w exempt p.level (present k) (p.confirmed.get k) (counts.get k) k
    sagExempt := exempt }

/-- The rise rule (R57): the level rises at once to the highest level confirmed; none if that is not above it. -/
def State.rise (s : State) : Option State :=
  let high := highestLevel s.pkm.confirmed
  if s.pkm.level.code < high.code then
    (riseCause s.pkm.confirmed high).map fun k => s.setLevel high (.condition k)
  else none

/-- The level one step down (R59). -/
def Level.below : Level → Level
  | .normal => .normal
  | .caution => .normal
  | .limit => .caution
  | .cutoff => .limit

/-- A condition that holds the present level is still present for recovery (R58). -/
def State.levelHeld (s : State) (r : Sample) (c : Cau) : Bool :=
  conditions.any fun k =>
    decide (conditionLevel k = s.pkm.level) && presentForRecovery s.ws c s.pkm.usedMah r k

/-- The level falls one step with cause RECOVERED (R59). -/
def State.stepDown (s : State) : State := s.setLevel s.pkm.level.below .recovered

/-- The fall rule (R59), at CAUTION and LIMIT: 200 clear samples in a row lower the level one step. -/
def State.fall (s : State) (r : Sample) : State :=
  if s.pkm.level = .caution ∨ s.pkm.level = .limit then
    if s.levelHeld r s.cau then s.setPkm { s.pkm with recovery := 0 }
    else if 200 ≤ s.pkm.recovery + 1 then s.stepDown
    else s.setPkm { s.pkm with recovery := s.pkm.recovery + 1 }
  else s.setPkm { s.pkm with recovery := 0 }

/-- Step 4 of a sample: a rise, a step down, or no change. -/
def State.settleLevel (s : State) (r : Sample) : State :=
  match s.rise with
  | some t => t
  | none => s.fall r

/-- The modes in which PKM takes no sample (R49). -/
def sampling : VehicleMode → Bool
  | .start => false
  | .loading => false
  | _ => true

/-- PACK_SAMPLE (R49): the five steps in order. -/
def execPackSample (r : PackReading) (s : State) : Host.Outcome State Fault Refusal :=
  act s fun s =>
    if sampling s.mdc.mode then
      let s1 := s.setPkm (s.pkm.observe s.ws s.cau (samplePeriod s.mdc.mode) r)
      (s1.settleLevel (sampleOf s.ws r)).countSample
    else s

/-- The confirmed set once condition `k`'s count reaches its figure at this event (R54, log 6); none if the count
is frozen, not tested, or more than one short. RESERVE has no count: it is confirmed where it is present. -/
def Pkm.reach (p : Pkm) (w : WorkingSet) (exempt : Bool) (k : Condition) : Option Pkm :=
  let bump (t : PerCond Nat) : PerCond Nat :=
    PerCond.ofFn fun j => if j = k ∧ k ≠ .reserve then min 50 (t.get j + 1) else t.get j
  let due :=
    if k = .reserve then reservePresent w p.usedMah
    else !frozen exempt k && !untested p.level k && decide (confirmFigure w k ≤ p.counts.get k + 1)
  if due then
    some { p with counts := bump p.counts, confirmed := PerCond.ofFn fun j => p.confirmed.get j || decide (j = k) }
  else none

/-- LEVEL_RISE (R57): condition `k`'s confirm count reaches its figure and the level rises (log 6). -/
def execLevelRise (k : Condition) (s : State) : Host.Outcome State Fault Refusal :=
  act s fun s =>
    if sampling s.mdc.mode then
      match s.pkm.reach s.ws s.cau.holder.isSome k with
      | some p => ((s.setPkm p).rise).getD s
      | none => s
    else s

/-- LEVEL_STEP_DOWN (R59): the recovery count reaches 200 (log 6). -/
def execLevelStepDown (s : State) : Host.Outcome State Fault Refusal :=
  act s fun s =>
    if (s.pkm.level = .caution ∨ s.pkm.level = .limit) ∧ 200 ≤ s.pkm.recovery + 1 then s.stepDown else s

/-! ## Requests -/

/-- A cell of the record, 0 above CELL_COUNT as it stands and before the first sample (12, GET_PACK). -/
def cellBytes (w : WorkingSet) (r : Option Sample) (i : Nat) : List Byte :=
  u16 (if i < w.nat Item.cellCount then ((r.bind fun x => x.cells[i]?).getD 0).toNat else 0)

/-- The body of GET_PACK (R65). -/
def State.packBody (s : State) : List Byte :=
  let p := s.pkm
  cellBytes s.ws p.sample 0 ++ cellBytes s.ws p.sample 1 ++ cellBytes s.ws p.sample 2 ++ cellBytes s.ws p.sample 3
    ++ u32 ((p.sample.map fun r => r.current.toNat).getD 0)
    ++ s8 ((p.sample.map fun r => r.temperature).getD 0)
    ++ u8 p.level.code ++ u16 p.usedMah ++ u8 p.confirmed.mask ++ flag p.sagExempt
    ++ orNone LevelCause.code p.lastCause

/-- GET_PACK (R65). -/
def State.serveGetPack (s : State) (q : RawRequest) : State := s.ok q s.packBody

/-- CLEAR_CUTOFF (R61): BAD_STATE when the level is not CUTOFF; LOW_SUPPLY with CELL_LOW 1 or CELL_HIGH 2 when the
record is unfit; else the level becomes LIMIT with cause CLEARED and SHUTDOWN gives way to CENTERING (R47). Every cell
of the record is judged, whatever CELL_COUNT has become since (the model's choice, log 44), and the confirm counts
stand as the latest sample left them, whatever thresholds have become since (log 45). -/
def State.serveClearCutoff (s : State) (q : RawRequest) : State :=
  if s.pkm.level ≠ .cutoff then s.refuse q .badState
  else
    let low := (s.pkm.sample.map fun r => r.anyBelow (s.ws.int Item.cellLimitMv + 50)).getD false
    let high := (s.pkm.sample.map fun r => r.anyAbove (s.ws.int Item.cellOverMv)).getD false
    if low then s.refuseWith q .lowSupply 1
    else if high then s.refuseWith q .lowSupply 2
    else
      let s1 := (s.setLevel .limit .cleared).ok q []
      if s1.mdc.mode = .shutdown then s1.setMode .centering else s1

/-- RESET_ENERGY (R52). -/
def State.serveResetEnergy (s : State) (q : RawRequest) : State :=
  (s.setPkm { s.pkm with usedMah := 0, residue := 0 }).ok q []

/-- A change of CELL_COUNT (R66): every confirm count and the recovery count return to 0, the confirmed set is
emptied; the level and the record stay. -/
def Pkm.restartCounts (p : Pkm) : Pkm :=
  { p with counts := PerCond.ofFn fun _ => 0, confirmed := PerCond.ofFn fun _ => false, recovery := 0 }

end Sys2Proof.Machine
end

