-- ==== Sys2Proof/Machine/Corners.lean ====
section
/-! DEFINITION. Corner operations of the Steering Controller (06): states, geometry, slew, stall and open detection,
failures, and the moves of the steering machine that requests and frames share. -/
namespace Sys2Proof.Machine

/-! ## Corner states -/

/-- The corner is set still at commanded angle 0 in a state; its timers, holds and open count end (R91, R115). -/
def Corner.parkAt (k : Corner) (state : CornerState) : Corner :=
  { k with state := state, target := 0, commanded := 0, stateTimer := 0, stallCount := 0, openCount := 0,
           clearing := false, loadHeld := false }

/-- A corner that is not FAILED becomes HELD at commanded angle 0 with its counts and timers restarted (R91,
R115). -/
def Corner.centre (k : Corner) : Corner := if k.state = .failed then k else k.parkAt .held

/-- A corner that is not FAILED becomes UNPOWERED (R91): a REST or clearing hold ends, the commanded angle stays
(R89), and so does the target, which the spec does not give (the model's choice, log 50). -/
def Corner.unpower (k : Corner) : Corner :=
  if k.state = .failed then k
  else { k with state := .unpowered, stateTimer := 0, openCount := 0, clearing := false, loadHeld := false }

/-- A corner becomes ACTIVE; while a store load runs it is HELD for its duration instead (R109), its target its
commanded angle (R93). -/
def Corner.activate (k : Corner) (loading : Bool) : Corner :=
  if loading then
    { k with state := .held, target := k.commanded, stateTimer := 0, clearing := false, loadHeld := true }
  else { k with state := .active, stateTimer := 0, clearing := false, loadHeld := false }

/-- On arrival in STEADY a corner that is not FAILED is ACTIVE from commanded angle 0, or HELD there in mode NONE
(R91, R120). -/
def Corner.steady (k : Corner) (mode : SteerMode) (loading : Bool) : Corner :=
  if k.state = .failed then k
  else if mode = .none then k.parkAt .held
  else (k.parkAt .held).activate loading

/-- A corner fails (R100): not pulsed, target and commanded angle 0, counts and timer 0; its history stays. -/
def Corner.fail (k : Corner) (why : FaultKind) : Corner :=
  { k.parkAt .failed with fault := why }

/-- Replaces a corner's record. -/
def Stc.put (c : Stc) (i : CornerId) (k : Corner) : Stc := { c with corners := c.corners.put i k }

/-- Applies a function at every corner record. -/
def Stc.mapCorners (c : Stc) (f : Corner → Corner) : Stc := { c with corners := c.corners.map f }

/-- STC raises a STEER notice (R112). -/
def State.steerNotice (s : State) (e : SteerEvent) : State :=
  s.raise (.steer ⟨e, s.stc.mode, s.stc.failedSet⟩)

/-- The machine returns to STEADY from the trim search (R120). -/
def Stc.returnToSteady (c : Stc) (loading : Bool) : Stc :=
  { c.mapCorners (fun k => k.steady c.mode loading) with machine := .steady }

/-! ## Geometry (R92, R93) -/

/-- An angle from an axis: the product with "the limit" divided by 1000, truncated toward zero; the limit is the
right one for a positive result, the left one for a negative one. -/
def axisAngle (v left right : Int) : Int :=
  if 0 ≤ v then (v * right).tdiv 1000 else (v * left).tdiv 1000

/-- An angle held within a corner's limits. -/
def WorkingSet.hold (w : WorkingSet) (c : CornerId) (angle : Int) : Int :=
  clamp (-(w.leftLimit c)) (w.rightLimit c) angle

/-- An axis as a corner's angle, held within the corner's limits. -/
def WorkingSet.axisTarget (w : WorkingSet) (c : CornerId) (v : Int) : Int :=
  w.hold c (axisAngle v (w.leftLimit c) (w.rightLimit c))

/-- A front corner's target in a mode (R92). -/
def WorkingSet.frontTarget (w : WorkingSet) (mode : SteerMode) (s : Int) (c : CornerId) : Int :=
  match mode with
  | .front => w.axisTarget c s
  | .counter => w.axisTarget c s
  | .crab => w.axisTarget c s
  | .independent => w.axisTarget c s
  | .rear => 0
  | .none => 0

/-- A rear corner's target in a mode, `paired` being the target of its front corner (R92). -/
def WorkingSet.rearTarget (w : WorkingSet) (mode : SteerMode) (s a paired : Int) (c : CornerId) : Int :=
  match mode with
  | .front => 0
  | .rear => w.axisTarget c (-s)
  | .counter => w.hold c ((-paired * w.int Item.rearRatioPct).tdiv 100)
  | .crab => w.hold c ((paired * w.int Item.rearRatioPct).tdiv 100)
  | .independent => w.axisTarget c a
  | .none => 0

/-- The steer and aux axes as the geometry reads them (R93): as held in READY and RUN, 0 elsewhere. -/
def State.steerAxes (s : State) : Int × Int :=
  if s.mdc.mode = .ready ∨ s.mdc.mode = .run then (s.intent.axes.steer, s.intent.axes.aux) else (0, 0)

/-- A corner whose target follows the geometry or the machine: ACTIVE, or in REST (R97). -/
def Corner.follows (k : Corner) : Bool := decide (k.state = .active) || decide (k.state = .rest)

/-- Gives a corner its target: a following corner the target given, a HELD corner its commanded angle, a FAILED
corner 0 (R93). -/
def Corner.aim (k : Corner) (target : Int) : Corner :=
  if k.follows then { k with target := target }
  else
    match k.state with
    | .held => { k with target := k.commanded }
    | .failed => { k with target := 0 }
    | _ => k

/-- Step 5 in STEADY: the geometry of the mode in effect; a rear angle derives from its paired front corner's
target (R92). -/
def Stc.aimGeometry (c : Stc) (w : WorkingSet) (s a : Int) : Stc :=
  let fl := c.corners.fl.aim (w.frontTarget c.mode s .fl)
  let fr := c.corners.fr.aim (w.frontTarget c.mode s .fr)
  { c with corners :=
    { fl := fl
      fr := fr
      rl := c.corners.rl.aim (w.rearTarget c.mode s a fl.target .rl)
      rr := c.corners.rr.aim (w.rearTarget c.mode s a fr.target .rr) } }

/-- Step 5 in ALIGNING and SETTLING: every following corner has target 0 (R93). -/
def Stc.aimStraight (c : Stc) : Stc := c.mapCorners (fun k => k.aim 0)

/-- Step 5 of a servo frame (R92, R93). -/
def State.aimCorners (s : State) : State :=
  match s.stc.machine with
  | .steady => s.setStc (s.stc.aimGeometry s.ws s.steerAxes.1 s.steerAxes.2)
  | .aligning => s.setStc s.stc.aimStraight
  | .settling => s.setStc s.stc.aimStraight
  | _ => s.setStc (s.stc.mapCorners fun k => if k.state = .held ∨ k.state = .failed then k.aim 0 else k)

/-! ## Slew and starvation (R94, R95, R96) -/

/-- STARVED: the granted ceiling is below FLOOR_STEER_MA (R95). -/
def isStarved (w : WorkingSet) (grant : Nat) : Bool := decide (grant < w.nat Item.floorSteerMa)

/-- The slew step for a grant (R94): STEER_SLEW × G / BASE_STEER_MA truncated, held at STEER_SLEW, raised to 1;
0 while STARVED. -/
def slewFor (w : WorkingSet) (grant : Nat) : Nat :=
  if isStarved w grant then 0
  else max 1 (min (w.nat Item.steerSlew) (w.nat Item.steerSlew * grant / w.nat Item.baseSteerMa))

/-- The step that the scaled base would give, for the surge wish (R96). -/
def wishStep (w : WorkingSet) (scaled : Nat) : Nat :=
  if scaled < w.nat Item.floorSteerMa then 0 else w.nat Item.steerSlew * scaled / w.nat Item.baseSteerMa

/-- A corner is current-held at this frame (R94). -/
def Corner.currentHeld (k : Corner) (w : WorkingSet) : Bool := decide (w.nat Item.cornerStallMa < k.current)

/-- An ACTIVE corner slews (R94): toward its target by the step, unless it is current-held. -/
def Corner.slew (k : Corner) (w : WorkingSet) (step : Nat) : Corner :=
  if k.currentHeld w then k else { k with commanded := toward k.commanded k.target step }

/-! ## Stall and open (R97, R98, R99) -/

/-- Stall entries older than 10 s (1,000 servo frames) are removed. -/
def recentStalls (now : Nat) (history : List Nat) : List Nat :=
  history.filter (fun t => decide (now ≤ t + 1000))

/-- While a corner is not FAILED, entries older than 10 s are removed at each servo frame (R98). -/
def Corner.age (k : Corner) (now : Nat) : Corner :=
  if k.state = .failed then k else { k with history := recentStalls now k.history }

/-- The corner has stalled (R97, R98): old entries go, this stall is appended; with fewer than three entries it
rests for 500 ms, with three it fails. -/
def Corner.stall (k : Corner) (now : Nat) : Corner :=
  let history := recentStalls now k.history ++ [now]
  if history.length < 3 then
    { k with history := history, state := .rest, stateTimer := 500, stallCount := 0, openCount := 0 }
  else { k with history := history }.fail .stall

/-- The stall condition (R97). -/
def Corner.stallCondition (k : Corner) (w : WorkingSet) : Bool :=
  decide (k.commanded ≠ k.target) && k.currentHeld w

/-- Runs the stall count of an ACTIVE corner after its slew (R97). -/
def Corner.runStall (k : Corner) (w : WorkingSet) (now : Nat) : Corner :=
  if k.stallCondition w then
    if 30 ≤ k.stallCount + 1 then k.stall now else { k with stallCount := k.stallCount + 1 }
  else { k with stallCount := 0 }

/-- Runs the open count of an ACTIVE corner that slewed at this frame (R99). -/
def Corner.runOpen (k : Corner) : Corner :=
  if k.current < 20 then
    if 20 ≤ k.openCount + 1 then k.fail .open else { k with openCount := k.openCount + 1 }
  else { k with openCount := 0 }

/-- Step 6 for an ACTIVE corner: slew, then its stall and open counts. A corner that is current-held does not slew,
so the two counts never both move. -/
def Corner.work (k : Corner) (w : WorkingSet) (step now : Nat) : Corner :=
  let moved := k.slew w step
  if moved.commanded ≠ k.commanded then (moved.runStall w now).runOpen else moved.runStall w now

/-- A clearing hold runs out (R108): ACTIVE, or HELD in mode NONE. -/
def Corner.endClearing (k : Corner) (mode : SteerMode) (loading : Bool) : Corner :=
  if mode = .none then { k with stateTimer := 0, clearing := false } else k.activate loading

/-- Step 6 counts down REST and clearing holds (R97, R108). -/
def Corner.countDown (k : Corner) (mode : SteerMode) (loading : Bool) : Corner :=
  if k.state = .rest then
    if k.stateTimer ≤ 10 then k.activate loading else { k with stateTimer := k.stateTimer - 10 }
  else if k.state = .held ∧ k.clearing then
    if k.stateTimer ≤ 10 then k.endClearing mode loading else { k with stateTimer := k.stateTimer - 10 }
  else k

/-- Step 6 for one corner outside SEARCH. -/
def Corner.frame (k : Corner) (w : WorkingSet) (mode : SteerMode) (loading : Bool) (step now : Nat) : Corner :=
  let k1 := k.countDown mode loading
  if k1.state = .active then k1.work w step now else k1

/-! ## Transitions (R101, R103, R105, R107) -/

/-- The machine enters ALIGNING toward a target (R103). -/
def Stc.beginAligning (c : Stc) (target : SteerMode) : Stc :=
  { c with machine := .aligning, pending := some target, alignMs := 0, settleMs := 0 }

/-- The machine enters SETTLING (R103). -/
def Stc.beginSettling (c : Stc) : Stc := { c with machine := .settling, alignMs := 0, settleMs := 0 }

/-- Every corner that is not FAILED stands at commanded angle 0 (R103). -/
def Stc.aligned (c : Stc) : Bool :=
  cornerIds.all fun i => decide ((c.corners.get i).state = .failed) || decide ((c.corners.get i).commanded = 0)

/-- The pending target, replaced by the fallback if it is no longer allowed (R101, R106). -/
def Stc.fallBack (c : Stc) : Stc :=
  match c.pending with
  | some t => if modeAllowed c.failedSet t then c else { c with pending := some (fallbackMode c.failedSet) }
  | none => c

/-- Step 7, at a frame at which a corner failed (R101): a forced transition from STEADY, a fallback target in
ALIGNING and SETTLING. -/
def Stc.settleFailure (c : Stc) : Stc :=
  match c.machine with
  | .steady =>
    if modeAllowed c.failedSet c.mode then c
    else (c.beginAligning (fallbackMode c.failedSet)).aimStraight
  | .aligning => c.fallBack
  | .settling => c.fallBack
  | _ => c

/-- A corner's state as the adopted mode asks (R105): into NONE every ACTIVE or REST corner is HELD at 0; out of NONE
every HELD corner not in a clearing hold is ACTIVE. -/
def Corner.adopt (k : Corner) (old new : SteerMode) (loading : Bool) : Corner :=
  if new = .none then
    if k.follows || k.loadHeld then k.parkAt .held else k
  else if old = .none ∧ k.state = .held ∧ ¬k.clearing then k.activate loading
  else k

/-- A settle ends (R105): the pending target becomes the mode in effect, STEADY, STEER notice SWITCHED. -/
def State.settleEnds (s : State) : State :=
  let c := s.stc
  let new := c.pending.getD c.mode
  let c1 := c.mapCorners fun k => k.adopt c.mode new s.link.held
  (s.setStc { c1 with machine := .steady, mode := new, pending := none, settleMs := 0 }).steerNotice .switched

/-- The align timer expires (R106): corners away from 0 fail with ALIGN, one STEER notice carries them all, the
target falls back if it must, and the machine settles. -/
def State.alignExpires (s : State) : State :=
  let c1 := s.stc.mapCorners fun k =>
    if k.state ≠ .failed ∧ k.commanded ≠ 0 then k.fail .align else k
  let s1 := s.setStc c1
  let s2 := if c1.failedSet = s.stc.failedSet then s1 else s1.steerNotice .failed
  s2.setStc s2.stc.fallBack.beginSettling

/-- A transition is abandoned in favour of its target (R107): mode in effect the pending target, timers stopped,
STEER notice SWITCHED. -/
def State.adoptTarget (s : State) : State :=
  if s.stc.machine = .aligning ∨ s.stc.machine = .settling then
    (s.setStc { s.stc with
      mode := s.stc.pending.getD s.stc.mode, pending := none, alignMs := 0, settleMs := 0 }).steerNotice .switched
  else s

/-- Step 8's test alone (R103): ALIGNING with every working corner straight gives way to SETTLING. -/
def Stc.settleIfAligned (c : Stc) : Stc :=
  if c.machine = .aligning ∧ c.aligned then c.beginSettling else c

/-- The align timer after a frame in ALIGNING (R106): 10 ms more, and as it stands while STARVED. -/
def Stc.nextAlignMs (c : Stc) : Nat := if c.starved then c.alignMs else min 3000 (c.alignMs + 10)

/-- Step 8 of a servo frame (R103, R105, R106). The timer is compared with ALIGN_TIMEOUT_MS at a STARVED frame too, so
that a SET that lowers the figure to a time already counted takes effect at the next frame, starved or not; STARVED
itself never lets it expire (log 42). -/
def State.advanceMachine (s : State) : State :=
  let c := s.stc
  match c.machine with
  | .aligning =>
    if c.aligned then s.setStc c.beginSettling
    else
      let s1 := s.setStc { c with alignMs := c.nextAlignMs }
      if s.ws.nat Item.alignTimeoutMs ≤ c.nextAlignMs then s1.alignExpires else s1
  | .settling =>
    let ms := min 500 (c.settleMs + 10)
    let s1 := s.setStc { c with settleMs := ms }
    if s.ws.nat Item.settleMs ≤ ms then s1.settleEnds else s1
  | _ => s

/-- A corner's record is replaced at a frame; a corner that failed there raises a STEER notice FAILED (R100). -/
def State.putCorner (s : State) (i : CornerId) (k : Corner) : State :=
  let before := (s.stc.corners.get i).state
  let s1 := s.setStc (s.stc.put i k)
  if k.state = .failed ∧ before ≠ .failed then s1.steerNotice .failed else s1

/-- The pulse of a corner at a frame (R89), in µs. -/
def Corner.pulseFor (k : Corner) (trim : Int) : Option Int :=
  match k.state with
  | .unpowered => none
  | .failed => none
  | _ => some (1500 + trim + k.commanded)

end Sys2Proof.Machine
end

