-- ==== Sys2Proof/Machine/TrimSearch.lean ====
section
/-! DEFINITION. The Trim Search Engine (07): accepting a search, searching one corner after another on the servo
frames, ending and aborting. -/
namespace Sys2Proof.Machine

/-- TSE raises a TRIM notice (R126). -/
def State.trimNotice (s : State) : State := s.raise (.trim ⟨s.tse.endCause, s.tse.results⟩)

/-- Rewrites a corner's result entry. -/
def Tse.setResult (t : Tse) (i : CornerId) (f : ResultEntry → ResultEntry) : Tse :=
  { t with results := t.results.put i (f (t.results.get i)) }

/-- The search ends with a cause: flag, list and running corner are cleared, the machine returns to STEADY, a TRIM
notice is raised (R120, R121). -/
def State.endSearch (s : State) (cause : EndCause) : State :=
  let s1 := s.setTse { s.tse with running := false, list := [], corner := none, probe := 0, endCause := cause }
  (s1.setStc (s1.stc.returnToSteady s1.link.held)).trimNotice

/-- A running search is aborted (R121): the running corner gets ABORTED and keeps its steps, the waiting ones get
ABORTED with 0 steps, ended entries stay. -/
def State.abortSearch (s : State) (cause : EndCause) : State :=
  let mark (t : Tse) (i : CornerId) : Tse :=
    if t.corner = some i then t.setResult i fun e => { e with result := .aborted }
    else if i ∈ t.list then t.setResult i fun e => { e with result := .aborted, steps := 0 }
    else t
  (s.setTse (cornerIds.foldl mark s.tse)).endSearch cause

/-- Step 1 of a servo frame (R122): a search is aborted in FAILSAFE and SHUTDOWN; a mode other than READY and RUN
found otherwise ends it like SHUTDOWN (log 17). The machine is STEADY from here, so step 4 of this frame may take a
STEER_SEL code (log 46). -/
def State.abortOnMode (s : State) : State :=
  if s.tse.running ∧ s.mdc.mode ≠ .ready ∧ s.mdc.mode ≠ .run then
    s.abortSearch (if s.mdc.mode = .failsafe then .failsafe else .shutdown)
  else s

/-- Both axles are in BRAKE (R116). -/
def Drc.bothBrake (d : Drc) : Bool :=
  decide (d.axles.front.state = .brake) && decide (d.axles.rear.state = .brake)

/-- The probe offset is set: it is the running corner's commanded angle and target (R116). No load holds a SEARCHING
corner (R115, R124). -/
def State.setProbe (s : State) (i : CornerId) (offset : Int) : State :=
  (s.setTse { s.tse with probe := offset }).setStc
    (s.stc.put i { s.stc.corners.get i with state := .searching, commanded := offset, target := offset, loadHeld := false })

/-- The head of the search list begins (R116), when no corner runs and both axles are in BRAKE. -/
def State.beginCorner (s : State) : State :=
  match s.tse.corner, s.tse.list with
  | none, i :: rest =>
    if s.drc.bothBrake then
      let span := s.ws.int Item.searchSpan
      let t := { s.tse with
        list := rest, corner := some i, phase := .wait, frames := 0, span := span,
        step := s.ws.int Item.searchStep }
      (s.setTse (t.setResult i fun e => { e with result := .running })).setProbe i (-span)
    else s
  | _, _ => s

/-- A corner ends with a result (R119): HELD at commanded angle 0; with the list empty the search is complete
(R120). -/
def State.endCorner (s : State) (i : CornerId) (f : ResultEntry → ResultEntry) : State :=
  let t := { s.tse with corner := none, probe := 0 }.setResult i f
  let s1 := (s.setTse t).setStc (s.stc.put i ((s.stc.corners.get i).parkAt .held))
  if s1.tse.list.isEmpty then s1.endSearch .completed else s1

/-- The edge has been found (R119): the found trim is the old trim plus the last-0 offset plus half the step, the
half rounded down; within ±200 it becomes the corner's trim item. -/
def State.edgeFound (s : State) (i : CornerId) : State :=
  let found := (s.tse.results.get i).oldTrim + s.tse.last0 + s.tse.step / 2
  if -200 ≤ found ∧ found ≤ 200 then
    (s.setSst { s.sst with working := s.ws.setItem (trimItem i) found }).endCorner i
      fun e => { e with result := .found, newTrim := some found }
  else s.endCorner i fun e => { e with result := .outOfRange, newTrim := none }

/-- The probe makes a step (R117, R118). -/
def State.probeStep (s : State) (i : CornerId) : State :=
  let s1 := s.setProbe i (s.tse.probe + s.tse.step)
  s1.setTse ({ s1.tse with phase := .step, frames := 1 }.setResult i fun e => { e with steps := e.steps + 1 })

/-- The wait count reaches 10 (R117): START_HIGH, or the first clear 0 and the first step. -/
def State.judgeWait (s : State) (i : CornerId) : State :=
  if (s.stc.corners.get i).sense then
    (s.setTse { s.tse with frames := 10 }).endCorner i fun e =>
      { e with result := .startHigh, newTrim := none, steps := 0 }
  else (s.setTse { s.tse with lastClear := false, last0 := s.tse.probe }).probeStep i

/-- The step count reaches 4 (R118): clear or unclear; the edge, NO_EDGE, or a step at the frame that follows. -/
def State.judgeStep (s : State) (i : CornerId) : State :=
  let sense := (s.stc.corners.get i).sense
  let t := { s.tse with frames := 4 }
  let clear := decide (t.firstSample = sense)
  let s1 := s.setTse
    (if clear then { t with lastClear := sense, last0 := if sense then t.last0 else t.probe } else t)
  if clear && sense && !t.lastClear then s1.edgeFound i
  else if t.span < t.probe + t.step then s1.endCorner i fun e => { e with result := .noEdge, newTrim := none }
  else s1

/-- Step 6 of a servo frame in SEARCH (R116 to R118), a starved frame leaving the running corner as it stands. -/
def State.searchFrame (s : State) : State :=
  match s.tse.corner with
  | none => s.beginCorner
  | some i =>
    if s.stc.starved then s
    else
      match s.tse.phase with
      | .wait =>
        if 10 ≤ s.tse.frames + 1 then s.judgeWait i else s.setTse { s.tse with frames := s.tse.frames + 1 }
      | .step =>
        if 4 ≤ s.tse.frames then s.probeStep i
        else if s.tse.frames = 3 then s.judgeStep i
        else
          s.setTse { s.tse with
            frames := s.tse.frames + 1
            firstSample := if s.tse.frames = 2 then (s.stc.corners.get i).sense else s.tse.firstSample }

/-! ## Meanings of the search's own events -/

/-- SEARCH_CORNER_BEGIN (R116). -/
def execSearchCornerBegin (s : State) : Host.Outcome State Fault Refusal :=
  act s fun s => if s.stc.machine = .search then s.beginCorner else s

/-- SEARCH_WAIT_END (R117): the wait count reaches 10 (log 6). -/
def execSearchWaitEnd (s : State) : Host.Outcome State Fault Refusal :=
  act s fun s =>
    match s.tse.corner with
    | some i =>
      if s.stc.machine = .search ∧ ¬s.stc.starved ∧ s.tse.phase = .wait ∧ 10 ≤ s.tse.frames + 1 then s.judgeWait i
      else s
    | none => s

/-- SEARCH_STEP_JUDGED (R118): the step count reaches 4 (log 6). -/
def execSearchStepJudged (s : State) : Host.Outcome State Fault Refusal :=
  act s fun s =>
    match s.tse.corner with
    | some i =>
      if s.stc.machine = .search ∧ ¬s.stc.starved ∧ s.tse.phase = .step ∧ s.tse.frames = 3 then s.judgeStep i
      else s
    | none => s

/-! ## Requests -/

/-- A corner set named by a mask. -/
def cornersOfMask (m : Nat) : PerCorner Bool := ⟨m.testBit 0, m.testBit 1, m.testBit 2, m.testBit 3⟩

/-- A TRIM_SEARCH is accepted (R115): the result table is rewritten, the list filled in corner order, the machine is
in SEARCH and every corner that is not FAILED is HELD at 0. -/
def State.startSearch (s : State) (named : PerCorner Bool) : State :=
  let failed := s.stc.failedSet
  let entry (i : CornerId) : ResultEntry :=
    { result := if !named.get i then .none else if failed.get i then .skipped else .waiting
      oldTrim := s.ws.trim i
      newTrim := none
      steps := 0 }
  let list := cornerIds.filter fun i => named.get i && !failed.get i
  (s.setTse { s.tse with
      running := true, list := list, corner := none, endCause := .none, results := PerCorner.ofFn entry }).setStc
    { s.stc.mapCorners Corner.centre with machine := .search }

/-- TRIM_SEARCH (R114): the nine tests in order; reasons WRONG_MODE 1, MOVING 2, STEERING 3, WINCH 4. -/
def State.serveTrimSearch (s : State) (q : RawRequest) (set : Byte) : State :=
  let m := set.toNat
  let named := cornersOfMask m
  let failed := s.stc.failedSet
  if m = 0 then s.refuse q .range
  else if 16 ≤ m then s.refuse q .unknown
  else if s.tse.running then s.refuse q .busy
  else if s.sst.store = .writing then s.refuse q .busy
  else if s.mdc.mode ≠ .ready ∧ s.mdc.mode ≠ .run then s.refuseWith q .badState 1
  else if s.mdc.mode = .run ∧ !s.drc.stationary then s.refuseWith q .badState 2
  else if s.stc.machine ≠ .steady then s.refuseWith q .badState 3
  else if s.wnc.state ≠ .stopped then s.refuseWith q .badState 4
  else if cornerIds.all fun i => !named.get i || failed.get i then s.refuse q .faulted
  else
    (s.startSearch named).ok q
      (u8 (cornerMask (PerCorner.ofFn fun i => named.get i && !failed.get i))
        ++ u8 (cornerMask (PerCorner.ofFn fun i => named.get i && failed.get i)))

/-- TRIM_ABORT (R121). -/
def State.serveTrimAbort (s : State) (q : RawRequest) : State :=
  if s.tse.running then (s.ok q []).abortSearch .request else s.refuse q .badState

/-- The body of GET_TRIM (R125). -/
def State.trimBody (s : State) : List Byte :=
  let t := s.tse
  flag t.running ++ u8 t.endCause.code ++ orNone cornerCode t.corner ++ u8 t.phase.code ++ u8 t.frames
    ++ s16 t.probe ++ u8 t.lastClear.toNat ++ s16 t.last0
    ++ u8 (cornerMask (PerCorner.ofFn fun i => decide (i ∈ t.list))) ++ resultsBytes t.results

/-- GET_TRIM (R125). -/
def State.serveGetTrim (s : State) (q : RawRequest) : State := s.ok q s.trimBody

end Sys2Proof.Machine
end

