-- ==== Sys2Proof/Machine/Steering.lean ====
section
/-! DEFINITION. The Steering Controller's servo frame, its own events and its requests (06). -/
namespace Sys2Proof.Machine

/-! ## The servo frame (R90), step by step -/

/-- Step 1 (R91, R107, R122): a search is aborted where the mode asks, then the machine is brought into line with the
vehicle mode; a transition met there adopts its target. A search aborted in FAILSAFE leaves the machine STEADY for the
later steps of this frame (log 46). -/
def State.followMode (s : State) : State :=
  let s1 := s.abortOnMode
  match s1.mdc.mode with
  | .ready | .run | .failsafe =>
    if s1.stc.machine = .unpowered ∨ s1.stc.machine = .centering then
      s1.setStc (s1.stc.returnToSteady s1.link.held)
    else s1
  | .centering =>
    let s2 := s1.adoptTarget
    s2.setStc { s2.stc.mapCorners Corner.centre with machine := .centering }
  | .start | .loading | .packCheck | .park | .shutdown =>
    let s2 := s1.adoptTarget
    s2.setStc { s2.stc.mapCorners Corner.unpower with machine := .unpowered }

/-- One corner's sensors (R90 step 2, R110): the servo current, and the centre-sense switch by double look. -/
def Corner.sample (k : Corner) (current : Nat) (read : Bool) : Corner :=
  { k with
    current := min 10000 current
    sense := if read = k.prevSense then read else k.sense
    prevSense := read }

/-- Step 2. -/
def Stc.sample (c : Stc) (r : ServoReading) : Stc :=
  { c with corners := PerCorner.ofFn fun i => (c.corners.get i).sample (r.currents.get i) (r.senses.get i) }

/-- Step 3 (R94, R95): the grant sets the slew step and STARVED. -/
def State.setSlew (s : State) : State :=
  let g := s.grant .steer
  s.setStc { s.stc with starved := isStarved s.ws g, slewStep := slewFor s.ws g }

/-- A code taken is refused with a STEER notice (R102, R104, R105). -/
def State.refuseCode (s : State) : State := s.steerNotice .refused

/-- A code taken in STEADY (R102). -/
def State.codeInSteady (s : State) (m : SteerMode) : State :=
  if m = s.stc.mode then s
  else if modeAllowed s.stc.failedSet m then s.setStc (s.stc.beginAligning m)
  else s.refuseCode

/-- A code taken in ALIGNING (R104): the mode being left abandons the transition, also where it equals the pending
target (the table's first row before its third: the model's choice, log 48). -/
def State.codeInAligning (s : State) (m : SteerMode) : State :=
  if m = s.stc.mode then
    if modeAllowed s.stc.failedSet m then
      s.setStc { s.stc with machine := .steady, pending := none, alignMs := 0 }
    else s.refuseCode
  else if s.stc.pending = some m then s
  else if modeAllowed s.stc.failedSet m then s.setStc { s.stc with pending := some m }
  else s.refuseCode

/-- A code taken in SETTLING (R105). -/
def State.codeInSettling (s : State) (m : SteerMode) : State :=
  if s.stc.pending = some m then s
  else if modeAllowed s.stc.failedSet m then s.setStc { s.stc with pending := some m }
  else s.refuseCode

/-- Step 4 (R102): in STEADY, ALIGNING and SETTLING at most one STEER_SEL head is taken, at the frame whose step 1 has
aborted a search too (the model's choice, log 46). -/
def State.takeSteerCode (s : State) : State :=
  match s.intent.steer.queue with
  | [] => s
  | code :: rest =>
    let taken := s.setIntent { s.intent with steer := { s.intent.steer with queue := rest } }
    match s.stc.machine with
    | .steady => taken.codeInSteady code.mode
    | .aligning => taken.codeInAligning code.mode
    | .settling => taken.codeInSettling code.mode
    | .unpowered | .centering | .search => s

/-- How far each corner's target lies from its commanded angle. -/
def Stc.gaps (c : Stc) : PerCorner Nat := c.corners.map fun k => (k.target - k.commanded).natAbs

/-- Step 6 for one corner outside SEARCH. -/
def State.workCorner (s : State) (i : CornerId) : State :=
  s.putCorner i ((s.stc.corners.get i).frame s.ws s.stc.mode s.link.held s.stc.slewStep s.stc.frameNo)

/-- Step 6 (R90): the search's work in SEARCH, else every corner's. -/
def State.workCorners (s : State) : State :=
  if s.stc.machine = .search then s.searchFrame else cornerIds.foldl State.workCorner s

/-- Step 7 (R100, R101): after a frame at which a corner failed. -/
def State.settleFailures (s : State) (before : PerCorner Bool) : State :=
  if s.stc.failedSet = before then s else s.setStc s.stc.settleFailure

/-- Step 9 (R96): the surge wish, from the distances at which the corners began this frame. -/
def State.steerWish (s : State) (gaps : PerCorner Nat) : Bool :=
  let step := wishStep s.ws (s.cau.records.get .steer).scaled
  (decide (s.stc.machine = .steady) || decide (s.stc.machine = .aligning))
    && decide (step < s.ws.nat Item.steerSlew)
    && cornerIds.any fun i =>
        let k := s.stc.corners.get i
        decide (k.state = .active) && !k.currentHeld s.ws && decide (step < gaps.get i)

/-- Step 10 (R89): each corner's pulse. -/
def State.sendPulses (s : State) : State :=
  s.setStc { s.stc with
    corners := PerCorner.ofFn fun i =>
      let k := s.stc.corners.get i
      { k with pulse := k.pulseFor (s.ws.trim i) } }

/-- Steps 1 to 5 of a servo frame, the frame being counted and old stalls removed first (R98). -/
def State.beginFrame (s : State) (r : ServoReading) : State :=
  let n := s.stc.frameNo + 1
  let s0 := s.setStc { s.stc.mapCorners (fun k => k.age n) with frameNo := n }
  let s1 := s0.followMode
  let s2 := s1.setStc (s1.stc.sample r)
  s2.setSlew.takeSteerCode.aimCorners

/-- Steps 6 to 10 of a servo frame. -/
def State.endFrame (s : State) : State :=
  let gaps := s.stc.gaps
  let s1 := (s.workCorners).settleFailures s.stc.failedSet
  let s2 := s1.advanceMachine
  (s2.writeWish .steer (s2.steerWish gaps)).sendPulses

/-- SERVO_FRAME (R90). -/
def execServoFrame (r : ServoReading) (s : State) : Host.Outcome State Fault Refusal :=
  act s fun s => (s.beginFrame r).endFrame

/-! ## Events inside a frame -/

/-- After a corner's event: steps 7 and 8's test of R103 (95, CORNER_STALL). -/
def State.afterCorner (s : State) (before : PerCorner Bool) : State :=
  let s1 := s.settleFailures before
  s1.setStc s1.stc.settleIfAligned

/-- CORNER_STALL (R97, R98): an ACTIVE corner's stall count reaches 30 (log 6). -/
def execCornerStall (i : CornerId) (s : State) : Host.Outcome State Fault Refusal :=
  act s fun s =>
    let k := s.stc.corners.get i
    if k.state = .active ∧ 30 ≤ k.stallCount + 1 then
      (s.putCorner i (k.stall s.stc.frameNo)).afterCorner s.stc.failedSet
    else s

/-- CORNER_OPEN (R99): an ACTIVE corner's open count reaches 20 (log 6). -/
def execCornerOpen (i : CornerId) (s : State) : Host.Outcome State Fault Refusal :=
  act s fun s =>
    let k := s.stc.corners.get i
    if k.state = .active ∧ 20 ≤ k.openCount + 1 then
      (s.putCorner i (k.fail .open)).afterCorner s.stc.failedSet
    else s

/-- REST_END (R97): a corner's REST timer runs out (log 6). -/
def execRestEnd (i : CornerId) (s : State) : Host.Outcome State Fault Refusal :=
  act s fun s =>
    let k := s.stc.corners.get i
    if k.state = .rest ∧ k.stateTimer ≤ 10 then s.putCorner i (k.activate s.link.held) else s

/-- CLEARING_HOLD_END (R108): a corner's clearing hold runs out (log 6). -/
def execClearingHoldEnd (i : CornerId) (s : State) : Host.Outcome State Fault Refusal :=
  act s fun s =>
    let k := s.stc.corners.get i
    if k.state = .held ∧ k.clearing ∧ k.stateTimer ≤ 10 then
      s.putCorner i (k.endClearing s.stc.mode s.link.held)
    else s

/-- ALIGN_TIMEOUT (R106): the align timer reaches ALIGN_TIMEOUT_MS in ALIGNING (log 6). -/
def execAlignTimeout (s : State) : Host.Outcome State Fault Refusal :=
  act s fun s =>
    if s.stc.machine = .aligning ∧ s.ws.nat Item.alignTimeoutMs ≤ s.stc.nextAlignMs then
      s.alignExpires
    else s

/-- SETTLE_END (R105): the settle timer reaches SETTLE_MS in SETTLING (log 6). -/
def execSettleEnd (s : State) : Host.Outcome State Fault Refusal :=
  act s fun s =>
    if s.stc.machine = .settling ∧ s.ws.nat Item.settleMs ≤ s.stc.settleMs + 10 then s.settleEnds else s

/-! ## Requests -/

/-- A corner's record as GET_STEER reports it. -/
def State.cornerBytes (s : State) (i : CornerId) : List Byte :=
  (s.stc.corners.get i).bytes (s.ws.trim i) (s.ws.leftLimit i) (s.ws.rightLimit i) s.stc.frameNo

/-- The fields of GET_STEER before the corner records (R111). -/
def State.steerHead (s : State) : List Byte :=
  let c := s.stc
  u8 c.machine.code ++ u8 c.mode.code ++ orNone SteerMode.code c.pending ++ flag c.starved ++ u8 c.slewStep
    ++ u8 (allowedMask c.failedSet) ++ u8 (cornerMask c.failedSet) ++ u16 c.alignMs ++ u16 c.settleMs

/-- GET_STEER (R111): part 0 carries FL and FR, part 1 RL and RR. -/
def State.serveGetSteer (s : State) (q : RawRequest) (second : Bool) : State :=
  s.ok q (flag second ++ s.steerHead ++
    (if second then s.cornerBytes .rl ++ s.cornerBytes .rr else s.cornerBytes .fl ++ s.cornerBytes .fr))

/-- A cleared corner's record (R108), by the machine's state. -/
def Corner.clear (k : Corner) (m : SteerMachine) : Corner :=
  let base := { k with fault := .none, history := [] }
  match m with
  | .unpowered => base.parkAt .unpowered
  | .centering => base.parkAt .held
  | .steady | .aligning | .settling | .search =>
    { base.parkAt .held with stateTimer := 200, clearing := true }

/-- CLEAR_CORNER (R108): UNKNOWN above 3, BAD_STATE when not FAILED, BUSY in SEARCH (log 18). -/
def State.serveClearCorner (s : State) (q : RawRequest) (corner : Byte) : State :=
  match cornerOfNumber corner.toNat with
  | none => s.refuse q .unknown
  | some i =>
    let k := s.stc.corners.get i
    if k.state ≠ .failed then s.refuse q .badState
    else if s.stc.machine = .search then s.refuse q .busy
    else
      let s1 := s.ok q []
      (s1.setStc (s1.stc.put i (k.clear s1.stc.machine))).steerNotice .cleared

/-! ## Store loads and defaults (R109) -/

/-- A store load begins: every ACTIVE corner is HELD at its commanded angle, which is then its target (R93). -/
def Corner.holdForLoad (k : Corner) : Corner :=
  if k.state = .active then { k with state := .held, target := k.commanded, openCount := 0, loadHeld := true } else k

/-- A store load ends: the corners it held are ACTIVE again, with target 0 in ALIGNING and SETTLING (R93); in STEADY the
next frame's geometry gives the target (R92). -/
def Corner.releaseLoad (m : SteerMachine) (k : Corner) : Corner :=
  if k.loadHeld then
    { k with
      state := .active, loadHeld := false
      target := if m = .aligning ∨ m = .settling then 0 else k.target }
  else k

end Sys2Proof.Machine
end

