-- ==== Sys2Proof/Machine/Drive.lean ====
section
/-! DEFINITION. The Drive Controller (08): the drive update step by step, drive modes and dig locks, ramps, caps, the
limiter, stall rest, the assist follow. -/
namespace Sys2Proof.Machine

/-! ## Measuring (R129, R130) -/

/-- A speed in mm/s from counts in 20 ms: counts × 50,000 / counts a metre, truncated, held within ±3,000. -/
def speedOf (counts countsPerM : Int) : Int := clamp (-3000) 3000 ((counts * 50000).tdiv countsPerM)

/-- Replaces an axle's record. -/
def Drc.put (d : Drc) (i : AxleId) (a : Axle) : Drc := { d with axles := d.axles.put i a }

/-- Applies a function at both axle records. -/
def Drc.mapAxles (d : Drc) (f : AxleId → Axle → Axle) : Drc :=
  { d with axles := PerAxle.ofFn fun i => f i (d.axles.get i) }

/-- Step 1: encoder counts and speeds; in PARK the counts go to the motion count (R129, R43). -/
def State.readEncoders (s : State) (r : DriveReading) : State :=
  let d := s.drc.mapAxles fun i a =>
    { a with counts := r.counts.get i, speed := speedOf (r.counts.get i) (s.ws.int Item.countsPerM) }
  (s.setDrc d).countMotion r.counts.front r.counts.rear

/-- Step 2: measured currents (R130). -/
def Drc.readCurrents (d : Drc) (r : DriveReading) : Drc :=
  d.mapAxles fun i a => { a with current := min 50000 (r.currents.get i) }

/-! ## Assist follow (R140, R141) -/

/-- The follow state brought up to date (R140, table). -/
def nextFollow (f : FollowState) (w : WinchState) (m : VehicleMode) : FollowState :=
  match f with
  | .none => if w = .assist ∧ m = .run then .following else .none
  | .following =>
    if w = .assist ∧ m = .run then .following else if w = .jammed then .jamBrake else .none
  | .jamBrake => if w = .jammed then .jamBrake else .none

/-- The assist target (R140): line speed × ASSIST_RATIO_PCT / 100, truncated, held within 0 to 3,000. -/
def assistTargetOf (w : WorkingSet) (lineSpeed : Int) : Int :=
  clamp 0 3000 ((lineSpeed * w.int Item.assistRatioPct).tdiv 100)

/-- Step 3. -/
def State.updateFollow (s : State) : State :=
  let f := nextFollow s.drc.follow s.wnc.state s.mdc.mode
  s.setDrc { s.drc with
    follow := f
    assistTarget := if f = .following then assistTargetOf s.ws s.wnc.lineSpeed else 0 }

/-! ## Drive modes and dig locks (R132, R133) -/

/-- A change to mode `c` locks an axle that turns faster than LOCK_SPEED_MM_S (R132). -/
def Drc.lockWaits (d : Drc) (w : WorkingSet) (c : DriveSel) : Bool :=
  [AxleId.front, .rear].any fun i =>
    c.locks i && !d.mode.locks i && decide (w.nat Item.lockSpeedMmS < (d.axles.get i).speed.natAbs)

/-- The vehicle modes in which DRC reads its queue (R132). -/
def driveTakes : VehicleMode → Bool
  | .ready => true
  | .run => true
  | .failsafe => true
  | _ => false

/-- Step 4 (R132, R133): the head of the DRIVE_SEL queue is taken, or left with the lock pending. -/
def State.takeDriveCode (s : State) : State :=
  if driveTakes s.mdc.mode then
    match s.intent.drive.queue with
    | [] => s.setDrc { s.drc with lockPending := none }
    | c :: rest =>
      if s.drc.lockWaits s.ws c then s.setDrc { s.drc with lockPending := some c }
      else
        (s.setIntent { s.intent with drive := { s.intent.drive with queue := rest } }).setDrc
          { s.drc with mode := c, lockPending := none }
  else s

/-! ## What an axle may do (R131) -/

/-- The rows of R131's table, in order of precedence. -/
inductive AxleRow | coasting | braked | searchBrake | locked | rearOnly | jamBrake | follow | throttle
  deriving DecidableEq, Repr

/-- The first row that applies to an axle (R131). -/
def State.axleRow (s : State) (i : AxleId) : AxleRow :=
  if s.mdc.mode = .start ∨ s.mdc.mode = .loading ∨ s.mdc.mode = .packCheck then .coasting
  else if s.mdc.mode ≠ .run then .braked
  else if s.stc.machine = .search then .searchBrake
  else if s.drc.mode.locks i then .locked
  else if s.drc.mode = .rearOnly ∧ i = .front then .rearOnly
  else if s.drc.follow = .jamBrake then .jamBrake
  else if s.drc.follow = .following then .follow
  else .throttle

/-- The ramp (R134): by ACCEL_STEP away from 0, by DECEL_STEP toward it; a change of direction stops at 0. -/
def rampStep (w : WorkingSet) (r t : Int) : Int :=
  if r = t then r
  else if (0 < r ∧ t < 0) ∨ (r < 0 ∧ 0 < t) then toward r 0 (w.nat Item.decelStep)
  else if r.natAbs < t.natAbs then toward r t (w.nat Item.accelStep)
  else toward r t (w.nat Item.decelStep)

/-- The state of an axle that drives: DRIVE, or REST while its rest timer runs (R139). -/
def Axle.driving (a : Axle) : AxleState := if 0 < a.restMs then .rest else .drive

/-- An axle under the throttle (R134, R135). Where a change of direction brings the ramped duty to 0, the target not
being 0, R134 and R135 give no state: the axle is in DRIVE, or in REST while its rest timer runs, with brake strength 0
(the model's choice, log 56). -/
def Axle.throttle (a : Axle) (w : WorkingSet) (t : Int) : Axle :=
  let r := rampStep w a.ramped t
  if t = 0 ∧ r = 0 then
    { a with
      state := if w.nat Item.dragBrakePct = 0 then .coast else .brake
      brake := w.nat Item.dragBrakePct, target := t, ramped := r }
  else { a with state := a.driving, brake := 0, target := t, ramped := r }

/-- An axle following the line (R140): 20 an update toward the assist target, held within 0 and its ceiling; it
starts from its present duty if positive, else from 0. -/
def Axle.followLine (a : Axle) (target : Int) : Axle :=
  let r := max 0 a.ramped
  let moved := if a.speed < target then r + 20 else if target < a.speed then r - 20 else r
  { a with state := a.driving, brake := 0, target := 0, ramped := clamp 0 a.ceiling moved }

/-- Step 5 for one axle (R131). -/
def State.setAxle (s : State) (i : AxleId) (a : Axle) : Axle :=
  match s.axleRow i with
  | .coasting => a.stop .coast 0
  | .braked => a.stop .brake 100
  | .searchBrake => a.stop .brake 100
  | .locked => a.stop .locked 100
  | .rearOnly => a.stop .coast 0
  | .jamBrake => a.stop .brake 100
  | .follow => a.followLine s.drc.assistTarget
  | .throttle => a.throttle s.ws (shaped s.ws s.intent.axes.throttle)

/-! ## Caps, ceiling, timers (R136, R137, R139) -/

/-- Holds a ramped duty within a cap, its sign kept. -/
def Axle.cap (a : Axle) (c : Nat) : Axle := { a with ramped := clamp (-c) c a.ramped }

/-- Step 6: the transition cap in DRIVE and REST (R136), the rest cap in REST (R139). TRANSITION_CAP may be 0 (R179).
Step 5 has set the state by then, so an axle whose ramped duty this cap alone brings to 0 is in DRIVE, or in REST, with
brake strength 0 at this update: with a neutral throttle the drag brake holds it from the next one, where R135 speaks of
the update at which the ramped duty reaches 0 (the model's choice, log 58). -/
def Axle.caps (a : Axle) (w : WorkingSet) (m : SteerMachine) : Axle :=
  let a1 :=
    if (m = .aligning ∨ m = .settling) ∧ (a.state = .drive ∨ a.state = .rest) then a.cap (w.nat Item.transitionCap)
    else a
  if a1.state = .rest then a1.cap 300 else a1

/-- An axle has stalled (R139): rest timer 2,000 ms, stall timer 0, REST, its duty within the rest cap. -/
def Axle.stall (a : Axle) : Axle := { a with state := .rest, restMs := 2000, stallMs := 0 }.cap 300

/-- Step 7's stall timer (R139). -/
def Axle.runStall (a : Axle) (w : WorkingSet) : Axle :=
  if a.state = .drive ∧ w.nat Item.axleStallMa < a.current ∧ a.speed = 0 then
    if 800 ≤ a.stallMs + 20 then a.stall else { a with stallMs := a.stallMs + 20 }
  else { a with stallMs := 0 }

/-- Step 8: the effective duty (R137). -/
def Axle.setEffective (a : Axle) : Axle :=
  { a with
    effective :=
      if a.state = .drive ∨ a.state = .rest then clamp (-a.ceiling) a.ceiling a.ramped else 0 }

/-- Step 9's limit count (R138). -/
def Axle.countLimit (a : Axle) (grant : Nat) : Axle :=
  { a with
    limitCount := if a.limiterActive grant ∧ a.state = .drive then min 2 (a.limitCount + 1) else 0 }

/-- Steps 5 to 9 for one axle. The rest timer's fall of this update is counted first, so that an axle whose timer
reaches 0 here is in DRIVE and free of the rest cap (R139, log 22). -/
def State.updateAxle (s : State) (i : AxleId) : Axle :=
  let a0 := s.drc.axles.get i
  let grant := s.grant (axleConsumer i)
  let a1 := s.setAxle i { a0 with restMs := a0.restMs - 20 }
  let a2 := a1.caps s.ws s.stc.machine
  let a3 := { a2 with ceiling := movedCeiling a2.ceiling a2.current grant }
  ((a3.runStall s.ws).setEffective).countLimit grant

/-- The axle's surge wish (R138). -/
def Axle.wishes (a : Axle) : Bool := decide (a.state = .drive) && decide (a.limitCount = 2)

/-- Step 9's flags and vehicle speed (R142). -/
def Drc.judge (d : Drc) (m : VehicleMode) : Drc :=
  let stands (a : Axle) := decide (a.state = .brake) || decide (a.state = .locked)
  let back (a : Axle) := (decide (a.state = .drive) || decide (a.state = .rest)) && decide (a.effective < 0)
  { d with
    braking := decide (m = .run) && (stands d.axles.front || stands d.axles.rear)
    reversing := back d.axles.front || back d.axles.rear
    speed := max d.axles.front.speed.natAbs d.axles.rear.speed.natAbs }

/-- Both axles write their surge wishes (R138). -/
def State.writeAxleWishes (s : State) : State :=
  (s.writeWish .driveF s.drc.axles.front.wishes).writeWish .driveR s.drc.axles.rear.wishes

/-- Steps 5 to 9 of an update. -/
def State.driveAxles (s : State) : State :=
  let d := { s.drc with axles := PerAxle.ofFn s.updateAxle }
  (s.setDrc (d.judge s.mdc.mode)).writeAxleWishes

/-- DRIVE_UPDATE (R128). -/
def execDriveUpdate (r : DriveReading) (s : State) : Host.Outcome State Fault Refusal :=
  act s fun s =>
    let s1 := s.readEncoders r
    let s2 := s1.setDrc (s1.drc.readCurrents r)
    s2.updateFollow.takeDriveCode.driveAxles

/-! ## Events inside an update -/

/-- The rows of R131 that stop an axle. -/
def AxleRow.stops : AxleRow → Bool
  | .follow => false
  | .throttle => false
  | _ => true

/-- An axle that a change of drive mode locks or releases, the state `before` being that before the change: it stands as
R131 gives it under the new mode, within the caps (steps 5, 6 and 8 of the update); another axle is left as it
is (log 6). -/
def State.axleAfterTake (s before : State) (i : AxleId) : Axle :=
  let a := s.drc.axles.get i
  if (s.axleRow i).stops || (before.axleRow i).stops then ((s.setAxle i a).caps s.ws s.stc.machine).setEffective
  else a

/-- PENDING_LOCK_TAKEN (R133): a pending lock at the head whose axle has slowed is taken; the new mode acts on the axle
it locks and on the axle it releases as R131 gives (R132), and the flags follow. -/
def execPendingLockTaken (s : State) : Host.Outcome State Fault Refusal :=
  act s fun s =>
    match s.intent.drive.queue with
    | [] => s
    | c :: _ =>
      if driveTakes s.mdc.mode ∧ s.drc.lockPending = some c ∧ !s.drc.lockWaits s.ws c then
        let s1 := s.takeDriveCode
        let d := { s1.drc with axles := PerAxle.ofFn (s1.axleAfterTake s) }
        (s1.setDrc (d.judge s1.mdc.mode)).writeAxleWishes
      else s

/-- An axle's record is replaced by an event of its own: flags and wishes follow. -/
def State.putAxle (s : State) (i : AxleId) (a : Axle) : State :=
  (s.setDrc ((s.drc.put i a).judge s.mdc.mode)).writeAxleWishes

/-- AXLE_STALL (R139): an axle in DRIVE whose stall timer reaches 800 ms (log 6). -/
def execAxleStall (i : AxleId) (s : State) : Host.Outcome State Fault Refusal :=
  act s fun s =>
    let a := s.drc.axles.get i
    if a.state = .drive ∧ 800 ≤ a.stallMs + 20 then
      s.putAxle i { a.stall.setEffective with limitCount := 0 }
    else s

/-- AXLE_REST_END (R139): an axle's rest timer reaches 0; in RUN an axle in REST becomes DRIVE (log 6; no axle is in
DRIVE in another mode, R131). Sent on its own it leaves the ramped duty as it stands, and the rise at ACCEL_STEP that
R139 has at the update at which the timer reaches 0 comes with the next DRIVE_UPDATE (the model's choice, log 6). -/
def execAxleRestEnd (i : AxleId) (s : State) : Host.Outcome State Fault Refusal :=
  act s fun s =>
    let a := s.drc.axles.get i
    if 0 < a.restMs ∧ a.restMs ≤ 20 then
      s.putAxle i
        { a with restMs := 0, state := if a.state = .rest ∧ s.mdc.mode = .run then .drive else a.state }
    else s

/-! ## Request -/

/-- The body of GET_DRIVE (R144). -/
def State.driveBody (s : State) : List Byte :=
  let d := s.drc
  u8 d.mode.code ++ orNone DriveSel.code d.lockPending ++ u8 d.follow.code ++ u16 d.assistTarget.toNat
    ++ u8 (mask [d.braking, d.reversing]) ++ u16 d.speed
    ++ d.axles.front.bytes (s.cau.records.get .driveF).wish
    ++ d.axles.rear.bytes (s.cau.records.get .driveR).wish

/-- GET_DRIVE (R144). -/
def State.serveGetDrive (s : State) (q : RawRequest) : State := s.ok q s.driveBody

end Sys2Proof.Machine
end

