-- ==== Sys2Proof/Machine/Winch.lean ====
section
/-! DEFINITION. The Winch Controller (09): the winch update step by step, the clutch, jams, its requests. -/
namespace Sys2Proof.Machine

/-! ## The line (R147) -/

/-- The spool position after counts (positive: line coming in), and its payout. -/
def LineRef.move (l : LineRef) (counts countsPerM : Int) : LineRef :=
  let spool := (clamp 0 65535 (l.spool - counts)).toNat
  { spool := spool, payout := min 65535 (spool * 1000 / countsPerM.toNat) }

/-- Step 1: line speed and spool position. -/
def Wnc.readSpool (w : Wnc) (ws : WorkingSet) (counts : Int) : Wnc :=
  let k := ws.int Item.spoolCountsPerM
  { w with lineSpeed := speedOf counts k, line := w.line.map fun l => l.move counts k }

/-- Step 2: the line-in switch by double look; a closing references the line, ends a reel by load with re-arm set,
and raises a WINCH notice REFERENCED. -/
def State.readLineIn (s : State) (closed : Bool) : State :=
  let w := s.wnc
  let now := if closed = w.lineInPrev then closed else w.lineIn
  let w1 := { w with lineIn := now, lineInPrev := closed }
  if now && !w.lineIn then
    let w2 := { w1 with line := some ⟨0, 0⟩ }
    (s.setWnc (if w2.state.reels then w2.endByLoad s.ws true else w2)).winchNotice .referenced none
  else s.setWnc w1

/-- Step 3: load and current. -/
def Wnc.readLoad (w : Wnc) (load current : Nat) : Wnc :=
  { w with load := min 1000 load, current := min 40000 current }

/-! ## The selection (R149) -/

/-- A code that ends the movement of a state. -/
def codeEnds : WinchState → WinchSel → Bool
  | .reeling, .off => true
  | .reeling, .assist => true
  | .assist, .off => true
  | .assist, .manual => true
  | .paying, .off => true
  | _, _ => false

/-- Step 4: the head of the WINCH_SEL queue becomes the selection. -/
def State.takeWinchCode (s : State) : State :=
  match s.intent.winch.queue with
  | [] => s
  | c :: rest =>
    let w := { s.wnc with selection := c }
    (s.setIntent { s.intent with winch := { s.intent.winch with queue := rest } }).setWnc
      (if codeEnds s.wnc.state c then w.endByLoad s.ws true else w)

/-- Step 5: the solenoid's supply and the freespool (R159). An update that finds both causes names LOW_GRANT (the
model's choice, log 54). -/
def State.checkSolenoid (s : State) : State :=
  if s.grant .winch < 300 then s.forcedEngage .lowGrant
  else if s.mdc.mode = .run ∧ !s.drc.braking ∧ 0 < s.drc.speed then s.forcedEngage .driveAway
  else s

/-! ## Step 6 (R148, R150, R151, R152, R154) -/

/-- An idle winch stands HOLDING or STOPPED by its load (R148). -/
def Wnc.placeIdle (w : Wnc) (ws : WorkingSet) : Wnc :=
  if w.state = .stopped ∨ w.state = .holding then { w with state := w.byLoad ws } else w

/-- The start conditions of a reel (R151). -/
def State.reelMayStart (s : State) : Bool :=
  !s.wnc.rearm && !s.wnc.lineIn && !s.drc.reversing
    && (decide (s.wnc.selection ≠ .assist) || neutral s.ws s.intent.axes.throttle)

/-- The state a reel starts in, as the selection gives. -/
def reelState (sel : WinchSel) : WinchState := if sel = .assist then .assist else .reeling

/-- The winch axis acts (R151), `axis` being read with neutral as 0. -/
def State.winchAxis (s : State) (axis : Int) : Wnc :=
  let w := s.wnc
  match w.state with
  | .stopped | .holding =>
    if 0 < axis then
      if s.reelMayStart then { w with state := reelState w.selection, jamMs := 0 } else w
    else if axis < 0 then
      if !w.rearm && !w.atPayoutLimit s.ws then { w with state := .paying, jamMs := 0 } else w
    else w
  | .reeling | .assist =>
    if axis < 0 then { w with state := .paying, jamMs := 0 }
    else if axis = 0 then w.endByLoad s.ws false
    else w
  | .paying =>
    if 0 < axis then
      if s.reelMayStart then { w with state := reelState w.selection, jamMs := 0 }
      else w.endByLoad s.ws true
    else if axis = 0 then w.endByLoad s.ws false
    else w
  | .clutchReleasing | .freespool | .clutchEngaging | .jammed => w

/-- The two guards of a movement (R151). -/
def State.winchGuards (s : State) : Wnc :=
  let w := s.wnc
  if w.state = .paying ∧ w.atPayoutLimit s.ws then w.endByLoad s.ws true
  else if w.state = .reeling ∧ s.drc.reversing then w.endByLoad s.ws true
  else w

/-- The hard-load test (R152): a reel above TENSION_HARD_N ends in HOLDING, with its notice. -/
def State.hardHold (s : State) : State :=
  if s.wnc.state.reels ∧ s.ws.nat Item.tensionHardN < s.wnc.load then
    (s.setWnc (s.wnc.endMovement .holding true)).winchNotice .hardHold none
  else s

/-- The winch jams (R154): the jam timer keeps the value it reached. -/
def State.jam (s : State) (ms : Nat) : State :=
  (s.setWnc { s.wnc.endMovement .jammed true with jamMs := ms }).winchNotice .jammed none

/-- The jam test (R154). -/
def State.jamTest (s : State) : State :=
  if s.wnc.state.reels then
    if s.wnc.lineSpeed = 0 then
      let ms := min 5000 (s.wnc.jamMs + 20)
      if s.ws.nat Item.jamMs ≤ ms then s.jam ms else s.setWnc { s.wnc with jamMs := ms }
    else s.setWnc { s.wnc with jamMs := 0 }
  else s

/-- Step 6: idle placing, re-arm cleared by a neutral axis (R150), the axis in RUN with the selection not OFF, the
guards, the hard load, the jam. A reel that the axis or a guard ends or turns at an update with a load above
TENSION_HARD_N is no hard hold (the model's choice, log 55). -/
def State.winchState (s : State) : State :=
  let axis := shaped s.ws s.intent.axes.winch
  let s1 := s.setWnc (s.wnc.placeIdle s.ws)
  let s2 := if axis = 0 then s1.setWnc { s1.wnc with rearm := false } else s1
  let s3 :=
    if s2.mdc.mode = .run ∧ s2.wnc.selection ≠ .off then s2.setWnc (s2.winchAxis axis) else s2
  let s4 := s3.setWnc s3.winchGuards
  s4.hardHold.jamTest

/-! ## Step 7 (R152, R153) -/

/-- The demand of a moving winch (R152): from the axis, capped at LIMIT, reduced by the load. -/
def demandOf (ws : WorkingSet) (level : Level) (state : WinchState) (axis : Int) (load : Nat) : Int :=
  let d1 := (axis * ws.int Item.reelSpeedMmS).tdiv 1000
  let d2 := if level = .limit ∧ 0 < d1 then min d1 (ws.int Item.reelSpeedMmS / 2) else d1
  if state.reels ∧ ws.nat Item.tensionLimitN < load then
    (d2 * (ws.int Item.tensionHardN - load)).tdiv (ws.int Item.tensionHardN - ws.int Item.tensionLimitN)
  else d2

/-- The duty loop (R153): 20 toward the demand, held within ± the ceiling. -/
def nextDuty (duty demand lineSpeed : Int) (ceiling : Nat) : Int :=
  let moved := if lineSpeed < demand then duty + 20 else if demand < lineSpeed then duty - 20 else duty
  clamp (-ceiling) ceiling moved

/-- Step 7: demand, duty ceiling, duty. -/
def State.winchDuty (s : State) : State :=
  let w := s.wnc
  let ceiling := movedCeiling w.ceiling w.current (s.grant .winch)
  if w.state.moves then
    let demand := demandOf s.ws s.pkm.level w.state (shaped s.ws s.intent.axes.winch) w.load
    s.setWnc { w with
      demand := demand, ceiling := ceiling, duty := nextDuty w.duty demand w.lineSpeed ceiling }
  else s.setWnc { w with demand := 0, ceiling := ceiling, duty := 0 }

/-- Step 8: the limit count and the surge wish (R153). -/
def State.winchWish (s : State) : State :=
  let w := s.wnc
  let active := w.state.reels && decide ((s.cau.records.get .winch).scaled < w.current)
  let n := if active then min 2 (w.limitCount + 1) else 0
  (s.setWnc { w with limitCount := n }).writeWish .winch (w.state.reels && decide (n = 2))

/-- WINCH_UPDATE (R146): the eight steps in order. -/
def execWinchUpdate (r : WinchReading) (s : State) : Host.Outcome State Fault Refusal :=
  act s fun s =>
    let s1 := s.setWnc (s.wnc.readSpool s.ws r.counts)
    let s2 := s1.readLineIn r.lineInClosed
    let s3 := s2.setWnc (s2.wnc.readLoad r.load r.current)
    s3.takeWinchCode.checkSolenoid.winchState.winchDuty.winchWish

/-! ## Events -/

/-- WINCH_JAM (R154): the jam timer reaches JAM_MS (log 6). -/
def execWinchJam (s : State) : Host.Outcome State Fault Refusal :=
  act s fun s =>
    let ms := min 5000 (s.wnc.jamMs + 20)
    if s.wnc.state.reels ∧ s.ws.nat Item.jamMs ≤ ms then s.jam ms else s

/-- CLUTCH_TIMER_EXPIRY (R158): a release ends in FREESPOOL, an engage in STOPPED. -/
def execClutchTimerExpiry (s : State) : Host.Outcome State Fault Refusal :=
  act s fun s =>
    match s.wnc.state with
    | .clutchReleasing => s.setWnc { s.wnc with state := .freespool, clutch := .free, clutchMs := 0 }
    | .clutchEngaging => s.setWnc { s.wnc with state := .stopped, clutch := .engaged, clutchMs := 0 }
    | _ => s

/-- An accepted frame with a non-neutral throttle cancels an assist (R156). -/
def State.cancelAssist (s : State) : State :=
  if s.wnc.state = .assist ∧ !neutral s.ws s.intent.axes.throttle then
    s.setWnc (s.wnc.endByLoad s.ws true)
  else s

/-! ## Requests -/

/-- WINCH_CLUTCH FREE (R158): WRONG_MODE 1, MOVING 2, CLUTCH_MOVING 3, NOT_STOPPED 4. -/
def State.serveClutchFree (s : State) (q : RawRequest) : State :=
  if s.mdc.mode ≠ .ready ∧ s.mdc.mode ≠ .run then s.refuseWith q .badState 1
  else if s.grant .winch < 300 then s.refuse q .lowSupply
  else if s.wnc.state = .clutchReleasing ∨ s.wnc.state = .clutchEngaging then s.refuseWith q .badState 3
  else if s.wnc.state ≠ .stopped ∧ s.wnc.state ≠ .holding then s.refuseWith q .badState 4
  else if s.wnc.state = .holding ∨ s.ws.nat Item.freespoolN < s.wnc.load then s.refuse q .tensioned
  else if s.drc.speed ≠ 0 then s.refuseWith q .badState 2
  else (s.ok q []).setWnc { s.wnc with state := .clutchReleasing, clutch := .moving, clutchMs := 150 }

/-- WINCH_CLUTCH ENGAGE (R158): CLUTCH_MOVING 3, NOT_FREESPOOL 5. -/
def State.serveClutchEngage (s : State) (q : RawRequest) : State :=
  if s.wnc.state = .freespool then (s.ok q []).setWnc s.wnc.engage
  else if s.wnc.state = .clutchReleasing ∨ s.wnc.state = .clutchEngaging then s.refuseWith q .badState 3
  else s.refuseWith q .badState 5

/-- CLEAR_WINCH (R155): NOT_JAMMED 6, else out of JAMMED by load with re-arm set. -/
def State.serveClearWinch (s : State) (q : RawRequest) : State :=
  if s.wnc.state = .jammed then (s.ok q []).setWnc (s.wnc.endByLoad s.ws true)
  else s.refuseWith q .badState 6

/-- The body of GET_WINCH (R160). -/
def State.winchBody (s : State) : List Byte :=
  let w := s.wnc
  u8 w.state.code ++ u8 w.clutch.code ++ u16 w.clutchMs ++ u8 w.selection.code ++ flag w.rearm
    ++ lineBytes w.line ++ s16 w.lineSpeed ++ u16 w.load ++ u8 w.lineIn.toNat ++ u16 w.jamMs ++ s16 w.demand
    ++ s16 w.duty ++ u16 w.ceiling ++ u16 w.current ++ u8 w.limitCount
    ++ flag (s.cau.records.get .winch).wish

/-- GET_WINCH (R160). -/
def State.serveGetWinch (s : State) (q : RawRequest) : State := s.ok q s.winchBody

end Sys2Proof.Machine
end

