-- ==== Sys2Proof/Machine/Lamps.lean ====
section
/-! DEFINITION. The Lamp Controller (10): the lamp check step by step, generators and their edges, shedding, diagnosis,
its requests. -/
namespace Sys2Proof.Machine

/-! ## Sets of functions (R169, R170, R171) -/

/-- A function is shed. -/
def Lmp.isShed (l : Lmp) (f : FunctionId) : Bool := decide (f ∈ l.shed)

/-- A function is in the lit set, which the latest check found (R175). -/
def State.lit (s : State) (f : FunctionId) : Bool := s.lmp.lit[f]

/-- A function belongs in the lit set (R171): requested, not DARK, not shed. -/
def State.shines (s : State) (f : FunctionId) : Bool :=
  s.lmp.requested[f] && (s.ws.map[f]).isSome && !s.lmp.isShed f

/-- Whether the turn indicators are used in a steering mode (R169). -/
def indicates : SteerMode → Bool
  | .front => true
  | .counter => true
  | .independent => true
  | _ => false

/-- A function is requested in READY and RUN (R169, table). -/
def State.wanted (s : State) (f : FunctionId) : Bool :=
  let scene := s.lmp.scene
  let hazard := decide (Level.limit.code ≤ s.pkm.level.code)
  let angle := s.stc.corners.fl.commanded
  let threshold := s.ws.int Item.indicatorAngle
  match f with
  | 0 => decide (scene ≠ .off)
  | 1 => decide (scene ≠ .off)
  | 2 => s.drc.braking
  | 3 => s.drc.reversing
  | 4 => hazard || (indicates s.stc.mode && decide (angle < -threshold))
  | 5 => hazard || (indicates s.stc.mode && decide (threshold < angle))
  | 6 => decide (scene = .trail) || decide (scene = .full)
  | 7 => decide (scene = .full)
  | 8 => decide (s.wnc.state ≠ .stopped)
  | 9 => decide (s.wnc.state = .assist) || decide (s.stc.machine = .aligning) || decide (s.stc.machine = .settling)

/-- The requested set (R169, by vehicle mode). -/
def State.requests (s : State) (f : FunctionId) : Bool :=
  match s.mdc.mode with
  | .ready => s.wanted f
  | .run => s.wanted f
  | .failsafe => decide (f = 1) || decide (f = 4) || decide (f = 5)
  | _ => false

/-- Step 2: the requested set is found. -/
def State.findRequested (s : State) : State := s.setLmp { s.lmp with requested := Vector.ofFn s.requests }

/-- The functions in shed order (R170): class 3 down to class 1, within a class from the highest number down. -/
def WorkingSet.shedOrder (w : WorkingSet) : List FunctionId :=
  [3, 2, 1].flatMap fun k => functionIds.reverse.filter fun f => decide (w.functions[f].shedClass = k)

/-- A function is requested and mapped. -/
def State.asked (s : State) (f : FunctionId) : Bool := s.lmp.requested[f] && (s.ws.map[f]).isSome

/-- The draw (R170): the nominals of the functions requested, mapped and not shed. -/
def State.drawWith (s : State) (shed : List FunctionId) : Nat :=
  ((functionIds.filter fun f => s.asked f && decide (f ∉ shed)).map fun f => s.ws.functions[f].nominal).sum

/-- Sheds the functions of a candidate list, in its order, while the draw exceeds the grant (R170 step 3). -/
def State.shedMore (s : State) (grant : Nat) : List FunctionId → List FunctionId → List FunctionId
  | [], shed => shed
  | f :: rest, shed =>
    if grant < s.drawWith shed ∧ s.asked f ∧ f ∉ shed then s.shedMore grant rest (f :: shed)
    else s.shedMore grant rest shed

/-- Puts a set of shed functions in shed order; only functions of classes 1 to 3 have a place in it. -/
def WorkingSet.inShedOrder (w : WorkingSet) (shed : List FunctionId) : List FunctionId :=
  w.shedOrder.filter fun f => decide (f ∈ shed)

/-- The last member of a shed list is restored when the draw without it is within the grant and would stay so, by a
tenth, with it (R170 step 4). -/
def State.restoreLast (s : State) (grant : Nat) (shed : List FunctionId) : List FunctionId :=
  match shed.getLast? with
  | some f =>
    if s.drawWith shed ≤ grant ∧ (s.drawWith shed + s.ws.functions[f].nominal) * 11 ≤ grant * 10 then shed.dropLast
    else shed
  | none => shed

/-- The shed list after the check (R170 steps 1 to 4), each step on the list the one before it left. -/
def State.nextShed (s : State) (grant : Nat) : List FunctionId :=
  let kept := s.ws.inShedOrder (s.lmp.shed.filter s.asked)
  s.restoreLast grant (s.ws.inShedOrder (s.shedMore grant s.ws.shedOrder kept))

/-- Step 3: the shed list against the lamp grant. -/
def State.shed (s : State) : State := s.setLmp { s.lmp with shed := s.nextShed (s.grant .lamps) }

/-- The lit set is found (R171). It changes here alone: a load's, a MAP_LAMP's and a CLEAR_CHANNEL's maps act on it at
the next check (R165, R174, R175; log 52). -/
def State.findLit (s : State) : State := s.setLmp { s.lmp with lit := Vector.ofFn s.shines }

/-! ## Pattern generators (R167) -/

/-- The ON time of a generator record, in whole ms. -/
def GenRec.onTime (g : GenRec) : Nat :=
  match g.duty with
  | .quarter => g.period / 4
  | .third => g.period / 3
  | .half => g.period / 2
  | .full => g.period

/-- A lit function names the generator. -/
def State.genNamed (s : State) (g : GenId) : Bool :=
  functionIds.any fun f => s.lit f && decide (s.ws.functions[f].generator = .pg g)

/-- The generator that a channel's lit function blinks on; none for a STEADY, dark or unmapped one (R171). -/
def State.blinker (s : State) (ch : ChannelId) : Option GenId :=
  match s.ws.carried ch with
  | some f =>
    match s.ws.functions[f].generator with
    | .pg g => if s.lit f then some g else none
    | .steady => none
  | none => none

/-- An ON edge at a channel: commanded on, re-lit where it had tripped (R167). -/
def Channel.onEdge (c : Channel) : Channel := { c with commanded := true, output := .driving }

/-- Step 4 starts the generator: a lit function names it and it is not running. -/
def State.startsGen (s : State) (g : GenId) : Bool := s.genNamed g && !(s.lmp.gens.get g).running

/-- Step 4 starts the generator that the channel's lit function blinks on. -/
def State.startsUnder (s : State) (ch : ChannelId) : Bool :=
  match s.blinker ch with
  | some g => s.startsGen g
  | none => false

/-- Step 4: a generator named by a lit function starts at ON, one that none names stops. The start is a period start,
hence an ON edge of the channels that carry a lit function on the generator: they light at once, tripped ones included
(R167; log 51, DEDUCED). -/
def State.runGens (s : State) : State :=
  s.setLmp { s.lmp.mapChannels fun ch c => if s.startsUnder ch then c.onEdge else c with
    gens := PerGen.ofFn fun g =>
      let r := s.lmp.gens.get g
      if s.genNamed g then (if r.running then r else { running := true, on := true, ms := 0 }) else genStopped }

/-- A channel carries a function that the latest check found lit on the generator (R164, R165, log 24). -/
def State.drivenBy (s : State) (g : GenId) (ch : ChannelId) : Bool := decide (s.lmp.channels[ch].blink = some g)

/-- The ON edge (R167): ON begins, the generator's channels are commanded on, tripped ones re-lit. -/
def State.onEdge (s : State) (g : GenId) : State :=
  s.setLmp { s.lmp.mapChannels fun ch c =>
      if s.drivenBy g ch then c.onEdge else c with
    gens := s.lmp.gens.put g { running := true, on := true, ms := 0 } }

/-- The OFF edge (R167): OFF begins, the generator's channels are commanded off. -/
def State.offEdge (s : State) (g : GenId) : State :=
  s.setLmp { s.lmp.mapChannels fun ch c =>
      if s.drivenBy g ch then { c with commanded := false, output := .off } else c with
    gens := s.lmp.gens.put g { running := true, on := false, ms := (s.ws.gens.get g).onTime } }

/-! ## Diagnosis (R172, R173) -/

/-- Step 1 reads a channel's current: the driver's while its output is driving (R163). -/
def Channel.read (c : Channel) (mA : Nat) : Channel :=
  { c with current := if c.output = .driving then min 3000 mA else 0 }

/-- A channel is examined at this check (R172). -/
def Channel.examined (c : Channel) : Bool :=
  (c.commanded && decide (c.output = .driving)) || c.tripSeen

/-- The finding of an examination (R172). -/
def Channel.finding (c : Channel) : Suspect :=
  if c.tripSeen then .short else if c.current < 10 then .open else .none

/-- LMP raises a LAMP notice (R177) with the failed set and the map as they stand. -/
def State.lampNotice (s : State) (e : LampEvent) (ch : Option ChannelId) (f : Option FunctionId)
    (dest : Option ChannelId) : State :=
  s.raise (.lamp ⟨e, ch, f, dest, s.ws.failed, s.ws.map⟩)

/-- A channel is confirmed FAILED (R173): out of service with its suspect kept, its function to the lowest spare or
DARK, a notice. -/
def State.failChannel (s : State) (ch : ChannelId) : State :=
  let w := s.ws
  let f := w.carried ch
  let w1 := w.setFailed ch true
  let w2 :=
    match f with
    | some k => (w1.mapTo k none).giveSpare k
    | none => w1
  let out := { (s.lmp.channels[ch]).vacate with suspect := (s.lmp.channels[ch]).suspect }
  let s1 := s.remap w2
  (s1.setLmp (s1.lmp.put ch out)).lampNotice .failed (some ch) f (f.bind fun k => w2.map[k])

/-- A channel is examined and its finding acted on (R172). -/
def State.examine (s : State) (ch : ChannelId) : State :=
  let c := s.lmp.channels[ch]
  if c.examined then
    let found := c.finding
    let s1 := s.setLmp (s.lmp.put ch { c with tripSeen := false, suspect := found })
    if found ≠ .none ∧ found = c.suspect then s1.failChannel ch else s1
  else s

/-- The channels that a check may examine (R172): every one but the spares as it begins. A spare is never examined, so a
channel that this check itself maps is not; a FAILED one is, where a load found it with trip seen set (log 23). -/
def WorkingSet.examinable (w : WorkingSet) : List ChannelId := channelIds.filter fun ch => !w.spare ch

/-- Step 1: currents are read, then the channels that are no spares are examined in number order. -/
def State.diagnose (s : State) (currents : Vector Nat 12) : State :=
  s.ws.examinable.foldl State.examine (s.setLmp (s.lmp.mapChannels fun ch c => c.read currents[ch]))

/-! ## Setting the channels (R171) -/

/-- Whether a channel is commanded on: its lit function's generator is STEADY, or in ON (R171). -/
def State.channelOn (s : State) (ch : ChannelId) : Bool :=
  match s.ws.carried ch with
  | some f =>
    s.lit f &&
      (match s.ws.functions[f].generator with
       | .steady => true
       | .pg g => (s.lmp.gens.get g).on)
  | none => false

/-- The channel carries a function with generator STEADY. -/
def WorkingSet.steadyOn (w : WorkingSet) (ch : ChannelId) : Bool :=
  match w.carried ch with
  | some f => decide (w.functions[f].generator = .steady)
  | none => false

/-- The brightness of a channel: its function's, 0 when it carries none (R162). -/
def WorkingSet.brightness (w : WorkingSet) (ch : ChannelId) : Nat :=
  match w.carried ch with
  | some f => w.functions[f].brightness
  | none => 0

/-- Step 5 (R171): commanded state and brightness; a channel commanded on whose output is OFF drives, a tripped one is
re-lit when STEADY and stays dark on a generator until its next ON edge; a start at step 4 was one (R167), so such a
channel is DRIVING here. -/
def State.setChannels (s : State) : State :=
  s.setLmp (s.lmp.mapChannels fun ch c =>
    let on := s.channelOn ch
    { c with
      commanded := on
      brightness := s.ws.brightness ch
      output :=
        if !on then .off
        else if c.output = .tripped && !s.ws.steadyOn ch then .tripped
        else .driving
      blink := s.blinker ch })

/-- LAMP_CHECK (R163): the five steps in order. -/
def execLampCheck (currents : Vector Nat 12) (s : State) : Host.Outcome State Fault Refusal :=
  act s fun s => (s.diagnose currents).findRequested.shed.findLit.runGens.setChannels

/-! ## Events between checks -/

/-- ON_EDGE (R167): at a running generator. -/
def execOnEdge (g : GenId) (s : State) : Host.Outcome State Fault Refusal :=
  act s fun s => if (s.lmp.gens.get g).running then s.onEdge g else s

/-- OFF_EDGE (R167): at a running generator in ON; a generator at FULL has no OFF edge. -/
def execOffEdge (g : GenId) (s : State) : Host.Outcome State Fault Refusal :=
  act s fun s =>
    let r := s.lmp.gens.get g
    if r.running ∧ r.on ∧ (s.ws.gens.get g).duty ≠ .full then s.offEdge g else s

/-- SHORT_TRIP (R162): a DRIVING channel's short trip operates. -/
def execShortTrip (ch : ChannelId) (s : State) : Host.Outcome State Fault Refusal :=
  act s fun s =>
    let c := s.lmp.channels[ch]
    if c.output = .driving then s.setLmp (s.lmp.put ch { c with output := .tripped, tripSeen := true }) else s

/-- LMP takes the head of the LIGHT_SEL queue; the code becomes the scene (R169). -/
def State.takeLightCode (s : State) : State :=
  match s.intent.light.queue with
  | [] => s
  | c :: rest =>
    (s.setIntent { s.intent with light := { s.intent.light with queue := rest } }).setLmp
      { s.lmp with scene := c }

/-- LIGHT_SEL_TAKE (R169). -/
def execLightSelTake (s : State) : Host.Outcome State Fault Refusal := act s State.takeLightCode

/-! ## Requests -/

/-- A store save is in flight (R180). -/
def State.saving (s : State) : Bool := decide (s.sst.store = .writing)

/-- MAP_LAMP's effect (R166): nothing when the function already has the channel, else it moves; none makes it DARK. -/
def State.moveFunction (s : State) (f : FunctionId) (ch : Option ChannelId) : State :=
  if s.ws.map[f] = ch then s else s.remap (s.ws.mapTo f ch)

/-- MAP_LAMP (R166): the four tests in order. -/
def State.serveMapLamp (s : State) (q : RawRequest) (fn channel : Byte) : State :=
  if s.saving then s.refuse q .busy
  else
    match functionOfNumber fn.toNat with
    | none => s.refuse q .unknown
    | some f =>
      if channel = 0xFF#8 then (s.moveFunction f none).ok q []
      else
        match channelOfNumber channel.toNat with
        | none => s.refuse q .unknown
        | some ch =>
          if s.ws.failed[ch] then s.refuse q .faulted
          else if (s.ws.carried ch).isSome ∧ s.ws.carried ch ≠ some f then s.refuse q .notAllowed
          else (s.moveFunction f (some ch)).ok q []

/-- SET_FUNCTION (R164) after its encoding tests. -/
def State.serveSetFunction (s : State) (q : RawRequest) (fn : Byte) (r : FuncRec) : State :=
  if s.saving then s.refuse q .busy
  else
    match functionOfNumber fn.toNat with
    | none => s.refuse q .unknown
    | some f =>
      if 2000 < r.nominal ∨ 3 < r.shedClass ∨ r.brightness = 0 ∨ 100 < r.brightness then s.refuse q .range
      else (s.setWorking { s.ws with functions := s.ws.functions.set f r }).ok q []

/-- GET_FUNCTION's body (R176); the lit bit is the lit set's, as the latest check left it (log 52). -/
def State.functionBody (s : State) (f : FunctionId) : List Byte :=
  let r := s.ws.functions[f]
  u16 r.nominal ++ u8 r.shedClass ++ u8 r.generator.code ++ u8 r.brightness ++ flag r.remap
    ++ orNone Fin.val s.ws.map[f] ++ u8 (mask [s.lmp.requested[f], s.lmp.isShed f, s.lit f])

/-- GET_FUNCTION (R176). -/
def State.serveGetFunction (s : State) (q : RawRequest) (fn : Byte) : State :=
  match functionOfNumber fn.toNat with
  | none => s.refuse q .unknown
  | some f => s.ok q (s.functionBody f)

/-- SET_GENERATOR (R168) after its encoding test: a running generator restarts at ON at once. -/
def State.serveSetGenerator (s : State) (q : RawRequest) (gen : Byte) (period : Half) (duty : GenDuty) : State :=
  if s.saving then s.refuse q .busy
  else
    match genOfNumber gen.toNat with
    | none => s.refuse q .unknown
    | some g =>
      let p := period.toNat
      if p < 100 ∨ 2000 < p ∨ p % 10 ≠ 0 then s.refuse q .range
      else
        let s1 := s.setWorking { s.ws with gens := s.ws.gens.put g ⟨p, duty⟩ }
        (if (s1.lmp.gens.get g).running then s1.onEdge g else s1).ok q []

/-- CLEAR_CHANNEL's effect (R174): the channel is OK and spare, DARK functions that allow it take spares in function
order, a notice. Step 2's words conflict on a function made DARK by MAP_LAMP while its remap allowed is yes; it takes a
spare like any other DARK function that allows it (log 61, DEDUCED). -/
def State.clearFailed (s : State) (ch : ChannelId) : State :=
  let w := s.ws.setFailed ch false
  let give (v : WorkingSet) (f : FunctionId) : WorkingSet := if (v.map[f]).isNone then v.giveSpare f else v
  let w1 := functionIds.foldl give w
  let l := s.lmp.put ch { s.lmp.channels[ch] with suspect := .none, tripSeen := false }
  ((s.setLmp l).remap w1).lampNotice .cleared (some ch) none none

/-- CLEAR_CHANNEL (R174). -/
def State.serveClearChannel (s : State) (q : RawRequest) (channel : Byte) : State :=
  match channelOfNumber channel.toNat with
  | none => s.refuse q .unknown
  | some ch => if s.ws.failed[ch] then (s.ok q []).clearFailed ch else s.refuse q .badState

/-- The body of GET_LAMPS after status and part (R176). -/
def State.lampsBody (s : State) (second : Bool) : List Byte :=
  if second then
    mapBytes s.ws.map ++ u16 (mask s.ws.failed.toList) ++ u8 s.lmp.scene.code
      ++ u16 (mask s.lmp.requested.toList)
      ++ u16 (mask (functionIds.map s.lmp.isShed))
      ++ (genIds.map fun g => genBytes (s.ws.gens.get g) (s.lmp.gens.get g)).flatten
  else (channelIds.map fun ch => (s.lmp.channels[ch]).bytes s.ws.failed[ch]).flatten

/-- GET_LAMPS (R176). -/
def State.serveGetLamps (s : State) (q : RawRequest) (second : Bool) : State :=
  s.ok q (flag second ++ s.lampsBody second)

/-! ## Re-derivation (R175) -/

/-- The failed set after a load (R175): the loaded one together with every channel FAILED at that moment. -/
def joinFailed (old loaded : WorkingSet) : Vector Bool 12 :=
  Vector.ofFn fun ch : Fin 12 => loaded.failed[ch] || old.failed[ch]

/-- A function's loaded channel is in the failed set. -/
def mappedToFailed (w : WorkingSet) (failed : Vector Bool 12) (f : FunctionId) : Bool :=
  match w.map[f] with
  | some ch => failed[ch]
  | none => false

/-- The functions that a load moves or makes DARK (R175), in number order. -/
def displaced (old loaded : WorkingSet) : List FunctionId :=
  functionIds.filter (mappedToFailed loaded (joinFailed old loaded))

/-- The working set LMP derives from a loaded one (R175): the failed sets joined; each function whose channel is in
the joined set is unmapped, then, in number order, takes the lowest spare or stays DARK. -/
def rederive (old loaded : WorkingSet) : WorkingSet :=
  let failed := joinFailed old loaded
  let map : Vector (Option ChannelId) 10 := Vector.ofFn fun f : Fin 10 =>
    match mappedToFailed loaded failed f with
    | true => none
    | false => loaded.map[f]
  (displaced old loaded).foldl WorkingSet.giveSpare { loaded with failed := failed, map := map }

/-- A running generator whose period or duty changed restarts its phase (R175). -/
def State.restartGens (s : State) (old : WorkingSet) : State :=
  genIds.foldl (fun t g =>
    if (t.lmp.gens.get g).running ∧ t.ws.gens.get g ≠ old.gens.get g then t.onEdge g else t) s

/-- A loaded working set replaces the present one and LMP re-derives its state (R175). -/
def State.rederiveLamps (s : State) (loaded : WorkingSet) : State :=
  let s2 := (s.remap (rederive s.ws loaded)).restartGens s.ws
  if (displaced s.ws loaded).isEmpty then s2 else s2.lampNotice .loaded none none none

end Sys2Proof.Machine
end

