-- ==== Sys2Proof/Machine/AllotCommands.lean ====
section
/-! DEFINITION. The commands and the request of the Current Allotment Unit (05). -/
namespace Sys2Proof.Machine

/-- ALLOTMENT_WINDOW (R69): one window, once the start sequence has ended. -/
def execAllotmentWindow (s : State) : Host.Outcome State Fault Refusal :=
  act s fun s => if s.mdc.startDone then s.window else s

/-- A holder gives the slot up outside a whole window (log 6): its release, LOWERED, and the ceilings written anew
(R80, R81, R73). -/
def State.giveUpSlot (s : State) : State := s.setCau ((s.cau.release true).writeCeilings s.ws)

/-- SURGE_HOLD_COMPLETED (R80): the holder's hold count reaches SURGE_HOLD (log 6). -/
def execSurgeHoldCompleted (s : State) : Host.Outcome State Fault Refusal :=
  act s fun s =>
    match s.cau.holder with
    | some h => if s.ws.nat Item.surgeHold ≤ (s.cau.records.get h).hold + 1 then s.giveUpSlot else s
    | none => s

/-- SURGE_LAPSED (R81): the holder's wish is false and its lapse count reaches 2 (log 6). -/
def execSurgeLapsed (s : State) : Host.Outcome State Fault Refusal :=
  act s fun s =>
    match s.cau.holder with
    | some h =>
      if !(s.cau.records.get h).wish && decide (2 ≤ (s.cau.records.get h).lapse + 1) then s.giveUpSlot else s
    | none => s

/-- CALM_RETURN (R83): with the slot free and no wish the calm count reaches 2, and every LOWERED consumer returns
to NORMAL (log 6). -/
def execCalmReturn (s : State) : Host.Outcome State Fault Refusal :=
  act s fun s =>
    if s.mdc.startDone && s.cau.holder.isNone && s.cau.noWish && decide (2 ≤ s.cau.calm + 1) then
      s.setCau { s.cau with calm := 2 }.clearLowered
    else s

/-- One allotment record as sent: base and floor are the working set's (R68). -/
def State.allotBytes (s : State) (k : Consumer) : List Byte :=
  (s.cau.records.get k).bytes (s.ws.base k) (s.ws.floor k)

/-- The body of GET_ALLOT (R87; 12): consumers 0 to 2 in part 0, 3 and 4 in part 1. -/
def State.allotBody (s : State) (second : Bool) : List Byte :=
  u8 second.toNat ++ u16 s.cau.budget ++ u8 s.cau.budgetLevel.code ++ orNone Consumer.code s.cau.holder
    ++ u8 s.cau.calm
    ++ (if second then s.allotBytes .driveR ++ s.allotBytes .lamps
        else s.allotBytes .steer ++ s.allotBytes .winch ++ s.allotBytes .driveF)

/-- GET_ALLOT (R87). -/
def State.serveGetAllot (s : State) (q : RawRequest) (second : Bool) : State := s.ok q (s.allotBody second)

end Sys2Proof.Machine
end

