-- ==== Sys2Proof/Machine/Operands.lean ====
section
/-! DEFINITION. Reading a request: its kind, the fields of its payload, and the test of its encoding (R184), which
comes before any test of its owner. -/
namespace Sys2Proof.Machine

/-- A defined request with its fields read (12, table of requests). -/
inductive Request
  | hello
  | reset
  | getStatus
  | resume
  | park
  | wake
  | getWake
  | getPack
  | clearCutoff
  | resetEnergy
  | getAllot (second : Bool)
  | getSteer (second : Bool)
  | clearCorner (corner : Byte)
  | trimSearch (set : Byte)
  | trimAbort
  | getTrim
  | getDrive
  | winchClutch (engage : Bool)
  | getWinch
  | clearWinch
  | mapLamp (fn channel : Byte)
  | setFunction (fn : Byte) (r : FuncRec)
  | getFunction (fn : Byte)
  | setGenerator (gen : Byte) (period : Half) (duty : GenDuty)
  | clearChannel (channel : Byte)
  | getLamps (second : Bool)
  | set (id : Byte) (value : Word)
  | get (id : Byte)
  | storeSave
  | storeLoad
  | storeDefaults
  deriving DecidableEq, Repr

/-- A field that holds a code of two, 0 and 1: a flag, a part number, the clutch action (R184, R185, R158). -/
def twoCodes (b : Byte) : Option Bool := flagOfCode b.toNat

/-- The fields of SET_FUNCTION: none for a generator code or a remap value that the kind does not define (R164). -/
def functionFields (f : FunctionFields) : Option FuncRec :=
  match FuncGen.ofCode f.generator.toNat, twoCodes f.remap with
  | some g, some remap => some ⟨f.nominal.toNat, f.shedClass.toNat, g, f.brightness.toNat, remap⟩
  | _, _ => none

/-- The request that a defined kind and its payload spell; none where a field holds an encoding that the kind does
not define (R184: MALFORMED). -/
def parseRequest (kind : Byte) (payload : List Byte) : Option Request :=
  match kind.toNat, payload with
  | 0x01, [] => some .hello
  | 0x02, [] => some .reset
  | 0x03, [] => some .getStatus
  | 0x04, [] => some .resume
  | 0x05, [] => some .park
  | 0x06, [] => some .wake
  | 0x07, [] => some .getWake
  | 0x10, [] => some .getPack
  | 0x11, [] => some .clearCutoff
  | 0x12, [] => some .resetEnergy
  | 0x13, [part] => (twoCodes part).map .getAllot
  | 0x18, [part] => (twoCodes part).map .getSteer
  | 0x19, [corner] => some (.clearCorner corner)
  | 0x1A, [corners] => some (.trimSearch corners)
  | 0x1B, [] => some .trimAbort
  | 0x1C, [] => some .getTrim
  | 0x20, [] => some .getDrive
  | 0x24, [action] => (twoCodes action).map .winchClutch
  | 0x25, [] => some .getWinch
  | 0x26, [] => some .clearWinch
  | 0x28, [fn, channel] => some (.mapLamp fn channel)
  | 0x29, [fn, n0, n1, shed, gen, bright, remap] =>
    (functionFields ⟨joinHalf n0 n1, shed, gen, bright, remap⟩).map (.setFunction fn)
  | 0x2A, [fn] => some (.getFunction fn)
  | 0x2B, [gen, p0, p1, duty] => (GenDuty.ofCode duty.toNat).map (.setGenerator gen (joinHalf p0 p1))
  | 0x2C, [channel] => some (.clearChannel channel)
  | 0x2D, [part] => (twoCodes part).map .getLamps
  | 0x30, [id, v0, v1, v2, v3] => some (.set id (joinWord v0 v1 v2 v3))
  | 0x31, [id] => some (.get id)
  | 0x32, [] => some .storeSave
  | 0x33, [] => some .storeLoad
  | 0x34, [] => some .storeDefaults
  | _, _ => none

/-- A request is served before the start sequence has ended (R34): HELLO and RESET. -/
def Request.early : Request → Bool
  | .hello => true
  | .reset => true
  | _ => false

/-- The CONTROL payload (12): four axes and four codes; none unless it has 12 bytes. -/
def parseControl : List Byte → Option ControlFrame
  | [t0, t1, s0, s1, w0, w1, a0, a1, steer, drive, light, winch] =>
    some ⟨joinHalf t0 t1, joinHalf s0 s1, joinHalf w0 w1, joinHalf a0 a1, steer, drive, light, winch⟩
  | _ => none

end Sys2Proof.Machine
end

