-- ==== Sys2Proof/Machine/Intent.lean ====
section
/-! DEFINITION. The Intent Filter (02): range test, intent record, switch acceptance, change queues. -/
namespace Sys2Proof.Machine

/-- An accepted code is offered to a change queue of depth 2 (R22). -/
def offer {α : Type} [DecidableEq α] (x : α) : List α → List α
  | [] => [x]
  | [a] => [a, x]
  | a :: _ :: _ => if x = a then [a] else [a, x]

/-- Switch acceptance by double look (R20): a code that matches the candidate and is not the last accepted one is
accepted and offered; in every case it becomes the candidate. -/
def Switch.see {α : Type} [DecidableEq α] (w : Switch α) (x : α) : Switch α :=
  if w.candidate = some x ∧ w.last ≠ some x then
    { candidate := some x, last := some x, queue := offer x w.queue }
  else { w with candidate := some x }

/-- The values of a CONTROL frame whose fields all lie in range (R15). -/
structure ControlValues where
  axes : Axes
  steer : SteerSel
  drive : DriveSel
  light : LightSel
  winch : WinchSel
  deriving DecidableEq, Repr

/-- An axis lies from -1000 to +1000. -/
def axisInRange (v : Int) : Bool := decide (-1000 ≤ v) && decide (v ≤ 1000)

/-- The range test (R15): the values of a frame, none if any one field fails. -/
def controlValues (f : ControlFrame) : Option ControlValues :=
  let a : Axes := ⟨f.throttle.toInt, f.steer.toInt, f.winch.toInt, f.aux.toInt⟩
  if axisInRange a.throttle && axisInRange a.steer && axisInRange a.winch && axisInRange a.aux then
    match SteerSel.ofCode f.steerSel.toNat, DriveSel.ofCode f.driveSel.toNat,
      LightSel.ofCode f.lightSel.toNat, WinchSel.ofCode f.winchSel.toNat with
    | some st, some dr, some li, some wi => some ⟨a, st, dr, li, wi⟩
    | _, _, _, _ => none
  else none

/-- Steps 1 and 2 of taking an accepted frame (R17): the axes, then the four switches. -/
def Intent.take (i : Intent) (v : ControlValues) : Intent :=
  { axes := v.axes, steer := i.steer.see v.steer, drive := i.drive.see v.drive, light := i.light.see v.light,
    winch := i.winch.see v.winch }

/-- An accepted frame is taken whole (R17): axes, switches, the report to MDC, the throttle's cancel at WNC (R156);
LMP takes its codes at once (R169). -/
def State.acceptFrame (s : State) (v : ControlValues) : State :=
  ((s.setIntent (s.intent.take v)).report.cancelAssist).takeLightCode.takeLightCode

/-- A CONTROL frame handed to IFL (R4, R15, R16): refused as MALFORMED out of range; ignored while the start sequence
runs; discarded once a RESET is accepted (R14). -/
def State.takeControl (s : State) (f : ControlFrame) : State :=
  if s.link.resetting then s
  else
    match controlValues f with
    | none => s.drop .malformed
    | some v => if s.mdc.startDone then s.acceptFrame v else s

/-- CONTROL_FRAME (R17). -/
def execControlFrame (f : ControlFrame) (s : State) : Host.Outcome State Fault Refusal :=
  act s fun s => s.takeControl f

end Sys2Proof.Machine
end

