-- ==== Sys2Proof/Machine/Store.lean ====
section
/-! DEFINITION. The Settings Store (11): SET and GET, saving, loading, defaults. -/
namespace Sys2Proof.Machine

/-! ## SET and GET (R179) -/

/-- The trim items. -/
def isTrimItem (i : Fin 78) : Bool := decide (50 ≤ i.val) && decide (i.val ≤ 53)

/-- The items whose SET makes CAU recompute (R75): BUDGET_MA to SURGE_MA, the bases and the floors. -/
def isAllotItem (i : Fin 78) : Bool :=
  decide (20 ≤ i.val) && decide (i.val ≤ 33) && decide (i ≠ Item.surgeHold)

/-- Test 5 (R179): the owner's refusal of a change now (R66, R109). -/
def State.ownerRefuses (s : State) (i : Fin 78) : Option Status :=
  if i = Item.cellCount ∧ s.mdc.mode ≠ .ready ∧ s.mdc.mode ≠ .park then some .badState
  else if isTrimItem i ∧ s.stc.machine = .search then some .busy
  else none

/-- NOTICE_MASK as it stands removes the pending notices it leaves out (R10). -/
def State.pruneNotices (s : State) : State :=
  s.setLink { s.link with notices := s.link.notices.keep s.ws.notices }

/-- What an accepted SET brings about at once: pending notices (R10), the silence and auto-park timers (R37, R41), the
confirm counts (R66), CAU's recomputation (R75). Every other item acts from its owner's next use. -/
def State.settingTakesEffect (s : State) (i : Fin 78) : State :=
  if i = Item.noticeMask then s.pruneNotices
  else if i = Item.silenceMs then if s.ws.nat Item.silenceMs ≤ s.mdc.silenceMs then s.silenceExpires else s
  else if i = Item.autoParkS then
    if s.ws.nat Item.autoParkS * 1000 ≤ s.mdc.autoParkMs then s.autoParkExpires else s
  else if i = Item.cellCount then s.setPkm s.pkm.restartCounts
  else if isAllotItem i then s.recomputeCau
  else s

/-- SET (R179): the five tests in order, then the value is written, answered and takes effect. -/
def State.serveSet (s : State) (q : RawRequest) (id : Byte) (value : Word) : State :=
  let v := value.toInt
  if s.saving then s.refuse q .busy
  else
    match itemSpec id.toNat with
    | none => s.refuse q .unknown
    | some spec =>
      if h : spec.id < 78 then
        let i : Fin 78 := ⟨spec.id, h⟩
        if !spec.allowed.admits v then s.refuse q .range
        else if !(s.ws.setItem i v).ordered then s.refuse q .range
        else
          match s.ownerRefuses i with
          | some st => s.refuse q st
          | none => ((s.setWorking (s.ws.setItem i v)).ok q []).settingTakesEffect i
      else s.refuse q .unknown

/-- GET (R179): the item's working value. -/
def State.serveGet (s : State) (q : RawRequest) (id : Byte) : State :=
  match itemSpec id.toNat with
  | none => s.refuse q .unknown
  | some spec =>
    if h : spec.id < 78 then s.ok q (u8 spec.id ++ s32 (s.ws.int ⟨spec.id, h⟩)) else s.refuse q .unknown

/-! ## Saving (R180, R181) -/

/-- STORE_SAVE (R180): the five tests in order; then the snapshot, WRITING with its timer, OK. The image is not a
usable copy from this moment. After a rise to CUTOFF the mode is SHUTDOWN (R47), so that test 3 answers BAD_STATE before
test 4 is reached: the table's order, against R180's last paragraph and R63's table (the model's choice, log 57). -/
def State.serveStoreSave (s : State) (q : RawRequest) : State :=
  if s.saving then s.refuse q .busy
  else if s.tse.running then s.refuse q .busy
  else if s.mdc.mode ≠ .ready ∧ s.mdc.mode ≠ .run ∧ s.mdc.mode ≠ .park then s.refuse q .badState
  else if s.pkm.level ≠ .normal ∧ s.pkm.level ≠ .caution then s.refuse q .lowSupply
  else if s.storeLock then s.refuse q .notAllowed
  else
    (s.setSst { s.sst with
      snapshot := some s.ws, store := .writing, writeMs := 0, image := s.sst.image.spoil }).ok q []

/-- SAVE_COMPLETE (R181): the write timer expires with the store WRITING; the image is the snapshot with its check. -/
def execSaveComplete (s : State) : Host.Outcome State Fault Refusal :=
  act s fun s =>
    match s.sst.store, s.sst.snapshot with
    | .writing, some w =>
      (s.setSst { s.sst with image := Image.of w, store := .valid, snapshot := none, writeMs := 0 }).raise
        (.store ⟨.done, .valid⟩)
    | _, _ => s

/-! ## Loading and defaults (R182) -/

/-- Blocks take up a working set that replaces the present one (R182): LMP re-derives, pending notices follow the new
mask (R10), CAU recomputes, PKM restarts its counts if CELL_COUNT changed. -/
def State.replaceWorking (s : State) (w : WorkingSet) : State :=
  let cells := s.ws.int Item.cellCount
  let s1 := (s.rederiveLamps w).pruneNotices
  let s2 := s1.recomputeCau
  if s2.ws.int Item.cellCount = cells then s2 else s2.setPkm s2.pkm.restartCounts

/-- The tests that STORE_LOAD and STORE_DEFAULTS share (R182 tests 1 and 2; a running search gives BUSY, R124). -/
def State.loadRefused (s : State) : Option Status :=
  if s.saving then some .busy
  else if s.tse.running then some .busy
  else if s.mdc.mode ≠ .ready ∧ s.mdc.mode ≠ .park then some .badState
  else none

/-- STORE_LOAD (R182): answered OK at once; the dispatcher and the ACTIVE corners are held while it runs. -/
def State.serveStoreLoad (s : State) (q : RawRequest) : State :=
  match s.loadRefused with
  | some st => s.refuse q st
  | none =>
    if s.sst.store ≠ .valid then s.refuse q .faulted
    else
      let s1 := s.ok q []
      (s1.setLink { s1.link with held := true, loadMs := 0 }).setStc (s1.stc.mapCorners Corner.holdForLoad)

/-- A load ends (R182): the image replaces the working set, STC releases its corners, the dispatcher is free. -/
def State.finishLoad (s : State) : State :=
  let s1 := s.replaceWorking s.sst.image.content
  (s1.setLink { s1.link with held := false, loadMs := 0 }).setStc
    (s1.stc.mapCorners (Corner.releaseLoad s1.stc.machine))

/-- STORE_DEFAULTS (R182): the defaults at once, OK, and the blocks take them up. -/
def State.serveStoreDefaults (s : State) (q : RawRequest) : State :=
  match s.loadRefused with
  | some st => s.refuse q st
  | none => (s.ok q []).replaceWorking WorkingSet.defaults

end Sys2Proof.Machine
end

