-- ==== Sys2Proof/Machine/Link.lean ====
section
/-! DEFINITION. The Link Interface (01): serving, dispatch and admission of requests, judging frames, the receiver,
the transmitter's end of a frame, and the two resets. -/
namespace Sys2Proof.Machine

/-! ## Serving one request (R6, R34, R184) -/

/-- The owner acts on a request and produces its reply (12, table of requests). -/
def State.owner (s : State) (q : RawRequest) : Request → State
  | .hello => s.serveHello q
  | .reset => s.serveReset q
  | .getStatus => s.serveGetStatus q
  | .resume => s.serveResume q
  | .park => s.servePark q
  | .wake => s.serveWake q
  | .getWake => s.serveGetWake q
  | .getPack => s.serveGetPack q
  | .clearCutoff => s.serveClearCutoff q
  | .resetEnergy => s.serveResetEnergy q
  | .getAllot second => s.serveGetAllot q second
  | .getSteer second => s.serveGetSteer q second
  | .clearCorner corner => s.serveClearCorner q corner
  | .trimSearch set => s.serveTrimSearch q set
  | .trimAbort => s.serveTrimAbort q
  | .getTrim => s.serveGetTrim q
  | .getDrive => s.serveGetDrive q
  | .winchClutch false => s.serveClutchFree q
  | .winchClutch true => s.serveClutchEngage q
  | .getWinch => s.serveGetWinch q
  | .clearWinch => s.serveClearWinch q
  | .mapLamp fn channel => s.serveMapLamp q fn channel
  | .setFunction fn r => s.serveSetFunction q fn r
  | .getFunction fn => s.serveGetFunction q fn
  | .setGenerator gen period duty => s.serveSetGenerator q gen period duty
  | .clearChannel channel => s.serveClearChannel q channel
  | .getLamps second => s.serveGetLamps q second
  | .set id value => s.serveSet q id value
  | .get id => s.serveGet q id
  | .storeSave => s.serveStoreSave q
  | .storeLoad => s.serveStoreLoad q
  | .storeDefaults => s.serveStoreDefaults q

/-- A dispatched request is served: UNKNOWN for an undefined kind (R6), MALFORMED for an encoding its kind does not
define (R184), NOT_STARTED before the start sequence has ended (R34), else its owner's answer. -/
def State.serve (s : State) (q : RawRequest) : State :=
  if (definedLen q.kind).isNone then s.refuse q .unknown
  else
    match parseRequest q.kind q.payload with
    | none => s.refuse q .malformed
    | some r => if s.mdc.startDone || r.early then s.owner q r else s.refuse q .notStarted

/-! ## Dispatch and admission (R5, R6) -/

/-- The dispatcher removes the oldest waiting request, reserves its reply slot and hands it over; it takes none while
held or once a RESET is accepted (R6, R14). The conditions of the auto-park timer are judged before the next request
is taken (R41, log 37). -/
def State.dispatchOne (s : State) : State :=
  if s.link.held || s.link.resetting then s
  else
    match s.link.waiting with
    | [] => s
    | q :: rest => ((s.setLink { s.link with waiting := rest, slots := s.link.slots + 1 }).serve q).holdAutoPark

/-- Dispatches up to a number of requests, one after another. -/
def State.dispatchUpTo : Nat → State → State
  | 0, s => s
  | n + 1, s => s.dispatchOne.dispatchUpTo n

/-- The dispatcher goes on while it is free and a request waits (R6). -/
def State.dispatchAll (s : State) : State := s.dispatchUpTo s.link.waiting.length

/-- Admission (R5): a request is admitted while waiting requests and held slots number less than four, else dropped
QUEUE_FULL. Once a RESET is accepted nothing is taken in (R14). -/
def State.enqueue (s : State) (q : RawRequest) : State :=
  if s.link.resetting then s
  else if s.link.waiting.length + s.link.slots < 4 then
    (s.setLink { s.link with waiting := s.link.waiting ++ [q] }).dispatchAll
  else s.drop .queueFull

/-! ## Judging a frame (R3, R4) -/

/-- Steps 2 and 3 of judging (R3): kind and length; the payload of an undefined request is not kept. Once a RESET is
accepted no frame is assembled, judged or counted as a drop (R14). -/
def State.judgeKind (s : State) (kind tag : Byte) (payload : List Byte) : State :=
  if s.link.resetting then s
  else if kind = 0x40 then
    match parseControl payload with
    | some f => s.takeControl f
    | none => s.drop .malformed
  else if isRequestKind kind then
    match definedLen kind with
    | some n => if payload.length = n then s.enqueue ⟨kind, tag, payload⟩ else s.drop .malformed
    | none => s.enqueue ⟨kind, tag, []⟩
  else s.drop .malformed

/-- The judging of a whole frame (R3), from its check on. -/
def State.judge (s : State) (len kind tag : Byte) (payload : List Byte) (check : Half) : State :=
  if crc (len :: kind :: tag :: payload) = check then s.judgeKind kind tag payload else s.drop .crc

/-! ## The receiver (R1, R2) -/

/-- The receiver's next state, its gap timer restarted (R1). -/
def State.setRx (s : State) (rx : Receiver) : State := s.setLink { s.link with rx := rx, gapMs := 0 }

/-- A byte is taken in the receiver's state (R1). -/
def State.takeByte (s : State) (b : Byte) : State :=
  match s.link.rx with
  | .hunt => if b = Config.sync then s.setRx .length else s
  | .length => if b.toNat ≤ 60 then s.setRx (.header b none) else (s.setRx .hunt).drop .length
  | .header len none => s.setRx (.header len (some b))
  | .header len (some kind) =>
    s.setRx (if len = 0 then .check len kind b [] none else .body len kind b [])
  | .body len kind tag payload =>
    let p := payload ++ [b]
    s.setRx (if len.toNat ≤ p.length then .check len kind tag p none else .body len kind tag p)
  | .check len kind tag payload none => s.setRx (.check len kind tag payload (some b))
  | .check len kind tag payload (some low) => (s.setRx .hunt).judge len kind tag payload (joinHalf low b)

/-- BYTE_RECEIVED (R1): once a RESET is accepted every byte is discarded (R14). -/
def execByteReceived (b : Byte) (s : State) : Host.Outcome State Fault Refusal :=
  act s fun s => if s.link.resetting then s else s.takeByte b

/-- GAP_TIMER_EXPIRY (R2): the frame in assembly is dropped with reason GAP; in HUNT the timer is stopped. -/
def execGapTimerExpiry (s : State) : Host.Outcome State Fault Refusal :=
  act s fun s => if s.link.rx = .hunt then s else (s.setRx .hunt).drop .gap

/-! ## Resets (R14, R28, R35, R60, R67) -/

/-- The part takes the reset of an accepted RESET (R14, R35): every block at its values after a reset, but the image,
the energy counter, and the level where it is CUTOFF (R60). -/
def State.takeReset (s : State) : State :=
  { State.reset with
    pending := s.pending
    storeLock := s.storeLock
    mdc := mdcReset .resetRequest
    pkm := pkmReset s.pkm.usedMah s.pkm.residue (if s.pkm.level = .cutoff then .cutoff else .normal)
    sst := sstReset s.sst.image }

/-- The part takes a power-on reset (R28, R67): every block at its values after a reset, the image as it stands. -/
def State.powerOn (s : State) : State :=
  { State.reset with pending := s.pending, storeLock := s.storeLock, sst := sstReset s.sst.image }

/-- POWER_ON_RESET (R28): supply rises, or returns. -/
def execPowerOnReset (s : State) : Host.Outcome State Fault Refusal := .next s.powerOn

/-- BROWN_OUT (R67): every block stops where it stands and all volatile state is lost; what is left waits, without
supply, for the power-on reset (log 8). A write under way has left an image whose check fails (R180). -/
def execBrownOut (s : State) : Host.Outcome State Fault Refusal := .next (s.powerOn.setPowered false)

/-! ## The transmitter (R9, R11, R14) -/

/-- The reply of an accepted RESET: kind 0x82 with status OK (R35, R185). -/
def isResetOk (f : TxFrame) : Bool := decide (f.kind = 0x82) && decide (f.payload = u8 Status.ok.code)

/-- A sent reply releases its slot (R9); a notice holds none. -/
def Link.releaseSlot (l : Link) (f : TxFrame) : Link :=
  if f.kind.toNat < 0xC0 then { l with slots := l.slots - 1 } else l

/-- FRAME_SENT (R11): the frame ends, its slot is released, and the transmitter chooses the next frame; at the end of
an accepted RESET's reply the part takes the reset (R14). -/
def execFrameSent (s : State) : Host.Outcome State Fault Refusal :=
  act s fun s =>
    match s.link.tx with
    | none => s
    | some f =>
      if s.link.resetting && isResetOk f then s.takeReset
      else s.setLink { s.link.releaseSlot f with tx := none }.kick

/-! ## The end of a store load -/

/-- STORE_LOAD_END (R182, R6): the load that holds the dispatcher ends, and the requests that waited are dispatched;
the conditions of the auto-park timer are judged before the first of them (R41, log 37). -/
def execStoreLoadEnd (s : State) : Host.Outcome State Fault Refusal :=
  act s fun s => if s.link.held then s.finishLoad.holdAutoPark.dispatchAll else s

end Sys2Proof.Machine
end

