-- ==== Sys2Proof/Machine/RequestCommands.lean ====
section
/-! DEFINITION. The request commands: a request frame that passed the judging of R3 reaches admission (R5) with the
payload of its kind (12, table of requests), and acts when the dispatcher hands it to its owner (log 4). -/
namespace Sys2Proof.Machine

/-- UNDEFINED_REQUEST (R6): a frame whose kind is in the request range but not defined, judged from its kind on. -/
def execUndefinedRequest (kind tag : Byte) (s : State) : Host.Outcome State Fault Refusal :=
  act s fun s => s.judgeKind kind tag []

/-- HELLO (R30). -/
def execHello (tag : Byte) (s : State) : Host.Outcome State Fault Refusal :=
  act s fun s => s.enqueue ⟨0x01, tag, []⟩

/-- RESET (R35). -/
def execReset (tag : Byte) (s : State) : Host.Outcome State Fault Refusal :=
  act s fun s => s.enqueue ⟨0x02, tag, []⟩

/-- GET_STATUS (R48). -/
def execGetStatus (tag : Byte) (s : State) : Host.Outcome State Fault Refusal :=
  act s fun s => s.enqueue ⟨0x03, tag, []⟩

/-- RESUME (R39). -/
def execResume (tag : Byte) (s : State) : Host.Outcome State Fault Refusal :=
  act s fun s => s.enqueue ⟨0x04, tag, []⟩

/-- PARK (R40). -/
def execPark (tag : Byte) (s : State) : Host.Outcome State Fault Refusal :=
  act s fun s => s.enqueue ⟨0x05, tag, []⟩

/-- WAKE (R45). -/
def execWake (tag : Byte) (s : State) : Host.Outcome State Fault Refusal :=
  act s fun s => s.enqueue ⟨0x06, tag, []⟩

/-- GET_WAKE (R46). -/
def execGetWake (tag : Byte) (s : State) : Host.Outcome State Fault Refusal :=
  act s fun s => s.enqueue ⟨0x07, tag, []⟩

/-- GET_PACK (R65). -/
def execGetPack (tag : Byte) (s : State) : Host.Outcome State Fault Refusal :=
  act s fun s => s.enqueue ⟨0x10, tag, []⟩

/-- CLEAR_CUTOFF (R61). -/
def execClearCutoff (tag : Byte) (s : State) : Host.Outcome State Fault Refusal :=
  act s fun s => s.enqueue ⟨0x11, tag, []⟩

/-- RESET_ENERGY (R52). -/
def execResetEnergy (tag : Byte) (s : State) : Host.Outcome State Fault Refusal :=
  act s fun s => s.enqueue ⟨0x12, tag, []⟩

/-- GET_ALLOT (R87). -/
def execGetAllot (tag part : Byte) (s : State) : Host.Outcome State Fault Refusal :=
  act s fun s => s.enqueue ⟨0x13, tag, [part]⟩

/-- GET_STEER (R111). -/
def execGetSteer (tag part : Byte) (s : State) : Host.Outcome State Fault Refusal :=
  act s fun s => s.enqueue ⟨0x18, tag, [part]⟩

/-- CLEAR_CORNER (R108). -/
def execClearCorner (tag corner : Byte) (s : State) : Host.Outcome State Fault Refusal :=
  act s fun s => s.enqueue ⟨0x19, tag, [corner]⟩

/-- TRIM_SEARCH (R114). -/
def execTrimSearch (tag corners : Byte) (s : State) : Host.Outcome State Fault Refusal :=
  act s fun s => s.enqueue ⟨0x1A, tag, [corners]⟩

/-- TRIM_ABORT (R121). -/
def execTrimAbort (tag : Byte) (s : State) : Host.Outcome State Fault Refusal :=
  act s fun s => s.enqueue ⟨0x1B, tag, []⟩

/-- GET_TRIM (R125). -/
def execGetTrim (tag : Byte) (s : State) : Host.Outcome State Fault Refusal :=
  act s fun s => s.enqueue ⟨0x1C, tag, []⟩

/-- GET_DRIVE (R144). -/
def execGetDrive (tag : Byte) (s : State) : Host.Outcome State Fault Refusal :=
  act s fun s => s.enqueue ⟨0x20, tag, []⟩

/-- WINCH_CLUTCH_FREE (R158): WINCH_CLUTCH with action FREE. -/
def execWinchClutchFree (tag : Byte) (s : State) : Host.Outcome State Fault Refusal :=
  act s fun s => s.enqueue ⟨0x24, tag, [0]⟩

/-- WINCH_CLUTCH_ENGAGE (R158): WINCH_CLUTCH with action ENGAGE. -/
def execWinchClutchEngage (tag : Byte) (s : State) : Host.Outcome State Fault Refusal :=
  act s fun s => s.enqueue ⟨0x24, tag, [1]⟩

/-- GET_WINCH (R160). -/
def execGetWinch (tag : Byte) (s : State) : Host.Outcome State Fault Refusal :=
  act s fun s => s.enqueue ⟨0x25, tag, []⟩

/-- CLEAR_WINCH (R155). -/
def execClearWinch (tag : Byte) (s : State) : Host.Outcome State Fault Refusal :=
  act s fun s => s.enqueue ⟨0x26, tag, []⟩

/-- MAP_LAMP (R166). -/
def execMapLamp (tag fn channel : Byte) (s : State) : Host.Outcome State Fault Refusal :=
  act s fun s => s.enqueue ⟨0x28, tag, [fn, channel]⟩

/-- SET_FUNCTION (R164). -/
def execSetFunction (tag fn : Byte) (f : FunctionFields) (s : State) : Host.Outcome State Fault Refusal :=
  act s fun s =>
    s.enqueue ⟨0x29, tag, [fn] ++ half f.nominal ++ [f.shedClass, f.generator, f.brightness, f.remap]⟩

/-- GET_FUNCTION (R176). -/
def execGetFunction (tag fn : Byte) (s : State) : Host.Outcome State Fault Refusal :=
  act s fun s => s.enqueue ⟨0x2A, tag, [fn]⟩

/-- SET_GENERATOR (R168). -/
def execSetGenerator (tag gen : Byte) (period : Half) (duty : Byte) (s : State) :
    Host.Outcome State Fault Refusal :=
  act s fun s => s.enqueue ⟨0x2B, tag, [gen] ++ half period ++ [duty]⟩

/-- CLEAR_CHANNEL (R174). -/
def execClearChannel (tag channel : Byte) (s : State) : Host.Outcome State Fault Refusal :=
  act s fun s => s.enqueue ⟨0x2C, tag, [channel]⟩

/-- GET_LAMPS (R176). -/
def execGetLamps (tag part : Byte) (s : State) : Host.Outcome State Fault Refusal :=
  act s fun s => s.enqueue ⟨0x2D, tag, [part]⟩

/-- SET (R179). -/
def execSet (tag item : Byte) (value : Word) (s : State) : Host.Outcome State Fault Refusal :=
  act s fun s => s.enqueue ⟨0x30, tag, [item] ++ word value⟩

/-- GET (R179). -/
def execGet (tag item : Byte) (s : State) : Host.Outcome State Fault Refusal :=
  act s fun s => s.enqueue ⟨0x31, tag, [item]⟩

/-- STORE_SAVE (R180), with the level that the STORE_LOCK input has from this command on (log 14). -/
def execStoreSave (tag : Byte) (lock : Bool) (s : State) : Host.Outcome State Fault Refusal :=
  act (s.setStoreLock lock) fun s => s.enqueue ⟨0x32, tag, []⟩

/-- STORE_LOAD (R182). -/
def execStoreLoad (tag : Byte) (s : State) : Host.Outcome State Fault Refusal :=
  act s fun s => s.enqueue ⟨0x33, tag, []⟩

/-- STORE_DEFAULTS (R182). -/
def execStoreDefaults (tag : Byte) (s : State) : Host.Outcome State Fault Refusal :=
  act s fun s => s.enqueue ⟨0x34, tag, []⟩

end Sys2Proof.Machine
end

