-- ==== Sys2Proof/Machine/Dispatch.lean ====
section
/-! DEFINITION. The dispatch of commands: one arm per row of spec/opcode_table.json, in the table's order. -/
namespace Sys2Proof.Machine

def exec (i : Instr) (s : State) : Host.Outcome State Fault Refusal :=
  match i with
  | .byteReceived b => Sys2Proof.Machine.execByteReceived b s
  | .gapTimerExpiry => Sys2Proof.Machine.execGapTimerExpiry s
  | .frameSent => Sys2Proof.Machine.execFrameSent s
  | .powerOnReset => Sys2Proof.Machine.execPowerOnReset s
  | .brownOut => Sys2Proof.Machine.execBrownOut s
  | .controlFrame f => Sys2Proof.Machine.execControlFrame f s
  | .undefinedRequest kind tag => Sys2Proof.Machine.execUndefinedRequest kind tag s
  | .hello tag => Sys2Proof.Machine.execHello tag s
  | .reset tag => Sys2Proof.Machine.execReset tag s
  | .getStatus tag => Sys2Proof.Machine.execGetStatus tag s
  | .resume tag => Sys2Proof.Machine.execResume tag s
  | .park tag => Sys2Proof.Machine.execPark tag s
  | .wake tag => Sys2Proof.Machine.execWake tag s
  | .getWake tag => Sys2Proof.Machine.execGetWake tag s
  | .loadingEnd => Sys2Proof.Machine.execLoadingEnd s
  | .packCheckEnd => Sys2Proof.Machine.execPackCheckEnd s
  | .centeringEnd => Sys2Proof.Machine.execCenteringEnd s
  | .silenceTimerExpiry => Sys2Proof.Machine.execSilenceTimerExpiry s
  | .autoParkExpiry => Sys2Proof.Machine.execAutoParkExpiry s
  | .parkTimerExpiry => Sys2Proof.Machine.execParkTimerExpiry s
  | .motionWake => Sys2Proof.Machine.execMotionWake s
  | .packSample r => Sys2Proof.Machine.execPackSample r s
  | .levelRise c => Sys2Proof.Machine.execLevelRise c s
  | .levelStepDown => Sys2Proof.Machine.execLevelStepDown s
  | .getPack tag => Sys2Proof.Machine.execGetPack tag s
  | .clearCutoff tag => Sys2Proof.Machine.execClearCutoff tag s
  | .resetEnergy tag => Sys2Proof.Machine.execResetEnergy tag s
  | .allotmentWindow => Sys2Proof.Machine.execAllotmentWindow s
  | .surgeHoldCompleted => Sys2Proof.Machine.execSurgeHoldCompleted s
  | .surgeLapsed => Sys2Proof.Machine.execSurgeLapsed s
  | .calmReturn => Sys2Proof.Machine.execCalmReturn s
  | .getAllot tag part => Sys2Proof.Machine.execGetAllot tag part s
  | .servoFrame r => Sys2Proof.Machine.execServoFrame r s
  | .cornerStall c => Sys2Proof.Machine.execCornerStall c s
  | .cornerOpen c => Sys2Proof.Machine.execCornerOpen c s
  | .restEnd c => Sys2Proof.Machine.execRestEnd c s
  | .clearingHoldEnd c => Sys2Proof.Machine.execClearingHoldEnd c s
  | .alignTimeout => Sys2Proof.Machine.execAlignTimeout s
  | .settleEnd => Sys2Proof.Machine.execSettleEnd s
  | .getSteer tag part => Sys2Proof.Machine.execGetSteer tag part s
  | .clearCorner tag corner => Sys2Proof.Machine.execClearCorner tag corner s
  | .trimSearch tag corners => Sys2Proof.Machine.execTrimSearch tag corners s
  | .searchCornerBegin => Sys2Proof.Machine.execSearchCornerBegin s
  | .searchWaitEnd => Sys2Proof.Machine.execSearchWaitEnd s
  | .searchStepJudged => Sys2Proof.Machine.execSearchStepJudged s
  | .trimAbort tag => Sys2Proof.Machine.execTrimAbort tag s
  | .getTrim tag => Sys2Proof.Machine.execGetTrim tag s
  | .driveUpdate r => Sys2Proof.Machine.execDriveUpdate r s
  | .pendingLockTaken => Sys2Proof.Machine.execPendingLockTaken s
  | .axleStall a => Sys2Proof.Machine.execAxleStall a s
  | .axleRestEnd a => Sys2Proof.Machine.execAxleRestEnd a s
  | .getDrive tag => Sys2Proof.Machine.execGetDrive tag s
  | .winchUpdate r => Sys2Proof.Machine.execWinchUpdate r s
  | .winchJam => Sys2Proof.Machine.execWinchJam s
  | .clutchTimerExpiry => Sys2Proof.Machine.execClutchTimerExpiry s
  | .winchClutchFree tag => Sys2Proof.Machine.execWinchClutchFree tag s
  | .winchClutchEngage tag => Sys2Proof.Machine.execWinchClutchEngage tag s
  | .getWinch tag => Sys2Proof.Machine.execGetWinch tag s
  | .clearWinch tag => Sys2Proof.Machine.execClearWinch tag s
  | .lampCheck currents => Sys2Proof.Machine.execLampCheck currents s
  | .onEdge g => Sys2Proof.Machine.execOnEdge g s
  | .offEdge g => Sys2Proof.Machine.execOffEdge g s
  | .shortTrip ch => Sys2Proof.Machine.execShortTrip ch s
  | .lightSelTake => Sys2Proof.Machine.execLightSelTake s
  | .mapLamp tag fn channel => Sys2Proof.Machine.execMapLamp tag fn channel s
  | .setFunction tag fn f => Sys2Proof.Machine.execSetFunction tag fn f s
  | .getFunction tag fn => Sys2Proof.Machine.execGetFunction tag fn s
  | .setGenerator tag gen period duty => Sys2Proof.Machine.execSetGenerator tag gen period duty s
  | .clearChannel tag channel => Sys2Proof.Machine.execClearChannel tag channel s
  | .getLamps tag part => Sys2Proof.Machine.execGetLamps tag part s
  | .set tag item value => Sys2Proof.Machine.execSet tag item value s
  | .get tag item => Sys2Proof.Machine.execGet tag item s
  | .storeSave tag lock => Sys2Proof.Machine.execStoreSave tag lock s
  | .saveComplete => Sys2Proof.Machine.execSaveComplete s
  | .storeLoad tag => Sys2Proof.Machine.execStoreLoad tag s
  | .storeLoadEnd => Sys2Proof.Machine.execStoreLoadEnd s
  | .storeDefaults tag => Sys2Proof.Machine.execStoreDefaults tag s

end Sys2Proof.Machine
end

