-- ==== Sys2Proof/Machine/Tick.lean ====
section
/-! DEFINITION. One millisecond of the part's own timers, on an empty command queue (log 2): each running timer moves
by 1 ms, and the events of the timers that run out join the queue, in the order of the chapters. -/
namespace Sys2Proof.Machine

/-- What a timer's next millisecond brings about: the state with the timer moved, and the events that are due. -/
abbrev Due := State × List Instr

/-- The gap timer (R2): 5 ms outside HUNT. -/
def State.tickGap (s : State) : Due :=
  if s.link.rx = .hunt then (s, [])
  else
    (s.setLink { s.link with gapMs := s.link.gapMs + 1 },
      if 5 ≤ s.link.gapMs + 1 then [.gapTimerExpiry] else [])

/-- The stage timer (R31, R33): 20 ms in LOADING, 200 ms in CENTERING. -/
def State.tickStage (s : State) : Due :=
  let s1 := s.setMdc { s.mdc with stageMs := s.mdc.stageMs + 1 }
  match s.mdc.mode with
  | .loading => (s1, if 20 ≤ s.mdc.stageMs + 1 then [.loadingEnd] else [])
  | .centering => (s1, if 200 ≤ s.mdc.stageMs + 1 then [.centeringEnd] else [])
  | _ => (s, [])

/-- The silence timer (R37): SILENCE_MS in RUN. -/
def State.tickSilence (s : State) : Due :=
  if s.mdc.mode = .run then
    (s.setMdc { s.mdc with silenceMs := s.mdc.silenceMs + 1 },
      if s.ws.nat Item.silenceMs ≤ s.mdc.silenceMs + 1 then [.silenceTimerExpiry] else [])
  else (s, [])

/-- The auto-park timer (R41): AUTO_PARK_S seconds while its conditions hold, else held at 0. -/
def State.tickAutoPark (s : State) : Due :=
  if s.autoParkRuns then
    (s.setMdc { s.mdc with autoParkMs := s.mdc.autoParkMs + 1 },
      if s.ws.nat Item.autoParkS * 1000 ≤ s.mdc.autoParkMs + 1 then [.autoParkExpiry] else [])
  else (s.setMdc { s.mdc with autoParkMs := 0 }, [])

/-- The park timer (R42), counting down in PARK. -/
def State.tickPark (s : State) : Due :=
  match s.mdc.parkTimer with
  | some (n + 1) =>
    (s.setMdc { s.mdc with parkTimer := some n }, if n = 0 then [.parkTimerExpiry] else [])
  | _ => (s, [])

/-- The clutch timer (R158), counting down. -/
def State.tickClutch (s : State) : Due :=
  match s.wnc.clutchMs with
  | n + 1 => (s.setWnc { s.wnc with clutchMs := n }, if n = 0 then [.clutchTimerExpiry] else [])
  | 0 => (s, [])

/-- Whether a generator's ON or OFF edge is due after its next millisecond (R167). -/
def genEdge (g : GenId) (r : GenRec) (run : GenRun) : List Instr :=
  if r.period ≤ run.ms + 1 then [.onEdge g]
  else if run.on ∧ r.duty ≠ .full ∧ r.onTime ≤ run.ms + 1 then [.offEdge g]
  else []

/-- One generator (R167), while it runs. -/
def State.tickGen (g : GenId) (s : State) : Due :=
  let run := s.lmp.gens.get g
  if run.running then
    (s.setLmp { s.lmp with gens := s.lmp.gens.put g { run with ms := run.ms + 1 } },
      genEdge g (s.ws.gens.get g) run)
  else (s, [])

/-- The write timer (R180): 80 ms in WRITING. -/
def State.tickWrite (s : State) : Due :=
  if s.saving then
    (s.setSst { s.sst with writeMs := s.sst.writeMs + 1 },
      if 80 ≤ s.sst.writeMs + 1 then [.saveComplete] else [])
  else (s, [])

/-- A store load (R182): 20 ms while it holds the dispatcher. -/
def State.tickLoad (s : State) : Due :=
  if s.link.held then
    (s.setLink { s.link with loadMs := s.link.loadMs + 1 },
      if 20 ≤ s.link.loadMs + 1 then [.storeLoadEnd] else [])
  else (s, [])

/-- Moves one timer and adds what is due to the events gathered so far. -/
def Due.andThen (d : Due) (f : State → Due) : Due := ((f d.1).1, d.2 ++ (f d.1).2)

/-- Every timer moves by 1 ms. -/
def State.timers (s : State) : Due :=
  let d1 := ((s.tickGap.andThen State.tickStage).andThen State.tickSilence).andThen State.tickAutoPark
  let d2 := (d1.andThen State.tickPark).andThen State.tickClutch
  let d3 := ((d2.andThen (State.tickGen .pg0)).andThen (State.tickGen .pg1)).andThen (State.tickGen .pg2)
  ((d3.andThen (State.tickGen .pg3)).andThen State.tickWrite).andThen State.tickLoad

/-- One millisecond passes with no command waiting: the timers move and the events due join the queue. Without
supply nothing moves (R67). -/
def State.tick (s : State) : State :=
  if s.powered then s.timers.1.setPending (s.pending ++ s.timers.2) else s

end Sys2Proof.Machine
end

