-- ==== Sys2Proof/Safety.lean ====
section
/-! DEFINITION. What the statements are said in: the frames on their way out, the states in which requests are
served at once, and the invariants that every step keeps. -/
namespace Sys2Proof.Machine

/-! ## Frames on their way out -/

/-- The frame being sent, then the reply queue in order (R7, R11). -/
def Link.outgoing (l : Link) : List TxFrame := l.tx.toList ++ l.replies

/-- The reply to a request kind: kind plus 0x80, the same tag, the status first (R7, R185). -/
def replyFrame (kind tag : Byte) (status : Status) (rest : List Byte) : TxFrame :=
  ⟨kind + 0x80, tag, u8 status.code ++ rest⟩

/-- From `s` to `t` one frame was produced, behind every frame on its way. -/
def State.sent (s t : State) (f : TxFrame) : Prop := t.link.outgoing = s.link.outgoing ++ [f]

/-- From `s` to `t` one reply was produced; at most one notice, taken by an idle transmitter, is ahead of it
(R11). -/
def State.sentAfterNotice (s t : State) (f : TxFrame) : Prop :=
  ∃ ahead : List TxFrame,
    t.link.outgoing = s.link.outgoing ++ ahead ++ [f] ∧ ahead.length ≤ 1 ∧ ∀ n ∈ ahead, 0xC0 < n.kind.toNat

/-- A notice has been raised: it is pending, or an idle transmitter has taken it (R10, R11). -/
def State.noticed (t : State) (n : Notice) : Prop :=
  t.link.notices.get n.kind = some n ∨ n.frame ∈ t.link.outgoing

/-- From `s` to `t` a drop was counted while a frame is being sent (R12, R13): the count rises by one up to 255, and
with LINK in NOTICE_MASK the pending LINK notice carries the count and the reason. -/
def State.countsDrop (s t : State) (why : DropReason) : Prop :=
  ∀ f, s.link.tx = some f → t.link.dropCount = min 255 (s.link.dropCount + 1) ∧ t.link.tx = some f ∧
    t.link.notices.link =
      if s.ws.notices .link then some ⟨min 255 (s.link.dropCount + 1), why⟩ else s.link.notices.link

/-- `t` is `s` but for the link and for the auto-park timer, which stands at 0 while it does not run (R41). -/
def State.onlyLink (s t : State) : Prop := t = s.holdAutoPark.setLink t.link

/-! ## What a command leaves as it was -/

/-- The parts of the state that a frame tells apart. -/
inductive Part
  /-- The receiver, its gap timer and the reason of the last drop. -/
  | receiver
  /-- Waiting requests, reply slots, the load that holds the dispatcher, an accepted RESET. -/
  | queue
  /-- The transmitter, waiting replies, pending notices and the drop count. -/
  | output
  | intent
  /-- The vehicle mode. -/
  | mode
  /-- The rest of the Mode Controller's state but the auto-park timer (log 37). -/
  | timers
  | pkm | cau | stc | tse | drc | wnc | lmp
  /-- The working set. -/
  | working
  /-- The store state, the image, the snapshot and the write timer. -/
  | store
  deriving DecidableEq, Repr

/-- `t` is `s` in one part. -/
def State.sameIn (s t : State) : Part → Prop
  | .receiver => t.link.rx = s.link.rx ∧ t.link.gapMs = s.link.gapMs ∧ t.link.lastDrop = s.link.lastDrop
  | .queue => t.link.waiting = s.link.waiting ∧ t.link.slots = s.link.slots ∧ t.link.held = s.link.held ∧
      t.link.loadMs = s.link.loadMs ∧ t.link.resetting = s.link.resetting
  | .output => t.link.tx = s.link.tx ∧ t.link.replies = s.link.replies ∧ t.link.notices = s.link.notices ∧
      t.link.dropCount = s.link.dropCount
  | .intent => t.intent = s.intent
  | .mode => t.mdc.mode = s.mdc.mode
  | .timers => t.mdc = { s.mdc with mode := t.mdc.mode, autoParkMs := t.mdc.autoParkMs }
  | .pkm => t.pkm = s.pkm
  | .cau => t.cau = s.cau
  | .stc => t.stc = s.stc
  | .tse => t.tse = s.tse
  | .drc => t.drc = s.drc
  | .wnc => t.wnc = s.wnc
  | .lmp => t.lmp = s.lmp
  | .working => t.sst.working = s.sst.working
  | .store => t.sst = { s.sst with working := t.sst.working }

/-- From `s` to `t` nothing changed outside the listed parts: not the supply, the pin, the queue of commands, nor any
part that is not in the list. -/
def State.changesOnly (s t : State) (parts : List Part) : Prop :=
  t.pending = s.pending ∧ t.powered = s.powered ∧ t.storeLock = s.storeLock ∧
    ∀ p : Part, p ∉ parts → s.sameIn t p

/-- Every pending notice is of a kind in NOTICE_MASK, as after a new mask has been taken up (R10). -/
def State.noticesFollowMask (t : State) : Prop := ∀ k, t.ws.notices k = false → t.link.notices.get k = none

/-- From `s` to `t` the axles stand as they were, but for leaving RUN, which halts both (R131, R157, log 39). -/
def State.axlesFollowMode (s t : State) : Prop :=
  t.drc = if s.mdc.mode = .run ∧ t.mdc.mode ≠ .run then s.drc.halt else s.drc

/-! ## The slot (R78) -/

/-- A consumer may take the slot at the window that comes, the slot being free: it wishes, it is in its surge state, and
its quiet count, raised by this window, reaches its threshold; LAMPS never takes it. -/
def State.mayTakeSlot (s : State) (k : Consumer) : Prop :=
  let r := s.cau.records.get k
  r.wish = true ∧ s.inSurgeState k = true ∧
    match k with
    | .steer | .winch => 8 + r.lowered.toNat ≤ min 255 (r.quiet + 1)
    | .driveF | .driveR => 10 + r.lowered.toNat ≤ min 255 (r.quiet + 1)
    | .lamps => False

/-! ## Ceilings and recomputation (05, 04) -/

/-- A granted ceiling is the scaled base, and for the holder SURGE_MA more (R73). -/
def State.grantRule (s : State) (k : Consumer) : Prop :=
  (s.cau.records.get k).granted =
    (s.cau.records.get k).scaled + (if s.cau.holder = some k then s.ws.nat Item.surgeMa else 0)

/-- From `s` to `t` CAU recomputed outside its window (R75, R182), with the settings of `t` and the level as it stands:
budget, scaled bases and ceilings are those of R70 to R73. No wish, level or quiet, hold, lapse or calm count moves, and
the holder keeps the slot; at LIMIT and CUTOFF it loses it, its hold and lapse counts at 0 (R74). Before the start
sequence has ended CAU stands (R68; log 12, DEDUCED). -/
def State.recomputes (s t : State) : Prop :=
  (s.mdc.startDone = false → t.cau = s.cau) ∧
    (s.mdc.startDone = true →
      t.cau.budgetLevel = s.pkm.level ∧ t.cau.budget = budgetFor t.ws s.pkm.level ∧
      t.cau.holder = (if slotAllowed s.pkm.level then s.cau.holder else none) ∧ t.cau.calm = s.cau.calm ∧
      ∀ k,
        let old := s.cau.records.get k
        let new := t.cau.records.get k
        let loses := s.cau.holder = some k ∧ slotAllowed s.pkm.level = false
        new.scaled = (scaledBases t.ws t.cau.budget).get k ∧ t.grantRule k ∧
          new.wish = old.wish ∧ new.lowered = old.lowered ∧ new.quiet = old.quiet ∧
          (loses → new.hold = 0 ∧ new.lapse = 0) ∧ (¬loses → new.hold = old.hold ∧ new.lapse = old.lapse))

/-- From `s` to `t` PKM's counts restarted (R66): every confirm count and the recovery count are 0 and no condition is
confirmed; level, record and the rest stand. -/
def State.countsRestart (s t : State) : Prop :=
  t.pkm = { s.pkm with counts := PerCond.ofFn fun _ => 0, confirmed := PerCond.ofFn fun _ => false, recovery := 0 }

/-! ## A servo frame (06) -/

/-- At this frame the steering machine comes back to STEADY (R91): the vehicle is in READY, RUN or FAILSAFE, the machine
UNPOWERED or CENTERING. -/
def State.steeringArrives (s : State) : Prop :=
  (s.mdc.mode = .ready ∨ s.mdc.mode = .run ∨ s.mdc.mode = .failsafe) ∧
    (s.stc.machine = .unpowered ∨ s.stc.machine = .centering)

/-- A corner's state and commanded angle after step 1 of a frame in READY, RUN or FAILSAFE (R91): on arrival every
corner that is not FAILED is ACTIVE from commanded angle 0, or HELD there in mode NONE and while a load runs (R109);
else as they stand. -/
def State.frameCorner (s : State) (i : CornerId) : CornerState × Int :=
  let k := s.stc.corners.get i
  if k.state ≠ .failed ∧ (s.stc.machine = .unpowered ∨ s.stc.machine = .centering) then
    (if s.stc.mode = .none ∨ s.link.held = true then .held else .active, 0)
  else (k.state, k.commanded)

/-- What a code taken at step 4 does (tables of R102, R104 and R105; row 1 of R104 before its row 3: log 48), `inEffect`
being the mode in effect: the machine, the pending target, and whether the code is refused. -/
def codeOutcome (allowed : SteerMode → Bool) (inEffect : SteerMode) (pending : Option SteerMode) (c : SteerMode) :
    SteerMachine → SteerMachine × Option SteerMode × Bool
  | .steady =>
    if c = inEffect then (.steady, pending, false)
    else if allowed c then (.aligning, some c, false)
    else (.steady, pending, true)
  | .aligning =>
    if c = inEffect then if allowed c then (.steady, none, false) else (.aligning, pending, true)
    else if pending = some c then (.aligning, pending, false)
    else if allowed c then (.aligning, some c, false)
    else (.aligning, pending, true)
  | .settling =>
    if pending = some c then (.settling, pending, false)
    else if allowed c then (.settling, some c, false)
    else (.settling, pending, true)
  | m => (m, pending, false)

/-- The machine, the pending target and the refusal after step 4 of a frame in READY, RUN or FAILSAFE (R91, R102). -/
def State.frameMachine (s : State) : SteerMachine × Option SteerMode × Bool :=
  let begun : SteerMachine :=
    if s.stc.machine = .unpowered ∨ s.stc.machine = .centering then .steady else s.stc.machine
  match s.intent.steer.queue with
  | [] => (begun, s.stc.pending, false)
  | code :: _ => codeOutcome (modeAllowed s.stc.failedSet) s.stc.mode s.stc.pending code.mode begun

/-- An angle held within a corner's limits (R92). -/
def WorkingSet.withinLimits (w : WorkingSet) (i : CornerId) (angle : Int) : Int :=
  max (-(w.leftLimit i)) (min (w.rightLimit i) angle)

/-- An axis times "the limit" over 1000 (R92): the right limit for a positive result, the left one for a negative. -/
def WorkingSet.axisGoal (w : WorkingSet) (i : CornerId) (axis : Int) : Int :=
  w.withinLimits i ((axis * (if 0 < axis then w.rightLimit i else w.leftLimit i)).tdiv 1000)

/-- The target of a corner after step 5 of a frame in READY, RUN or FAILSAFE whose machine is then `m` (R92, R93): a
HELD corner's is its commanded angle and a FAILED one's 0; of one that is ACTIVE or in REST, 0 outside STEADY, else
the geometry's, of a rear corner from its front corner's target as that corner's record holds it (log 29), with the
axes 0 in FAILSAFE. -/
def State.frameGoal (s : State) (m : SteerMachine) (i : CornerId) : Int :=
  let steer := if s.mdc.mode = .failsafe then 0 else s.intent.axes.steer
  let aux := if s.mdc.mode = .failsafe then 0 else s.intent.axes.aux
  let ratio := s.ws.int Item.rearRatioPct
  let goal (i : CornerId) (moving : Int) : Int :=
    let k := s.frameCorner i
    if k.1 = .failed then 0 else if k.1 = .held then k.2 else if m = .steady then moving else 0
  let front (i : CornerId) : Int :=
    goal i (if s.stc.mode = .rear ∨ s.stc.mode = .none then 0 else s.ws.axisGoal i steer)
  let rear (i paired : CornerId) : Int :=
    goal i (match s.stc.mode with
      | .rear => s.ws.axisGoal i (-steer)
      | .counter => s.ws.withinLimits i ((-(front paired) * ratio).tdiv 100)
      | .crab => s.ws.withinLimits i ((front paired * ratio).tdiv 100)
      | .independent => s.ws.axisGoal i aux
      | _ => 0)
  match i with
  | .fl => front .fl
  | .fr => front .fr
  | .rl => rear .rl .fl
  | .rr => rear .rr .fr

/-- What step 6 of a frame leaves of a corner's record: its state and fault kind, commanded angle, state timer, clearing
mark, stall and open counts, and stall history. -/
structure CornerWork where
  state : CornerState
  fault : FaultKind
  commanded : Int
  timer : Nat
  clearing : Bool
  stalls : Nat
  opens : Nat
  history : List Nat

/-- A corner's record after step 6 of a frame in READY, RUN or FAILSAFE outside SEARCH. A rest and a clearing hold fall
by 10 ms and end in ACTIVE, or in HELD after a hold in mode NONE (R97, R108) and while a load runs (log 25). A corner
that is ACTIVE moves toward its target by the slew step, unless it is current-held (R94). Current-held away from its
target it raises its stall count, else that returns to 0; where it moved below 20 mA it raises its open count, where it
moved above that returns to 0 (R97, R99). At 30 it has stalled: with fewer than two stalls in the last 10 s it rests for
500 ms, else it fails with STALL (R97, R98); at 20 open frames it fails with OPEN (R99). On arrival in STEADY counts and
timers restart (R91). -/
def State.cornerWork (s : State) (r : ServoReading) (i : CornerId) : CornerWork :=
  let k := s.stc.corners.get i
  let now := s.stc.frameNo + 1
  let history := if k.state = .failed then k.history else recentStalls now k.history
  let parked := decide (k.state ≠ .failed) &&
    (decide (s.stc.machine = .unpowered) || decide (s.stc.machine = .centering))
  let begun := (s.frameCorner i).1
  let start := (s.frameCorner i).2
  let timer := if parked then 0 else k.stateTimer
  let stalls := if parked then 0 else k.stallCount
  let opens := if parked then 0 else k.openCount
  let clears := !parked && k.clearing
  let holds := decide (begun = .held) && clears
  let waits := decide (begun = .rest) || holds
  let ended := waits && decide (timer ≤ 10)
  let state := if !ended then begun
    else if s.link.held || (holds && decide (s.stc.mode = .none)) then .held else .active
  let left := if waits then timer - 10 else timer
  let clearing := clears && !ended
  if state ≠ .active then ⟨state, k.fault, start, left, clearing, stalls, opens, history⟩
  else
    let current := min 10000 (r.currents.get i)
    let goal := s.frameGoal s.frameMachine.1 i
    let grant := s.grant .steer
    let step : Nat := if grant < s.ws.nat Item.floorSteerMa then 0 else
      max 1 (min (s.ws.nat Item.steerSlew) (s.ws.nat Item.steerSlew * grant / s.ws.nat Item.baseSteerMa))
    let stopped := decide (s.ws.nat Item.cornerStallMa < current)
    let moved := if stopped then start else start + max (-(step : Int)) (min step (goal - start))
    let jammed := stopped && decide (moved ≠ goal)
    let slewed := decide (moved ≠ start)
    if jammed = true ∧ 30 ≤ stalls + 1 then
      if history.length < 2 then ⟨.rest, k.fault, moved, 500, clearing, 0, 0, history ++ [now]⟩
      else ⟨.failed, .stall, 0, 0, false, 0, 0, history ++ [now]⟩
    else if slewed = true ∧ current < 20 ∧ 20 ≤ opens + 1 then ⟨.failed, .open, 0, 0, false, 0, 0, history⟩
    else ⟨.active, k.fault, moved, left, clearing, if jammed then stalls + 1 else 0,
      if slewed then (if current < 20 then opens + 1 else 0) else opens, history⟩

/-- A corner's record is as step 6 left it. -/
def Corner.worked (b : Corner) (w : CornerWork) : Prop :=
  b.state = w.state ∧ b.fault = w.fault ∧ b.commanded = w.commanded ∧ b.stateTimer = w.timer ∧
    b.clearing = w.clearing ∧ b.stallCount = w.stalls ∧ b.openCount = w.opens ∧ b.history = w.history

/-- The corners that are FAILED after step 6. -/
def State.workFailed (s : State) (r : ServoReading) : PerCorner Bool :=
  PerCorner.ofFn fun i => decide ((s.cornerWork r i).state = .failed)

/-- The machine and the pending target after step 7 of such a frame (R101): a failure out of a mode that is no longer
allowed begins a transition to the fallback, and a pending target that is no longer allowed becomes the fallback. -/
def State.frameSettled (s : State) (r : ServoReading) : SteerMachine × Option SteerMode :=
  let failed := s.workFailed r
  let fallback := fallbackMode failed
  let m := s.frameMachine.1
  let pending := s.frameMachine.2.1
  if failed = s.stc.failedSet then (m, pending)
  else if m = .steady then
    if modeAllowed failed s.stc.mode then (m, pending) else (.aligning, some fallback)
  else (m, pending.map fun c => if modeAllowed failed c then c else fallback)

/-- Every corner that is not FAILED stands at commanded angle 0 (R103). -/
def State.straight (s : State) : Prop :=
  ∀ i, (s.stc.corners.get i).state = .failed ∨ (s.stc.corners.get i).commanded = 0

/-- From `s` to `t` a corner failed, and the machine followed (R100, R101, R103): out of a mode that is no longer
allowed STEADY begins a transition to the fallback, and a pending target that is no longer allowed becomes the
fallback; ALIGNING with every working corner straight gives way to SETTLING. -/
def State.followsFailure (s t : State) : Prop :=
  let allowed := modeAllowed t.stc.failedSet
  let fallback := fallbackMode t.stc.failedSet
  t.stc.mode = s.stc.mode ∧
    (s.ws.notices .steer = true → t.noticed (.steer ⟨.failed, s.stc.mode, t.stc.failedSet⟩)) ∧
    (s.stc.machine = .steady → allowed s.stc.mode = true →
      t.stc.machine = .steady ∧ t.stc.pending = s.stc.pending) ∧
    (s.stc.machine = .steady → allowed s.stc.mode = false →
      t.stc.pending = some fallback ∧ (t.straight → t.stc.machine = .settling) ∧
      (¬t.straight → t.stc.machine = .aligning)) ∧
    (∀ m, (s.stc.machine = .aligning ∨ s.stc.machine = .settling) → s.stc.pending = some m →
      t.stc.pending = some (if allowed m then m else fallback)) ∧
    (s.stc.machine = .aligning → t.stc.machine = .aligning ∨ t.straight ∧ t.stc.machine = .settling) ∧
    (s.stc.machine = .settling → t.stc.machine = .settling ∧ t.stc.settleMs = s.stc.settleMs)

/-! ## The trim search (07) -/

/-- The debounced centre-sense of a corner after step 2 of a frame, by double look (R110). -/
def State.frameSense (s : State) (r : ServoReading) (i : CornerId) : Bool :=
  let k := s.stc.corners.get i
  if r.senses.get i = k.prevSense then r.senses.get i else k.sense

/-- From `s` to `t` the corner `i` at the head of the search list, `rest` being the others, began its search (R116):
RUNNING and SEARCHING, in WAIT at count 0, at minus the span, with the span and step as then set. -/
def State.searchBegins (s t : State) (i : CornerId) (rest : List CornerId) : Prop :=
  let span := s.ws.int Item.searchSpan
  t.tse = { s.tse with
    list := rest, corner := some i, phase := .wait, frames := 0, span := span, step := s.ws.int Item.searchStep,
    probe := -span, results := t.tse.results } ∧
    t.tse.results.get i = { s.tse.results.get i with result := .running } ∧
    (∀ j, j ≠ i → t.tse.results.get j = s.tse.results.get j) ∧
    (t.stc.corners.get i).state = .searching ∧ (t.stc.corners.get i).commanded = -span ∧
    (t.stc.corners.get i).target = -span ∧ t.stc.machine = .search ∧ t.ws = s.ws

/-- From `s` to `t` the running corner `i` made a step (R117, R118), the last clear reading and the last-0 offset then
being as given. -/
def State.searchSteps (s t : State) (i : CornerId) (lastClear : Bool) (last0 : Int) : Prop :=
  let probe := s.tse.probe + s.tse.step
  t.tse = { s.tse with
    phase := .step, frames := 1, lastClear := lastClear, last0 := last0, probe := probe, results := t.tse.results } ∧
    t.tse.results.get i = { s.tse.results.get i with steps := (s.tse.results.get i).steps + 1 } ∧
    (∀ j, j ≠ i → t.tse.results.get j = s.tse.results.get j) ∧
    (t.stc.corners.get i).commanded = probe ∧ (t.stc.corners.get i).target = probe ∧
    t.stc.machine = .search ∧ t.ws = s.ws

/-- From `s` to `t` the running corner `i` ended its search (R119, R120): it is no longer the running one, and the other
entries and the list stand. With corners left in the list it is HELD at commanded angle 0 and the search goes on, no
other corner having moved. With the list empty the search is complete: end cause COMPLETED, a TRIM notice with the table
as it then is (R126), the machine STEADY, and every corner that is not FAILED ACTIVE from commanded angle 0, or HELD
there in mode NONE (R120), and while a load runs (log 25, DEDUCED). The probe offset stands at 0 after a corner (log 28,
DEDUCED). -/
def State.cornerEnds (s t : State) (i : CornerId) : Prop :=
  t.tse.corner = none ∧ t.tse.probe = 0 ∧ t.tse.list = s.tse.list ∧
    (∀ j, j ≠ i → t.tse.results.get j = s.tse.results.get j) ∧
    (s.tse.list ≠ [] → t.tse.running = s.tse.running ∧ t.tse.endCause = s.tse.endCause ∧
      t.stc.machine = s.stc.machine ∧ t.link = s.link ∧
      (t.stc.corners.get i).state = .held ∧ (t.stc.corners.get i).commanded = 0 ∧
      (t.stc.corners.get i).target = 0 ∧
      ∀ j, j ≠ i → (t.stc.corners.get j).state = (s.stc.corners.get j).state ∧
        (t.stc.corners.get j).commanded = (s.stc.corners.get j).commanded) ∧
    (s.tse.list = [] → t.tse.running = false ∧ t.tse.endCause = .completed ∧ t.stc.machine = .steady ∧
      (s.ws.notices .trim = true → t.noticed (.trim ⟨.completed, t.tse.results⟩)) ∧
      ∀ j, (s.stc.corners.get j).state ≠ .failed →
        (t.stc.corners.get j).state = (if s.stc.mode = .none ∨ s.link.held = true then .held else .active) ∧
        (t.stc.corners.get j).commanded = 0 ∧ (t.stc.corners.get j).target = 0)

/-- From `s` to `t` the wait of the running corner `i` reached its count, its sense reading as given (R117): 1 ends the
corner with START_HIGH and 0 steps; 0 is the first clear 0, and the first step is made. -/
def State.waitJudged (s t : State) (i : CornerId) (sense : Bool) : Prop :=
  (sense = true → t.tse.results.get i =
      { s.tse.results.get i with result := .startHigh, newTrim := none, steps := 0 } ∧
    s.cornerEnds t i ∧ t.ws = s.ws) ∧
  (sense = false → s.searchSteps t i false s.tse.probe)

/-- The step in progress, with its second sample, is the edge (R118): clear 1 after a clear 0. -/
def Tse.edge (t : Tse) (sense : Bool) : Prop := t.firstSample = true ∧ sense = true ∧ t.lastClear = false

/-- From `s` to `t` the step of the running corner `i` reached its count, its second sample as given (R118, R119): the
edge writes the found trim, old trim plus last-0 offset plus half the step, within ±200 and is OUT_OF_RANGE outside;
without an edge the corner ends with NO_EDGE where the next offset would pass the span, and else only the readings of a
clear step move. -/
def State.stepJudged (s t : State) (i : CornerId) (sense : Bool) : Prop :=
  let edge := s.tse.edge sense
  let found := (s.tse.results.get i).oldTrim + s.tse.last0 + s.tse.step / 2
  (edge → -200 ≤ found → found ≤ 200 →
    t.tse.results.get i = { s.tse.results.get i with result := .found, newTrim := some found } ∧
    t.ws.trim i = found ∧ (∀ item, item ≠ trimItem i → t.ws.int item = s.ws.int item) ∧
    t.ws = { s.ws with items := t.ws.items } ∧ s.cornerEnds t i) ∧
  (edge → found < -200 ∨ 200 < found →
    t.tse.results.get i = { s.tse.results.get i with result := .outOfRange, newTrim := none } ∧
    s.cornerEnds t i ∧ t.ws = s.ws) ∧
  (¬edge → s.tse.span < s.tse.probe + s.tse.step →
    t.tse.results.get i = { s.tse.results.get i with result := .noEdge, newTrim := none } ∧
    s.cornerEnds t i ∧ t.ws = s.ws) ∧
  (¬edge → s.tse.probe + s.tse.step ≤ s.tse.span →
    let clear := s.tse.firstSample = sense
    t.tse = { s.tse with
      frames := 4
      lastClear := if clear then sense else s.tse.lastClear
      last0 := if clear ∧ sense = false then s.tse.probe else s.tse.last0 } ∧
    t.stc.machine = .search ∧ t.ws = s.ws)

/-- From `s` to `t` a running search was aborted (R121, R122): no search runs, the list is empty, the end cause is as
given; the running corner is ABORTED and keeps its steps, each corner still in the list is ABORTED with 0 steps, ended
entries stand; a TRIM notice tells of the table (R126), and the working set stands. -/
def State.searchAborted (s t : State) (cause : EndCause) : Prop :=
  t.tse.running = false ∧ t.tse.list = [] ∧ t.tse.corner = none ∧ t.tse.endCause = cause ∧
    (∀ i, s.tse.corner = some i → t.tse.results.get i = { s.tse.results.get i with result := .aborted }) ∧
    (∀ i, s.tse.corner ≠ some i → i ∈ s.tse.list →
      t.tse.results.get i = { s.tse.results.get i with result := .aborted, steps := 0 }) ∧
    (∀ i, s.tse.corner ≠ some i → i ∉ s.tse.list → t.tse.results.get i = s.tse.results.get i) ∧
    (s.ws.notices .trim = true → t.noticed (.trim ⟨cause, t.tse.results⟩)) ∧ t.ws = s.ws

/-! ## Axles at an update (08) -/

/-- An axle that one of the first six rows of R131 holds: its state and brake strength, with ramped and effective duty,
stall timer and limit count 0, and target duty 0 (log 21). -/
def Axle.heldAs (b : Axle) (state : AxleState) (brake : Nat) : Prop :=
  b.state = state ∧ b.brake = brake ∧ b.target = 0 ∧ b.ramped = 0 ∧ b.effective = 0 ∧ b.stallMs = 0 ∧
    b.limitCount = 0

/-- A ramped duty within the caps of a transition (R136) and of a rest (R139). A TRANSITION_CAP of 0 brings it to 0
after the state has been set (log 58, the model's choice). -/
def cappedDuty (w : WorkingSet) (m : SteerMachine) (resting : Bool) (r : Int) : Int :=
  let cap : Int := w.nat Item.transitionCap
  let r1 := if m = .aligning ∨ m = .settling then max (-cap) (min cap r) else r
  if resting then max (-300) (min 300 r1) else r1

/-- What steps 5 and 6 of an update give an axle: state, brake strength and ramped duty. -/
structure AxleDrive where
  state : AxleState
  brake : Nat
  ramped : Int

/-- Under the throttle (R134, R135): the ramp toward the target; with target and ramp at 0 the drag brake, or COAST
where DRAG_BRAKE_PCT is 0; with the ramp alone at 0, at a change of direction, DRIVE or REST (log 56, the model's
choice); the ramp is judged before a cap of 0 holds it at 0 (log 58, the model's choice). -/
def throttleDrive (w : WorkingSet) (m : SteerMachine) (ramped : Int) (rest : Nat) (target : Int) : AxleDrive :=
  let r := rampStep w ramped target
  if target = 0 ∧ r = 0 then
    ⟨if w.nat Item.dragBrakePct = 0 then .coast else .brake, w.nat Item.dragBrakePct, 0⟩
  else ⟨if 0 < rest then .rest else .drive, 0, cappedDuty w m (decide (0 < rest)) r⟩

/-- Following the line (R140): 20 toward the assist target, from the present duty if positive, within 0 and the
ceiling. -/
def followDrive (w : WorkingSet) (m : SteerMachine) (ramped : Int) (ceiling rest : Nat) (speed target : Int) :
    AxleDrive :=
  let r := max 0 ramped
  let moved := if speed < target then r + 20 else if target < speed then r - 20 else r
  ⟨if 0 < rest then .rest else .drive, 0, cappedDuty w m (decide (0 < rest)) (max 0 (min ceiling moved))⟩

/-- A duty ceiling moved against a grant (R137, R153). -/
def ceilingAfter (ceiling current grant : Nat) : Nat :=
  if grant < current then max 100 (ceiling - 50)
  else if current * 10 < grant * 9 then min 1000 (ceiling + 20)
  else ceiling

/-! ## The winch at an update (09) -/

/-- The line-in switch closes at this update, by double look (R147). -/
def State.lineInCloses (s : State) (r : WinchReading) : Prop :=
  r.lineInClosed = true ∧ s.wnc.lineInPrev = true ∧ s.wnc.lineIn = false

/-- The idle state a load places a winch in (R148). -/
def idleState (w : WorkingSet) (load : Nat) : WinchState :=
  if w.nat Item.freespoolN < load then .holding else .stopped

/-- The code at the head of the WINCH_SEL queue ends the movement that runs (R149). -/
def State.codeStops (s : State) : Prop :=
  ∃ c rest, s.intent.winch.queue = c :: rest ∧
    (s.wnc.state, c) ∈ [(WinchState.reeling, WinchSel.off), (.reeling, .assist), (.assist, .off),
      (.assist, .manual), (.paying, .off)]

/-- At this update a winch movement goes on from step 5 to the axis: the line does not come home, no code ends it, the
vehicle is in RUN (R146 to R151). -/
def State.movementGoesOn (s : State) (r : WinchReading) : Prop :=
  s.mdc.mode = .run ∧ ¬s.codeStops ∧ (s.wnc.state.reels = true → ¬s.lineInCloses r)

/-- The start conditions of a reel (R151), with the line-in switch and the selection as the update leaves them. -/
def State.reelStarts (s : State) (lineIn : Bool) (selection : WinchSel) : Prop :=
  s.wnc.rearm = false ∧ lineIn = false ∧ s.drc.reversing = false ∧
    (selection = .assist → neutral s.ws s.intent.axes.throttle = true)

/-! ## What a change of the mode and a change of the level bring (03, 04) -/

/-- From `s` to `t` the winch stands as it was, but for a change of the mode to one other than RUN (R157): a movement ends
by the load last read with re-arm set; at SHUTDOWN a released or releasing clutch begins its travel of 150 ms, with a
notice FORCED_ENGAGE of that cause where WINCH is in NOTICE_MASK (R159, R161). -/
def State.winchFollowsMode (s t : State) : Prop :=
  let changes := t.mdc.mode ≠ s.mdc.mode ∧ t.mdc.mode ≠ .run
  let engages := changes ∧ t.mdc.mode = .shutdown ∧ (s.wnc.state = .clutchReleasing ∨ s.wnc.state = .freespool)
  t.wnc =
    (if changes ∧ s.wnc.state.moves = true then
      { s.wnc with state := idleState s.ws s.wnc.load, duty := 0, demand := 0, jamMs := 0, rearm := true }
    else if engages then { s.wnc with state := .clutchEngaging, clutch := .moving, clutchMs := 150 }
    else s.wnc) ∧
  (engages → s.ws.notices .winch = true →
    t.noticed (.winch ⟨.forcedEngage, some .shutdown, .clutchEngaging, .moving, s.wnc.line, s.wnc.load⟩))

/-- From `s` to `t` a change of the mode, if there was one, raised its MODE notice where MODE is in NOTICE_MASK: the two
modes and the wake record as it then stands (R29). -/
def State.modeNoticed (s t : State) : Prop :=
  t.mdc.mode ≠ s.mdc.mode → t.ws.notices .mode = true →
    t.noticed (.mode ⟨t.mdc.mode, s.mdc.mode, t.mdc.wakeSet, t.mdc.wakeFirst⟩)

/-- From `s` to `t` the other blocks did what a change of the mode asks of them, and nothing where there was none: the
axles (log 39, DEDUCED), the winch, the MODE notice. -/
def State.modeFollowed (s t : State) : Prop := s.axlesFollowMode t ∧ s.winchFollowsMode t ∧ s.modeNoticed t

/-- From `s` to `t` the level became that of `t`: at CUTOFF SST abandons a write, INVALID with no snapshot, the timer
stopped and the image's check failing, with a STORE notice ABANDONED where STORE is in NOTICE_MASK (R181, R183); else it
stands. -/
def State.storeFollowsLevel (s t : State) : Prop :=
  let abandons := t.pkm.level = .cutoff ∧ s.sst.store = .writing
  t.sst = (if abandons then
    { s.sst with store := .invalid, snapshot := none, writeMs := 0, image := t.sst.image } else s.sst) ∧
  (abandons → t.sst.image.valid = false ∧
    (s.ws.notices .store = true → t.noticed (.store ⟨.abandoned, .invalid⟩)))

/-- From `s` to `t` the level became that of `t`, and its readers acted (R63).
MDC: CUTOFF ends CENTERING, READY, RUN, FAILSAFE and PARK in SHUTDOWN (R47); in PARK another level wakes where WAKE_MASK
honours PACK, which enters the wake record there, and in the CENTERING after a wake beside the first cause (R44). A change
of the mode stops every timer; the start sequence, where it had not, ends at SHUTDOWN, with a deferred HELLO answered
(R33). Nothing else of MDC's state moves but the auto-park timer, which stands at 0 while it does not run (R41).
CAU recomputes for the new level (R74), before the end of the start sequence not at all (log 12, DEDUCED), at that end by
its first window (R69).
SST abandons a write at CUTOFF. The axles, the winch and the MODE notice follow the mode. No other part changes. -/
def State.followsLevel (s t : State) : Prop :=
  let new := t.pkm.level
  let honoured := (s.ws.nat Item.wakeMask).testBit 3 = true
  let ends := new = .cutoff ∧ (s.mdc.mode = .centering ∨ s.mdc.mode = .ready ∨ s.mdc.mode = .run ∨
    s.mdc.mode = .failsafe ∨ s.mdc.mode = .park)
  let wakes := new ≠ .cutoff ∧ s.mdc.mode = .park ∧ honoured
  let changes := ends ∨ wakes
  let recorded := honoured ∧ (s.mdc.mode = .park ∨ s.mdc.mode = .centering ∧ s.mdc.wakeCentering = true)
  t.mdc = { s.mdc with
    mode := if ends then .shutdown else if wakes then .centering else s.mdc.mode
    stageMs := if changes then 0 else s.mdc.stageMs
    silenceMs := if changes then 0 else s.mdc.silenceMs
    autoParkMs := if t.autoParkRuns then s.mdc.autoParkMs else 0
    parkTimer := if changes then none else s.mdc.parkTimer
    wakeSet := if recorded then { s.mdc.wakeSet with pack := true } else s.mdc.wakeSet
    wakeFirst := if honoured ∧ s.mdc.mode = .park then some .pack else s.mdc.wakeFirst
    wakeCentering := if changes then decide wakes else s.mdc.wakeCentering
    startDone := s.mdc.startDone || decide ends
    deferredHello := if ends ∧ s.mdc.startDone = false then none else s.mdc.deferredHello } ∧
  (ends → s.mdc.startDone = false → ∀ tag, s.mdc.deferredHello = some tag →
    replyFrame 0x01 tag .ok t.helloBody ∈ t.link.outgoing) ∧
  (s.mdc.startDone = true → (s.setPkm t.pkm).recomputes t) ∧
  (s.mdc.startDone = false → ¬ends → t.cau = s.cau) ∧
  (s.mdc.startDone = false → ends → t.cau.budgetLevel = .cutoff ∧ t.cau.budget = 0 ∧ ∀ k, t.grantRule k) ∧
  s.storeFollowsLevel t ∧ s.modeFollowed t ∧ s.changesOnly t [.output, .mode, .timers, .pkm, .cau, .drc, .wnc, .store]

/-- PACK_CHECK ends at the sample that comes (R32). -/
def State.stageEnds (s : State) : Prop :=
  s.mdc.mode = .packCheck ∧ s.ws.nat Item.confirmSamples ≤ s.mdc.packCheckCount + 1

/-- The state with the sample that comes counted in PACK_CHECK, and in any other mode as it stands (R32). -/
def State.counted (s : State) : State :=
  if s.mdc.mode = .packCheck then s.setMdc { s.mdc with packCheckCount := s.mdc.packCheckCount + 1 } else s

/-! ## A lamp check (10) -/

/-- A channel is examined at a check (R172). -/
abbrev Channel.isExamined (c : Channel) : Prop := (c.commanded = true ∧ c.output = .driving) ∨ c.tripSeen = true

/-- The finding of an examination (R172), the driver reading `mA`. -/
def Channel.found (c : Channel) (mA : Nat) : Suspect :=
  if c.tripSeen then .short
  else if (if c.output = .driving then min 3000 mA else 0) < 10 then .open
  else .none

/-- A channel that is no spare is confirmed FAILED at a check (R172): examined, with a finding equal to its suspect. -/
abbrev State.failsAt (s : State) (currents : Vector Nat 12) (ch : ChannelId) : Prop :=
  (s.lmp.channels[ch]).isExamined ∧ (s.lmp.channels[ch]).found currents[ch] ≠ .none ∧
    (s.lmp.channels[ch]).found currents[ch] = (s.lmp.channels[ch]).suspect

/-- How many channels below `ch` fail at a check with a function whose record allows a remap (R173): they take as many
spares before the function of `ch` does. -/
def State.failuresBefore (s : State) (currents : Vector Nat 12) (ch : ChannelId) : Nat :=
  (channelIds.filter fun c => decide (c < ch) && decide (s.failsAt currents c) &&
    (s.ws.carried c).any fun f => (s.ws.functions[f]).remap).length

/-- A function comes before another in the shed order (R170). -/
def WorkingSet.shedsBefore (w : WorkingSet) (g f : FunctionId) : Prop :=
  (w.functions[f]).shedClass < (w.functions[g]).shedClass ∨
    ((w.functions[f]).shedClass = (w.functions[g]).shedClass ∧ f < g)

/-! ## Functions that look for a channel (R174, R175) -/

/-- The spares under a map and a failed set, in channel order (R165). -/
def sparesOf (map : Vector (Option ChannelId) 10) (failed : Vector Bool 12) : List ChannelId :=
  channelIds.filter fun c => !failed[c] && functionIds.all fun f => decide (map[f] ≠ some c)

/-- The channel of a function among those without one (R174 step 2, R175): where its record allows a remap, the spare
whose place among the spares is the function's place, in function order, among the functions without a channel whose
records allow it; none where it does not, and where the spares have run out. -/
def spareFor (functions : Vector FuncRec 10) (homeless : FunctionId → Bool) (spares : List ChannelId)
    (f : FunctionId) : Option ChannelId :=
  if (functions[f]).remap then
    spares[(functionIds.filter fun g => homeless g && (functions[g]).remap).idxOf f]?
  else none

/-- A loaded function's channel is in a failed set. -/
def WorkingSet.homeless (w : WorkingSet) (failed : Vector Bool 12) (f : FunctionId) : Bool :=
  (w.map[f]).any fun c => failed[c]

/-- A channel stands as one that has just stopped carrying a function, or just begun to (R165): commanded off, its
output OFF and its suspect none; one that carries none has brightness 0 (R162). -/
def State.darkened (t : State) (ch : ChannelId) : Prop :=
  let c := t.lmp.channels[ch]
  c.commanded = false ∧ c.output = .off ∧ c.suspect = .none ∧ (t.ws.carried ch = none → c.brightness = 0)

/-- From `s` to `t` LMP took up a working set (R175). A function whose loaded channel is in the failed set as it then
stands takes a spare or is DARK, every other one has its loaded channel or none; a LAMP notice LOADED tells of the
former; a running generator whose record changed restarts at ON. A channel whose function changed is commanded off,
its output OFF and its suspect none (R165); another one's record stands, but that a restarted generator commands its
channels on. Nothing else of LMP's state changes. -/
def State.lampsFollow (s t : State) (loaded : WorkingSet) : Prop :=
  let homeless := loaded.homeless t.ws.failed
  (∀ f : FunctionId, t.ws.map[f] =
    if homeless f then spareFor loaded.functions homeless (sparesOf loaded.map t.ws.failed) f else loaded.map[f]) ∧
  ((∃ f : FunctionId, homeless f = true) → t.ws.notices .lamp = true →
    t.noticed (.lamp ⟨.loaded, none, none, none, t.ws.failed, t.ws.map⟩)) ∧
  (∀ g : GenId, t.lmp.gens.get g =
    if (s.lmp.gens.get g).running = true ∧ t.ws.gens.get g ≠ s.ws.gens.get g then
      { running := true, on := true, ms := 0 }
    else s.lmp.gens.get g) ∧
  (∀ ch : ChannelId,
    let relit := ∃ g : GenId, s.drivenBy g ch = true ∧ (s.lmp.gens.get g).running = true ∧
      t.ws.gens.get g ≠ s.ws.gens.get g
    (t.ws.carried ch ≠ s.ws.carried ch → t.darkened ch) ∧
    (t.ws.carried ch = s.ws.carried ch → relit →
      t.lmp.channels[ch] = { s.lmp.channels[ch] with commanded := true, output := .driving }) ∧
    (t.ws.carried ch = s.ws.carried ch → ¬relit → t.lmp.channels[ch] = s.lmp.channels[ch])) ∧
  t.lmp = { s.lmp with channels := t.lmp.channels, gens := t.lmp.gens }

/-! ## Request commands -/

/-- The frame that a request command stands for: its kind, the host's tag and the payload of its kind (12, table of
requests); none for a command that is no request, and for an UNDEFINED_REQUEST whose kind is defined or outside the
request range. -/
def requestOf : Instr → Option RawRequest
  | .undefinedRequest kind tag =>
    if isRequestKind kind && (definedLen kind).isNone then some ⟨kind, tag, []⟩ else none
  | .hello tag => some ⟨0x01, tag, []⟩
  | .reset tag => some ⟨0x02, tag, []⟩
  | .getStatus tag => some ⟨0x03, tag, []⟩
  | .resume tag => some ⟨0x04, tag, []⟩
  | .park tag => some ⟨0x05, tag, []⟩
  | .wake tag => some ⟨0x06, tag, []⟩
  | .getWake tag => some ⟨0x07, tag, []⟩
  | .getPack tag => some ⟨0x10, tag, []⟩
  | .clearCutoff tag => some ⟨0x11, tag, []⟩
  | .resetEnergy tag => some ⟨0x12, tag, []⟩
  | .getAllot tag part => some ⟨0x13, tag, [part]⟩
  | .getSteer tag part => some ⟨0x18, tag, [part]⟩
  | .clearCorner tag corner => some ⟨0x19, tag, [corner]⟩
  | .trimSearch tag corners => some ⟨0x1A, tag, [corners]⟩
  | .trimAbort tag => some ⟨0x1B, tag, []⟩
  | .getTrim tag => some ⟨0x1C, tag, []⟩
  | .getDrive tag => some ⟨0x20, tag, []⟩
  | .winchClutchFree tag => some ⟨0x24, tag, [0]⟩
  | .winchClutchEngage tag => some ⟨0x24, tag, [1]⟩
  | .getWinch tag => some ⟨0x25, tag, []⟩
  | .clearWinch tag => some ⟨0x26, tag, []⟩
  | .mapLamp tag fn channel => some ⟨0x28, tag, [fn, channel]⟩
  | .setFunction tag fn f =>
    some ⟨0x29, tag, [fn] ++ half f.nominal ++ [f.shedClass, f.generator, f.brightness, f.remap]⟩
  | .getFunction tag fn => some ⟨0x2A, tag, [fn]⟩
  | .setGenerator tag gen period duty => some ⟨0x2B, tag, [gen] ++ half period ++ [duty]⟩
  | .clearChannel tag channel => some ⟨0x2C, tag, [channel]⟩
  | .getLamps tag part => some ⟨0x2D, tag, [part]⟩
  | .set tag item value => some ⟨0x30, tag, [item] ++ word value⟩
  | .get tag item => some ⟨0x31, tag, [item]⟩
  | .storeSave tag _ => some ⟨0x32, tag, []⟩
  | .storeLoad tag => some ⟨0x33, tag, []⟩
  | .storeDefaults tag => some ⟨0x34, tag, []⟩
  | _ => none

/-- The state in which a command acts: STORE_SAVE brings the level of the STORE_LOCK input with it (log 14). -/
def State.pinned (s : State) : Instr → State
  | .storeSave _ lock => s.setStoreLock lock
  | _ => s

/-! ## States in which a request is served at once -/

/-- The part has supply, no RESET waits for its reply, the dispatcher is free, no request waits and a place is free
(R5, R6, R14). -/
structure State.Ready (s : State) : Prop where
  powered : s.powered = true
  notResetting : s.link.resetting = false
  free : s.link.held = false
  noneWaiting : s.link.waiting = []
  place : s.link.slots < 4

/-- The same, once the start sequence has ended (R34). -/
structure State.Serving (s : State) : Prop extends s.Ready where
  started : s.mdc.startDone = true

/-! ## Invariants -/

/-- A frame that holds a reply slot: a reply, below the notice kinds (R7). -/
def TxFrame.isReply (f : TxFrame) : Bool := decide (f.kind.toNat < 0xC0)

/-- The link's places (R5, R6, R9): waiting requests and held slots never number more than four; waiting requests
have request kinds; each held slot belongs to a reply on its way, or to the deferred HELLO, which START does not
hold. -/
structure State.LinkSound (s : State) : Prop where
  places : s.link.waiting.length + s.link.slots ≤ 4
  kinds : ∀ q ∈ s.link.waiting, isRequestKind q.kind = true
  owed : s.link.slots =
    (s.link.outgoing.filter TxFrame.isReply).length + (if s.mdc.deferredHello.isSome then 1 else 0)
  start : s.mdc.mode = .start → s.mdc.deferredHello = none

/-- A change queue (R22): at most two codes, never two equal ones, and the last one is the last accepted code. -/
def Switch.Sound {α : Type} (w : Switch α) : Prop :=
  match w.queue with
  | [] => True
  | [a] => w.last = some a
  | [a, b] => a ≠ b ∧ w.last = some b
  | _ => False

/-- The four change queues. -/
structure State.SwitchesSound (s : State) : Prop where
  steer : s.intent.steer.Sound
  drive : s.intent.drive.Sound
  light : s.intent.light.Sound
  winch : s.intent.winch.Sound

/-- In STEADY, ALIGNING and SETTLING a corner is ACTIVE, HELD, in REST or FAILED (R89, R91). -/
def CornerState.powered : CornerState → Bool
  | .active => true
  | .held => true
  | .rest => true
  | .failed => true
  | .unpowered => false
  | .searching => false

/-- The steering machine: SEARCH exactly while a search runs (R115, R120), the SEARCHING corner exactly the running one
(R116), no corner running or waiting outside a search (R120, R121), a pending target exactly in ALIGNING and SETTLING
(R103); in STEADY and in both of those every corner is ACTIVE, HELD, in REST or FAILED (R89, R91), and a load holds only
HELD corners (R109). -/
structure State.SteeringSound (s : State) : Prop where
  search : s.stc.machine = .search ↔ s.tse.running = true
  searching : ∀ i, (s.stc.corners.get i).state = .searching ↔ s.tse.corner = some i
  idle : s.tse.running = false → s.tse.corner = none ∧ s.tse.list = []
  pending : s.stc.pending.isSome = true ↔ s.stc.machine = .aligning ∨ s.stc.machine = .settling
  corners : s.stc.machine = .steady ∨ s.stc.machine = .aligning ∨ s.stc.machine = .settling →
    ∀ i, (s.stc.corners.get i).state.powered = true
  loadHeld : ∀ i, (s.stc.corners.get i).loadHeld = true → (s.stc.corners.get i).state = .held

/-- An axle drives, or rests from driving, and the winch moves, in RUN alone (R131, R157); the clutch is engaged except
in the three clutch states (R145). -/
structure State.WinchSound (s : State) : Prop where
  axles : ∀ i, (s.drc.axles.get i).state = .drive ∨ (s.drc.axles.get i).state = .rest → s.mdc.mode = .run
  moves : s.wnc.state.moves = true → s.mdc.mode = .run
  clutch : s.wnc.clutch = .engaged ↔
    s.wnc.state ≠ .clutchReleasing ∧ s.wnc.state ≠ .freespool ∧ s.wnc.state ≠ .clutchEngaging

/-- The allotment (R68, R73, R79): the modes before the first CENTERING belong to the start sequence; until it ends
every ceiling is 0 and the slot is free; the slot is free at LIMIT and CUTOFF; while it is held every quiet count and
the calm count are 0 (R77, R83); ceilings follow R73, the scaled bases never sum above the level budget, and at CUTOFF
every ceiling is 0. -/
structure State.AllotSound (s : State) : Prop where
  early : s.mdc.mode = .start ∨ s.mdc.mode = .loading ∨ s.mdc.mode = .packCheck → s.mdc.startDone = false
  zeroes : s.mdc.startDone = false →
    s.cau.holder = none ∧ ∀ k, (s.cau.records.get k).granted = 0 ∧ (s.cau.records.get k).scaled = 0
  slot : s.cau.holder.isSome = true → slotAllowed s.pkm.level = true
  held : s.cau.holder.isSome = true → s.cau.calm = 0 ∧ ∀ k, (s.cau.records.get k).quiet = 0
  ceilings : ∀ k, s.grantRule k
  bound : (PerConsumer.ofFn fun k => (s.cau.records.get k).scaled).sum ≤ s.cau.budget
  cutoff : s.pkm.level = .cutoff → ∀ k, (s.cau.records.get k).granted = 0

/-- A store write (R178, R180, R181): WRITING exactly while a snapshot is held, the image's check failing meanwhile, and
never before the start sequence has ended; a VALID store's image has its check matching. -/
structure State.StoreSound (s : State) : Prop where
  early : s.mdc.mode = .start ∨ s.mdc.mode = .loading ∨ s.mdc.mode = .packCheck → s.mdc.startDone = false
  snapshot : s.sst.store = .writing ↔ s.sst.snapshot.isSome = true
  image : s.sst.store = .writing → s.sst.image.valid = false
  valid : s.sst.store = .valid → s.sst.image.valid = true
  started : s.mdc.startDone = false → s.sst.store ≠ .writing

/-- A channel map (R162, R165): a failed channel carries no function, and a channel carries at most one. -/
structure WorkingSet.MapSound (w : WorkingSet) : Prop where
  failed : ∀ (f : FunctionId) (ch : ChannelId), w.map[f] = some ch → w.failed[ch] = false
  single : ∀ (f g : FunctionId) (ch : ChannelId), w.map[f] = some ch → w.map[g] = some ch → f = g

/-- The channel maps of the working set, of the image and of the snapshot. -/
structure State.LampsSound (s : State) : Prop where
  working : s.ws.MapSound
  image : s.sst.image.content.MapSound
  snapshot : ∀ w, s.sst.snapshot = some w → w.MapSound

/-- The energy counter stays within its ranges (R51). -/
structure State.EnergySound (s : State) : Prop where
  used : s.pkm.usedMah ≤ 65535
  residue : s.pkm.residue < 3600000

end Sys2Proof.Machine
end

