-- ==== Sys2Proof/WellFormed.lean ====
section
/-! DEFINITION. Which commands are well formed: the checks an operand's type does not make. -/
namespace Sys2Proof

/-- A number that an s16 field holds (12). -/
def fitsS16 (i : Int) : Bool := decide (-32768 ≤ i) && decide (i ≤ 32767)

/-- A command's operands name what its row says: UNDEFINED_REQUEST a kind of the request range that is not a
defined request (R6), an axle encoder's count a number its s16 field holds (12, axle record). The spec gives no width
for the spool encoder's counts of one update (R147): that a WINCH_UPDATE is well formed within s16 alone is the model's
choice (log 60); `exec` acts on any count (log 15). -/
def Instr.wellFormed : Instr → Bool
  | .undefinedRequest kind _ => Machine.isRequestKind kind && (Machine.definedLen kind).isNone
  | .driveUpdate r => fitsS16 r.counts.front && fitsS16 r.counts.rear
  | .winchUpdate r => fitsS16 r.counts
  | _ => true

end Sys2Proof
end

