-- ==== Sys2Proof/Certificates/Slice0/Obligations.lean ====
section
/-! DEFINITION. The statements for the provers. `Ready`, `Serving`, `sent`, `onlyLink`, `changesOnly` and the invariants
are Sys2Proof/Safety.lean's; `exec` and `step` are the machine's. -/

open Sys2Proof Sys2Proof.Machine

/-! ## The queue, the clock, supply -/

/-- One step takes the command at the front of the queue and runs it on the state with the queue's rest (the queue is
the model's own: log 1). -/
def Obligations.StepRunsTheFrontCommand : Prop :=
  ∀ (c : Instr) (rest : List Instr) (s : State),
    s.pending = c :: rest → step s = exec c (s.setPending rest)

/-- On an empty queue one millisecond passes (log 2, the model's choice): each running timer moves by 1 ms, the events
of the timers that reach their figures join the queue, in the order of the chapters, and every other part stands. The
auto-park timer stands at 0 while its conditions fail (R41); a generator's ON edge is due at the end of its period, its
OFF edge at the end of its ON time unless it is at FULL (R167). -/
def Obligations.IdleStepMovesEveryTimerByOneMillisecond : Prop :=
  ∀ s : State, s.pending = [] → s.powered = true → step s = .next
    { s with
      link := { s.link with
        gapMs := if s.link.rx = .hunt then s.link.gapMs else s.link.gapMs + 1
        loadMs := if s.link.held then s.link.loadMs + 1 else s.link.loadMs }
      mdc := { s.mdc with
        stageMs := if s.mdc.mode = .loading ∨ s.mdc.mode = .centering then s.mdc.stageMs + 1 else s.mdc.stageMs
        silenceMs := if s.mdc.mode = .run then s.mdc.silenceMs + 1 else s.mdc.silenceMs
        autoParkMs := if s.autoParkRuns then s.mdc.autoParkMs + 1 else 0
        parkTimer := s.mdc.parkTimer.map fun n => n - 1 }
      wnc := { s.wnc with clutchMs := s.wnc.clutchMs - 1 }
      lmp := { s.lmp with
        gens := PerGen.ofFn fun g =>
          let run := s.lmp.gens.get g
          if run.running then { run with ms := run.ms + 1 } else run }
      sst := { s.sst with writeMs := if s.sst.store = .writing then s.sst.writeMs + 1 else s.sst.writeMs }
      pending :=
        (if s.link.rx ≠ .hunt ∧ 5 ≤ s.link.gapMs + 1 then [.gapTimerExpiry] else []) ++
        (if s.mdc.mode = .loading ∧ 20 ≤ s.mdc.stageMs + 1 then [.loadingEnd] else []) ++
        (if s.mdc.mode = .centering ∧ 200 ≤ s.mdc.stageMs + 1 then [.centeringEnd] else []) ++
        (if s.mdc.mode = .run ∧ s.ws.nat Item.silenceMs ≤ s.mdc.silenceMs + 1 then [.silenceTimerExpiry] else []) ++
        (if s.autoParkRuns = true ∧ s.ws.nat Item.autoParkS * 1000 ≤ s.mdc.autoParkMs + 1 then [.autoParkExpiry]
          else []) ++
        (if s.mdc.parkTimer = some 1 then [.parkTimerExpiry] else []) ++
        (if s.wnc.clutchMs = 1 then [.clutchTimerExpiry] else []) ++
        (genIds.flatMap fun g =>
          let run := s.lmp.gens.get g
          let setting := s.ws.gens.get g
          if run.running = true ∧ setting.period ≤ run.ms + 1 then [Instr.onEdge g]
          else if run.running = true ∧ run.on = true ∧ setting.duty ≠ .full ∧ setting.onTime ≤ run.ms + 1 then
            [.offEdge g]
          else []) ++
        (if s.sst.store = .writing ∧ 80 ≤ s.sst.writeMs + 1 then [.saveComplete] else []) ++
        (if s.link.held = true ∧ 20 ≤ s.link.loadMs + 1 then [.storeLoadEnd] else []) }

/-- POWER_ON_RESET gives every block its values after a power-on reset and keeps the image; BROWN_OUT leaves the part
without supply, every volatile value lost and the image as it stood; without supply the part waits, and no other
command changes more than STORE_SAVE's pin level (log 8, the model's choice). -/
def Obligations.PowerOnAndBrownOut : Prop :=
  ∀ s : State,
    (∃ t, exec .powerOnReset s = .next t ∧
      t = { State.reset with
        pending := s.pending, storeLock := s.storeLock, sst := { State.reset.sst with image := s.sst.image } }) ∧
    (∃ t, exec .brownOut s = .next t ∧
      t = { State.reset with
        powered := false, pending := s.pending, storeLock := s.storeLock,
        sst := { State.reset.sst with image := s.sst.image } }) ∧
    (∀ i : Instr, s.powered = false → i ≠ .powerOnReset → i ≠ .brownOut →
      ∃ t, exec i s = .next t ∧ t.setStoreLock s.storeLock = s)

/-- What the chapters give the machine after a power-on reset (R1, R5, R12, R18, R20, R22, R28, R50, R57, R68, R88,
R113, R127, R145, R162, R167, R169, R170, R178); and the queue of commands, the model's own (log 1), is empty. -/
def Obligations.ResetHoldsTheStatedValues : Prop :=
  let s := State.reset
  s.mdc.mode = .start ∧ s.mdc.resetCause = .powerOn ∧ s.mdc.deferredHello = none ∧ s.mdc.wakeFirst = none ∧
  s.link.rx = .hunt ∧ s.link.waiting = [] ∧ s.link.slots = 0 ∧ s.link.held = false ∧ s.link.replies = [] ∧
  s.link.tx = none ∧ s.link.dropCount = 0 ∧ s.link.lastDrop = none ∧
  s.intent.axes = ⟨0, 0, 0, 0⟩ ∧ s.intent.steer.candidate = none ∧ s.intent.light.last = none ∧
  s.intent.drive.queue = [] ∧
  s.pkm.sample = none ∧ s.pkm.usedMah = 0 ∧ s.pkm.residue = 0 ∧ s.pkm.level = .normal ∧ s.pkm.recovery = 0 ∧
  s.pkm.lastCause = none ∧
  s.cau.budget = 0 ∧ s.cau.budgetLevel = .normal ∧ s.cau.holder = none ∧ s.cau.calm = 0 ∧
  (∀ k, (s.cau.records.get k).granted = 0 ∧ (s.cau.records.get k).scaled = 0) ∧
  s.stc.machine = .unpowered ∧ s.stc.mode = .front ∧ (∀ i, (s.stc.corners.get i).state = .unpowered) ∧
  s.tse.running = false ∧ s.tse.endCause = .none ∧ (∀ i, (s.tse.results.get i).result = .none) ∧
  s.drc.mode = .both ∧ (∀ i, (s.drc.axles.get i).state = .coast ∧ (s.drc.axles.get i).ceiling = 1000) ∧
  s.wnc.state = .stopped ∧ s.wnc.clutch = .engaged ∧ s.wnc.line = none ∧ s.wnc.ceiling = 1000 ∧
  s.lmp.scene = .off ∧ s.lmp.shed = [] ∧ (∀ g, (s.lmp.gens.get g).running = false) ∧
  (∀ ch : ChannelId, (s.lmp.channels[ch]).output = .off ∧ s.ws.failed[ch] = false) ∧
  s.sst.store = .invalid ∧ s.sst.snapshot = none ∧ s.pending = []

/-! ## The receiver and frames -/

/-- BYTE_RECEIVED (R1): the receiver's next state for each of its states, up to the second check byte, after which it
hunts again; a LEN above 60 drops the frame with reason LENGTH. Until a frame is whole only the link changes. -/
def Obligations.ReceiverTakesEachByteByItsState : Prop :=
  ∀ (s : State) (b : Byte), s.powered = true → s.link.resetting = false →
    ∃ t, exec (.byteReceived b) s = .next t ∧
      (s.link.rx = .hunt → t.link.rx = if b = 0xD7 then .length else .hunt) ∧
      (s.link.rx = .length → b.toNat ≤ 60 → t.link.rx = .header b none) ∧
      (s.link.rx = .length → 60 < b.toNat → t.link.rx = .hunt ∧ t.link.lastDrop = some .length) ∧
      (∀ len, s.link.rx = .header len none → t.link.rx = .header len (some b)) ∧
      (∀ len kind, s.link.rx = .header len (some kind) →
        t.link.rx = if len = 0 then .check len kind b [] none else .body len kind b []) ∧
      (∀ len kind tag p, s.link.rx = .body len kind tag p →
        t.link.rx = if len.toNat ≤ p.length + 1 then .check len kind tag (p ++ [b]) none
          else .body len kind tag (p ++ [b])) ∧
      (∀ len kind tag p, s.link.rx = .check len kind tag p none →
        t.link.rx = .check len kind tag p (some b)) ∧
      (∀ len kind tag p low, s.link.rx = .check len kind tag p (some low) → t.link.rx = .hunt) ∧
      (s.link.rx ≠ .hunt → t.link.gapMs = 0) ∧
      ((∀ len kind tag p low, s.link.rx ≠ .check len kind tag p (some low)) →
        s.changesOnly t [.receiver, .output])

/-- Drops (R2, R3 step 1, R12, R13): a whole frame whose received check differs from the computed one is dropped with
reason CRC, a frame in assembly at GAP_TIMER_EXPIRY with reason GAP; nothing but the link changes, and in HUNT, where
the gap timer is stopped, the expiry changes nothing (log 7, the model's choice). While a frame is being sent the drop
count rises by one up to 255, and with LINK in NOTICE_MASK the pending LINK notice carries the count and the reason. -/
def Obligations.DroppedFramesAreCountedAndChangeNothingElse : Prop :=
  ∀ s : State, s.powered = true →
    (∀ (len kind tag low high : Byte) (p : List Byte), s.link.resetting = false →
      s.link.rx = .check len kind tag p (some low) → crc (len :: kind :: tag :: p) ≠ joinHalf low high →
      ∃ t, exec (.byteReceived high) s = .next t ∧ t.link.lastDrop = some .crc ∧ t.link.rx = .hunt ∧
        s.onlyLink t ∧ s.changesOnly t [.receiver, .output] ∧ s.countsDrop t .crc) ∧
    (s.link.rx ≠ .hunt → ∃ t, exec .gapTimerExpiry s = .next t ∧ t.link.rx = .hunt ∧
      t.link.lastDrop = some .gap ∧ s.onlyLink t ∧ s.changesOnly t [.receiver, .output] ∧ s.countsDrop t .gap) ∧
    (s.link.rx = .hunt → ∃ t, exec .gapTimerExpiry s = .next t ∧ s.changesOnly t [])

/-- A frame that arrives byte by byte, with its check, at a receiver in HUNT acts as the judged frame does: from its
sync byte to its last check byte the link only assembles it. -/
def Obligations.FrameReceivedByteByByteIsJudgedWhole : Prop :=
  ∀ (s : State) (f : TxFrame), s.powered = true → s.link.resetting = false → s.link.rx = .hunt →
    s.link.gapMs = 0 → s.holdAutoPark = s → f.payload.length ≤ 60 →
    ∃ t, (f.wire.foldl (fun o b => match o with | .next u => exec (.byteReceived b) u | o => o)
        (Host.Outcome.next s : Host.Outcome State Fault Refusal)) = .next t ∧
      t = (s.judgeKind f.kind f.tag f.payload).holdAutoPark

/-- FRAME_SENT (R9, R11): the slot of a sent reply is released; the next frame is the oldest reply, else the pending
notice with the lowest kind code, which leaves the set while the others stay (R10), else none. The drop count restarts
at 0 when the LINK notice is taken, and stands in every other case, as the last drop reason always does (R12). After an
accepted RESET the transmitter goes on so until the RESET reply itself has been sent (R14). Only the link changes. -/
def Obligations.FrameSentReleasesSlotAndTakesNext : Prop :=
  ∀ (s : State) (f : TxFrame), s.powered = true → s.link.tx = some f →
    (s.link.resetting = true → ∀ tag, f ≠ replyFrame 0x02 tag .ok []) →
    ∃ t, exec .frameSent s = .next t ∧ s.onlyLink t ∧ s.changesOnly t [.queue, .output] ∧
      t.link.waiting = s.link.waiting ∧ t.link.held = s.link.held ∧ t.link.loadMs = s.link.loadMs ∧
      t.link.resetting = s.link.resetting ∧
      t.link.slots = (if f.kind.toNat < 0xC0 then s.link.slots - 1 else s.link.slots) ∧
      (∀ r rest, s.link.replies = r :: rest → t.link.tx = some r ∧ t.link.replies = rest ∧
        t.link.notices = s.link.notices ∧ t.link.dropCount = s.link.dropCount) ∧
      (∀ n, s.link.replies = [] → s.link.notices.lowest = some n →
        t.link.tx = some n.frame ∧ t.link.replies = [] ∧
        (∀ k, t.link.notices.get k = if k = n.kind then none else s.link.notices.get k) ∧
        t.link.dropCount = if n.kind = .link then 0 else s.link.dropCount) ∧
      (s.link.replies = [] → s.link.notices.lowest = none → t.link.tx = none ∧ t.link.replies = [] ∧
        t.link.notices = s.link.notices ∧ t.link.dropCount = s.link.dropCount)

/-- When the reply of an accepted RESET has been sent the part takes the reset (R14, R35, R60): every block's values
after a reset with cause RESET_REQUEST, the energy counter, a CUTOFF level and the image kept. -/
def Obligations.ResetIsTakenAfterItsReply : Prop :=
  ∀ (s : State) (tag : Byte), s.powered = true → s.link.resetting = true →
    s.link.tx = some (replyFrame 0x02 tag .ok []) →
    ∃ t, exec .frameSent s = .next t ∧
      t = { State.reset with
        pending := s.pending
        storeLock := s.storeLock
        mdc := { State.reset.mdc with resetCause := .resetRequest }
        pkm := { State.reset.pkm with
          usedMah := s.pkm.usedMah, residue := s.pkm.residue
          level := if s.pkm.level = .cutoff then .cutoff else .normal }
        sst := { State.reset.sst with image := s.sst.image } }

/-- Every request, whatever its kind and its payload: with four places taken it is dropped QUEUE_FULL and gets no reply
(R5, R13); with the dispatcher held and a place free it waits behind those that wait (R5, R6). STORE_SAVE brings the
level of its pin with it (log 14, the model's choice). -/
def Obligations.AdmissionCountsPlaces : Prop :=
  ∀ (s : State) (i : Instr) (q : RawRequest), s.powered = true → s.link.resetting = false → requestOf i = some q →
    (4 ≤ s.link.waiting.length + s.link.slots →
      ∃ t, exec i s = .next t ∧ t.link.lastDrop = some .queueFull ∧
        t.link.outgoing.filter TxFrame.isReply = s.link.outgoing.filter TxFrame.isReply ∧
        (s.pinned i).onlyLink t ∧ (s.pinned i).changesOnly t [.receiver, .output]) ∧
    (s.link.waiting.length + s.link.slots < 4 → s.link.held = true →
      exec i s = .next ((s.pinned i).holdAutoPark.setLink { s.link with waiting := s.link.waiting ++ [q] }))

/-! ## Requests in general -/

/-- UNDEFINED_REQUEST (R6, R185): a kind of the request range that is not defined is answered UNKNOWN with LEN 1, in
every mode. -/
def Obligations.UndefinedKindIsAnsweredUnknown : Prop :=
  ∀ (s : State) (kind tag : Byte), s.Ready → (Instr.undefinedRequest kind tag).wellFormed = true →
    ∃ t, exec (.undefinedRequest kind tag) s = .next t ∧ s.sent t ⟨kind + 0x80, tag, [5]⟩ ∧ s.onlyLink t

/-- Before the start sequence has ended every defined request but HELLO and RESET, with any well-encoded operands, is
answered NOT_STARTED with LEN 1 under its own kind and tag, and changes nothing but the link (R34, R185). STORE_SAVE
brings the level of its pin with it (log 14, the model's choice). -/
def Obligations.EarlyRequestsAreNotStarted : Prop :=
  ∀ (s : State) (i : Instr) (q : RawRequest) (r : Request), s.Ready → s.mdc.startDone = false →
    requestOf i = some q → parseRequest q.kind q.payload = some r → r.early = false →
    ∃ t, exec i s = .next t ∧ s.sent t ⟨q.kind + 0x80, q.tag, [1]⟩ ∧ (s.pinned i).onlyLink t

/-- A defined request with an encoding that its kind does not define is answered MALFORMED before every other test
(R184). -/
def Obligations.BadEncodingsAreMalformed : Prop :=
  ∀ (s : State) (tag x : Byte), s.Ready →
    (2 ≤ x.toNat → ∀ i ∈ [Instr.getAllot tag x, .getSteer tag x, .getLamps tag x],
      ∃ t f, exec i s = .next t ∧ s.sent t f ∧ f.tag = tag ∧ f.payload = [10] ∧ s.onlyLink t) ∧
    (∀ (fn : Byte) (f : FunctionFields), 5 ≤ f.generator.toNat ∨ 2 ≤ f.remap.toNat →
      ∃ t, exec (.setFunction tag fn f) s = .next t ∧ s.sent t ⟨0xA9, tag, [10]⟩ ∧ s.onlyLink t) ∧
    (∀ (gen : Byte) (period : Half), 4 ≤ x.toNat →
      ∃ t, exec (.setGenerator tag gen period x) s = .next t ∧ s.sent t ⟨0xAB, tag, [10]⟩ ∧ s.onlyLink t)

/-- The state reads, served: an OK reply with the owner's state and nothing changed but the link (R48, R65, R87, R111,
R125, R144, R160, R176). In the bodies the model's choices are the auto-park seconds of GET_STATUS, those begun not
counted (log 40), the allowed set of GET_STEER after a corner is cleared out of mode NONE (log 49), and the lit bit of
GET_FUNCTION, which follows the last lamp check (log 52). -/
def Obligations.StateReadsAnswerAndChangeNothing : Prop :=
  ∀ (s : State) (tag : Byte), s.Serving →
    (∃ t, exec (.getStatus tag) s = .next t ∧ s.sent t (replyFrame 0x03 tag .ok s.statusBody) ∧ s.onlyLink t) ∧
    (∃ t, exec (.getPack tag) s = .next t ∧ s.sent t (replyFrame 0x10 tag .ok s.packBody) ∧ s.onlyLink t) ∧
    (∃ t, exec (.getTrim tag) s = .next t ∧ s.sent t (replyFrame 0x1C tag .ok s.trimBody) ∧ s.onlyLink t) ∧
    (∃ t, exec (.getDrive tag) s = .next t ∧ s.sent t (replyFrame 0x20 tag .ok s.driveBody) ∧ s.onlyLink t) ∧
    (∃ t, exec (.getWinch tag) s = .next t ∧ s.sent t (replyFrame 0x25 tag .ok s.winchBody) ∧ s.onlyLink t) ∧
    (∀ part : Bool, ∃ t, exec (.getAllot tag (BitVec.ofNat 8 part.toNat)) s = .next t ∧
      s.sent t (replyFrame 0x13 tag .ok (s.allotBody part)) ∧ s.onlyLink t) ∧
    (∀ part : Bool, ∃ t, exec (.getSteer tag (BitVec.ofNat 8 part.toNat)) s = .next t ∧
      s.sent t (replyFrame 0x18 tag .ok (flag part ++ s.steerHead ++
        (if part then s.cornerBytes .rl ++ s.cornerBytes .rr else s.cornerBytes .fl ++ s.cornerBytes .fr))) ∧
      s.onlyLink t) ∧
    (∀ part : Bool, ∃ t, exec (.getLamps tag (BitVec.ofNat 8 part.toNat)) s = .next t ∧
      s.sent t (replyFrame 0x2D tag .ok (flag part ++ s.lampsBody part)) ∧ s.onlyLink t) ∧
    (∀ f : FunctionId, ∃ t, exec (.getFunction tag (BitVec.ofNat 8 f.val)) s = .next t ∧
      s.sent t (replyFrame 0x2A tag .ok (s.functionBody f)) ∧ s.onlyLink t) ∧
    (∀ fn : Byte, 10 ≤ fn.toNat → ∃ t, exec (.getFunction tag fn) s = .next t ∧
      s.sent t (replyFrame 0x2A tag .unknown []) ∧ s.onlyLink t)

/-- The bodies of the state reads have the lengths of the table of requests (R185), in every state. -/
def Obligations.ReplyLengthsAreTheTables : Prop :=
  ∀ s : State, s.helloBody.length = 8 ∧ s.statusBody.length = 29 ∧ s.packBody.length = 19 ∧
    (s.allotBody false).length = 48 ∧ (s.allotBody true).length = 34 ∧ s.trimBody.length = 39 ∧
    s.steerHead.length + 1 + (s.cornerBytes .fl ++ s.cornerBytes .fr).length = 58 ∧
    s.steerHead.length + 1 + (s.cornerBytes .rl ++ s.cornerBytes .rr).length = 58 ∧
    s.driveBody.length = 52 ∧ s.winchBody.length = 26 ∧ (∀ f, (s.functionBody f).length = 8) ∧
    (s.lampsBody false).length = 48 ∧ (s.lampsBody true).length = 37

/-! ## Driver intent -/

/-- CONTROL_FRAME (R15 to R18, R20, R22, R25): with any field out of range the frame is dropped MALFORMED and nothing
but the link changes; before the start sequence has ended a valid frame is ignored (R16). Accepted, the axes are those
of the frame and each switch sees its code; LMP empties the LIGHT_SEL queue in the same step, the scene ending on its
last code (R169; the same step: log 10, DEDUCED). The report (R25): in READY throttle and winch both neutral enter RUN
(R36); in RUN the silence timer restarts (R37); in FAILSAFE the resume count rises with them neutral and else returns
to 0 (R38). A non-neutral throttle ends an assist by the load last read, with re-arm set (R156). -/
def Obligations.ControlFrameIsTakenWholeOrDropped : Prop :=
  ∀ (s : State) (f : ControlFrame), s.powered = true → s.link.resetting = false →
    ((f.throttle.toInt < -1000 ∨ 1000 < f.throttle.toInt ∨ f.steer.toInt < -1000 ∨ 1000 < f.steer.toInt ∨
        f.winch.toInt < -1000 ∨ 1000 < f.winch.toInt ∨ f.aux.toInt < -1000 ∨ 1000 < f.aux.toInt ∨
        4 < f.steerSel.toNat ∨ 3 < f.driveSel.toNat ∨ 3 < f.lightSel.toNat ∨ 2 < f.winchSel.toNat) →
      ∃ t, exec (.controlFrame f) s = .next t ∧ t.link.lastDrop = some .malformed ∧ s.onlyLink t) ∧
    (∀ v : ControlValues, s.mdc.startDone = false → controlValues f = some v →
      exec (.controlFrame f) s = .next s.holdAutoPark) ∧
    (∀ v : ControlValues, s.mdc.startDone = true → s.intent.light.Sound → controlValues f = some v →
      let throttleNeutral := v.axes.throttle.natAbs ≤ s.ws.nat Item.axisDeadband
      let quiet := throttleNeutral ∧ v.axes.winch.natAbs ≤ s.ws.nat Item.axisDeadband
      ∃ t, exec (.controlFrame f) s = .next t ∧
        t.intent.axes = ⟨f.throttle.toInt, f.steer.toInt, f.winch.toInt, f.aux.toInt⟩ ∧
        t.intent.steer = s.intent.steer.see v.steer ∧ t.intent.drive = s.intent.drive.see v.drive ∧
        t.intent.winch = s.intent.winch.see v.winch ∧ t.intent.light.queue = [] ∧
        t.lmp.scene = ((s.intent.light.see v.light).queue.getLast?).getD s.lmp.scene ∧
        t.lmp.channels = s.lmp.channels ∧
        s.changesOnly t [.output, .intent, .mode, .timers, .wnc, .lmp] ∧
        t.mdc.lastNonNeutral = anyNonNeutral s.ws v.axes ∧
        (s.mdc.mode = .ready → quiet → t.mdc.mode = .run ∧ t.mdc.silenceMs = 0 ∧
          (s.ws.notices .mode = true → t.noticed (.mode ⟨.run, .ready, s.mdc.wakeSet, s.mdc.wakeFirst⟩))) ∧
        (s.mdc.mode = .ready → ¬quiet → t.mdc.mode = .ready) ∧
        (s.mdc.mode ≠ .ready → s.mdc.mode ≠ .park → t.mdc.mode = s.mdc.mode) ∧
        (s.mdc.mode = .run → t.mdc.silenceMs = 0) ∧
        (s.mdc.mode = .failsafe → quiet →
          t.mdc.resumeCount = min 255 (s.mdc.resumeCount + 1) ∧ t.mdc.notNeutral = false) ∧
        (s.mdc.mode = .failsafe → ¬quiet → t.mdc.resumeCount = 0 ∧ t.mdc.notNeutral = true) ∧
        (s.mdc.mode ≠ .park → s.wnc.state = .assist → ¬throttleNeutral →
          t.wnc = { s.wnc with
            state := idleState s.ws s.wnc.load, duty := 0, demand := 0, jamMs := 0, rearm := true }) ∧
        (s.mdc.mode ≠ .park → (s.wnc.state ≠ .assist ∨ throttleNeutral) → t.wnc = s.wnc))

/-- Switch acceptance and the change queue (R20, R22), for a switch of any codes, so for each of the four: the new
candidate is the code; a code seen twice that is not the last accepted one is accepted and offered, appended below two
codes, replacing the second of two unless it equals the first, which then stands alone. -/
def Obligations.SwitchSeesACode : Prop :=
  ∀ (α : Type) [DecidableEq α] (w : Switch α) (x : α), w.Sound →
    (w.see x).candidate = some x ∧ (w.see x).Sound ∧
    (¬(w.candidate = some x ∧ w.last ≠ some x) → (w.see x).last = w.last ∧ (w.see x).queue = w.queue) ∧
    (w.candidate = some x → w.last ≠ some x → (w.see x).last = some x ∧
      (w.queue = [] → (w.see x).queue = [x]) ∧
      (∀ a, w.queue = [a] → (w.see x).queue = [a, x]) ∧
      (∀ a b, w.queue = [a, b] → (w.see x).queue = if x = a then [a] else [a, x]))

/-! ## Vehicle modes -/

/-- HELLO in START is deferred with its slot held and no reply produced, LOADING begins and, with MODE in NOTICE_MASK, a
MODE notice is raised (R29, R10), and a moving winch ends by the load last read (R157); in LOADING, PACK_CHECK and
CENTERING it is BUSY; elsewhere it is answered at once (R30). -/
def Obligations.HelloStartsOrAnswers : Prop :=
  ∀ (s : State) (tag : Byte), s.Ready →
    (s.mdc.mode = .start → ∃ t, exec (.hello tag) s = .next t ∧ t.mdc.mode = .loading ∧
      t.mdc.deferredHello = some tag ∧ t.mdc.stageMs = 0 ∧ t.link.slots = s.link.slots + 1 ∧
      t.link.outgoing.filter TxFrame.isReply = s.link.outgoing.filter TxFrame.isReply ∧
      (s.ws.notices .mode = true → t.noticed (.mode ⟨.loading, .start, s.mdc.wakeSet, s.mdc.wakeFirst⟩)) ∧
      (s.wnc.state.moves = false → t.wnc = s.wnc) ∧ s.modeFollowed t ∧
      s.changesOnly t [.queue, .output, .mode, .timers, .wnc]) ∧
    ((s.mdc.mode = .loading ∨ s.mdc.mode = .packCheck ∨ s.mdc.mode = .centering) →
      ∃ t, exec (.hello tag) s = .next t ∧ s.sent t (replyFrame 0x01 tag .busy []) ∧ s.onlyLink t) ∧
    ((s.mdc.mode = .ready ∨ s.mdc.mode = .run ∨ s.mdc.mode = .failsafe ∨ s.mdc.mode = .park ∨
        s.mdc.mode = .shutdown) →
      ∃ t, exec (.hello tag) s = .next t ∧ s.sent t (replyFrame 0x01 tag .ok s.helloBody) ∧ s.onlyLink t)

/-- RESET is BUSY while a save is in flight; else it is answered OK, waiting requests and a deferred HELLO with its
slot are discarded, and the link takes in nothing more (R35, R14): a byte, a CONTROL frame, a request of any kind and a
frame of any undefined kind change nothing, and no drop is counted. STORE_SAVE brings the level of its pin with it (log
14, the model's choice). The requests that wait behind a RESET when the end of a load dispatches it are discarded
unserved. -/
def Obligations.ResetRequestStopsTheLink : Prop :=
  ∀ (s : State) (tag b : Byte),
    (s.Ready → s.sst.store = .writing → ∃ t, exec (.reset tag) s = .next t ∧
      s.sent t (replyFrame 0x02 tag .busy []) ∧ s.onlyLink t) ∧
    (s.Ready → s.sst.store ≠ .writing → ∃ t, exec (.reset tag) s = .next t ∧
      s.sent t (replyFrame 0x02 tag .ok []) ∧ t.link.resetting = true ∧ t.link.waiting = [] ∧
      t.mdc.deferredHello = none ∧
      t.link.slots = s.link.slots + 1 - (if s.mdc.deferredHello.isSome then 1 else 0) ∧
      s.changesOnly t [.receiver, .queue, .output, .timers] ∧
      exec (.byteReceived b) t = .next t ∧ (∀ f, exec (.controlFrame f) t = .next t) ∧
      (∀ kind other, exec (.undefinedRequest kind other) t = .next t) ∧
      (∀ i q, requestOf i = some q → exec i t = .next (t.pinned i))) ∧
    (∀ rest, s.powered = true → s.link.resetting = false → s.link.held = true →
      s.link.waiting = ⟨0x02, tag, []⟩ :: rest → s.sst.store ≠ .writing →
      ∃ t, exec .storeLoadEnd s = .next t ∧ t.link.resetting = true ∧ t.link.waiting = [] ∧ t.link.held = false ∧
        t.mdc.deferredHello = none ∧ replyFrame 0x02 tag .ok [] ∈ t.link.outgoing ∧
        (t.link.outgoing.filter TxFrame.isReply).length = (s.link.outgoing.filter TxFrame.isReply).length + 1)

/-- RESUME (R39): in FAILSAFE with two neutral frames in a row the vehicle returns to RUN, with its MODE notice where
MODE is in NOTICE_MASK (R29); winch and axles stand. The refusals carry NOT_NEUTRAL 1, NO_FRAMES 2 and WRONG_MODE 3. -/
def Obligations.ResumeNeedsTwoNeutralFrames : Prop :=
  ∀ (s : State) (tag : Byte), s.Serving →
    (s.mdc.mode = .failsafe → 2 ≤ s.mdc.resumeCount → ∃ t, exec (.resume tag) s = .next t ∧
      t.mdc.mode = .run ∧ t.mdc.silenceMs = 0 ∧ t.mdc.autoParkMs = 0 ∧
      s.sentAfterNotice t (replyFrame 0x04 tag .ok []) ∧ s.modeFollowed t ∧ t.wnc = s.wnc ∧
      s.changesOnly t [.queue, .output, .mode, .timers]) ∧
    (s.mdc.mode = .failsafe → s.mdc.resumeCount < 2 → ∃ t, exec (.resume tag) s = .next t ∧
      s.sent t (replyFrame 0x04 tag .badState [if s.mdc.notNeutral then 1 else 2]) ∧ s.onlyLink t) ∧
    (s.mdc.mode ≠ .failsafe → ∃ t, exec (.resume tag) s = .next t ∧
      s.sent t (replyFrame 0x04 tag .badState [3]) ∧ s.onlyLink t)

/-- PARK (R40, R42, R157): in READY, RUN and FAILSAFE with the five park conditions holding the vehicle parks, its park
timer set from PARK_TIMER_S and its motion count at 0, a moving winch ended by the load last read, the MODE notice
raised where MODE is in NOTICE_MASK (R29), and the axles halted where it leaves RUN (log 39, DEDUCED); the first
condition that fails gives the refusal's reason; in any other mode it is refused WRONG_MODE. -/
def Obligations.ParkNeedsItsConditions : Prop :=
  ∀ (s : State) (tag : Byte), s.Serving →
    ((s.mdc.mode = .ready ∨ s.mdc.mode = .run ∨ s.mdc.mode = .failsafe) → s.parkFailure = none →
      ∃ t, exec (.park tag) s = .next t ∧ t.mdc.mode = .park ∧ t.mdc.motionCount = 0 ∧ t.mdc.silenceMs = 0 ∧
        t.mdc.autoParkMs = 0 ∧
        t.mdc.parkTimer = (if s.ws.nat Item.parkTimerS = 0 then none else some (s.ws.nat Item.parkTimerS * 1000)) ∧
        t.mdc.wakeSet = s.mdc.wakeSet ∧ s.sentAfterNotice t (replyFrame 0x05 tag .ok []) ∧
        s.modeFollowed t ∧ s.changesOnly t [.queue, .output, .mode, .timers, .drc, .wnc]) ∧
    (∀ reason, (s.mdc.mode = .ready ∨ s.mdc.mode = .run ∨ s.mdc.mode = .failsafe) →
      s.parkFailure = some reason → ∃ t, exec (.park tag) s = .next t ∧
        s.sent t (replyFrame 0x05 tag .badState (u8 reason)) ∧ s.onlyLink t) ∧
    (s.mdc.mode ≠ .ready → s.mdc.mode ≠ .run → s.mdc.mode ≠ .failsafe →
      ∃ t, exec (.park tag) s = .next t ∧ s.sent t (replyFrame 0x05 tag .badState [3]) ∧ s.onlyLink t)

/-- Waking (R42 to R45): WAKE in PARK, and the park timer, motion, a non-neutral axis of an accepted frame (STICK) and
a change of the level (PACK) in PARK where WAKE_MASK honours them, take the vehicle to CENTERING with that first cause
in the record; a cause that is not honoured leaves it parked. In the CENTERING after a wake a further cause joins the
set, WAKE as REQUEST, and leaves the first cause and the mode. A rise to CUTOFF, from PARK or from that CENTERING,
ends in SHUTDOWN with PACK recorded where honoured (R47). At each of these changes of the mode its MODE notice is raised
where MODE is in NOTICE_MASK (R29) and the winch acts: a movement ends by the load last read, and at SHUTDOWN a released
or releasing clutch is engaged (R157, R159, R161); a frame that does not wake ends an assist, its throttle not neutral,
and leaves any other winch (R156). Elsewhere WAKE is refused WRONG_MODE. WAKE's reply is ahead
of the MODE notice of its step (log 9, DEDUCED), and LEVEL_STEP_DOWN and LEVEL_RISE act with their counts one sample
short (log 6, the model's choice). -/
def Obligations.WakeCausesEndPark : Prop :=
  ∀ (s : State) (tag : Byte),
    (s.Serving → s.mdc.mode = .park →
      ∃ t, exec (.wake tag) s = .next t ∧ t.mdc.mode = .centering ∧
      t.mdc.wakeFirst = some .request ∧ t.mdc.wakeSet = { s.mdc.wakeSet with request := true } ∧
      t.mdc.wakeCentering = true ∧ t.mdc.parkTimer = none ∧ t.mdc.stageMs = 0 ∧
      s.sent t (replyFrame 0x06 tag .ok []) ∧ s.modeFollowed t ∧
      s.changesOnly t [.queue, .output, .mode, .timers, .wnc]) ∧
    (s.Serving → s.mdc.mode = .centering → s.mdc.wakeCentering = true →
      ∃ t, exec (.wake tag) s = .next t ∧
      t.mdc.wakeSet = { s.mdc.wakeSet with request := true } ∧
      t.mdc.wakeFirst = s.mdc.wakeFirst ∧ s.sent t (replyFrame 0x06 tag .ok []) ∧
      s.changesOnly t [.queue, .output, .timers]) ∧
    (s.Serving → s.mdc.mode ≠ .park → ¬(s.mdc.mode = .centering ∧ s.mdc.wakeCentering = true) →
      ∃ t, exec (.wake tag) s = .next t ∧ s.sent t (replyFrame 0x06 tag .badState [3]) ∧ s.onlyLink t) ∧
    (∀ n, s.powered = true → s.mdc.mode = .park → s.mdc.parkTimer = some n →
      ∃ t, exec .parkTimerExpiry s = .next t ∧ t.mdc.parkTimer = none ∧
      t.mdc.mode = (if (s.ws.nat Item.wakeMask).testBit 4 then .centering else .park) ∧
      t.mdc.wakeFirst = (if (s.ws.nat Item.wakeMask).testBit 4 then some .timer else s.mdc.wakeFirst) ∧
      s.modeFollowed t ∧ s.changesOnly t [.output, .mode, .timers, .wnc]) ∧
    (s.powered = true → s.mdc.mode = .park → s.ws.nat Item.motionWakeCounts ≤ s.mdc.motionCount →
      ∃ t, exec .motionWake s = .next t ∧
      t.mdc.mode = (if (s.ws.nat Item.wakeMask).testBit 2 then .centering else .park) ∧
      t.mdc.wakeFirst = (if (s.ws.nat Item.wakeMask).testBit 2 then some .motion else s.mdc.wakeFirst) ∧
      s.modeFollowed t ∧ s.changesOnly t [.output, .mode, .timers, .wnc]) ∧
    (∀ (f : ControlFrame) (v : ControlValues), s.powered = true → s.link.resetting = false →
      s.mdc.startDone = true → s.mdc.mode = .park → controlValues f = some v →
      let wakes := anyNonNeutral s.ws v.axes = true ∧ (s.ws.nat Item.wakeMask).testBit 1 = true
      ∃ t, exec (.controlFrame f) s = .next t ∧ t.mdc.mode = (if wakes then .centering else .park) ∧
        t.mdc.wakeSet = (if wakes then { s.mdc.wakeSet with stick := true } else s.mdc.wakeSet) ∧
        t.mdc.wakeFirst = (if wakes then some .stick else s.mdc.wakeFirst) ∧
        (wakes → s.modeFollowed t) ∧
        (¬wakes → t.wnc = if s.wnc.state = .assist ∧ s.ws.nat Item.axisDeadband < v.axes.throttle.natAbs then
          { s.wnc with
            state := idleState s.ws s.wnc.load, duty := 0, demand := 0, jamMs := 0, rearm := true } else s.wnc) ∧
        s.changesOnly t [.output, .intent, .mode, .timers, .wnc, .lmp]) ∧
    (s.powered = true → s.mdc.mode = .park → (s.pkm.level = .caution ∨ s.pkm.level = .limit) →
      199 ≤ s.pkm.recovery → ∃ t, exec .levelStepDown s = .next t ∧
        t.mdc.mode = (if (s.ws.nat Item.wakeMask).testBit 3 then .centering else .park) ∧
        t.mdc.wakeSet =
          (if (s.ws.nat Item.wakeMask).testBit 3 then { s.mdc.wakeSet with pack := true } else s.mdc.wakeSet) ∧
        t.mdc.wakeFirst = (if (s.ws.nat Item.wakeMask).testBit 3 then some .pack else s.mdc.wakeFirst) ∧
        s.modeFollowed t ∧ s.changesOnly t [.output, .mode, .timers, .pkm, .cau, .wnc]) ∧
    (s.powered = true → s.mdc.mode = .centering → s.mdc.wakeCentering = true →
      (∀ (f : ControlFrame) (v : ControlValues), s.link.resetting = false → s.mdc.startDone = true →
        controlValues f = some v →
        let adds := anyNonNeutral s.ws v.axes = true ∧ (s.ws.nat Item.wakeMask).testBit 1 = true
        ∃ t, exec (.controlFrame f) s = .next t ∧
          t.mdc.wakeSet = (if adds then { s.mdc.wakeSet with stick := true } else s.mdc.wakeSet) ∧
          t.mdc.wakeFirst = s.mdc.wakeFirst ∧ s.changesOnly t [.output, .intent, .timers, .wnc, .lmp]) ∧
      ((s.pkm.level = .caution ∨ s.pkm.level = .limit) → 199 ≤ s.pkm.recovery →
        ∃ t, exec .levelStepDown s = .next t ∧
          t.mdc.wakeSet =
            (if (s.ws.nat Item.wakeMask).testBit 3 then { s.mdc.wakeSet with pack := true } else s.mdc.wakeSet) ∧
          t.mdc.wakeFirst = s.mdc.wakeFirst ∧ s.changesOnly t [.output, .timers, .pkm, .cau])) ∧
    (∀ k : Condition, s.powered = true → s.mdc.startDone = true →
      (s.mdc.mode = .park ∨ s.mdc.mode = .centering ∧ s.mdc.wakeCentering = true) →
      k ≠ .reserve → s.cau.holder = none → s.pkm.level ≠ .cutoff → (∀ j, s.pkm.confirmed.get j = false) →
      confirmFigure s.ws k ≤ s.pkm.counts.get k + 1 → s.pkm.level.code < (conditionLevel k).code →
      let honoured := (s.ws.nat Item.wakeMask).testBit 3 = true
      ∃ t, exec (.levelRise k) s = .next t ∧
        t.mdc.mode = (if conditionLevel k = .cutoff then .shutdown
          else if honoured then .centering else s.mdc.mode) ∧
        t.mdc.wakeSet = (if honoured then { s.mdc.wakeSet with pack := true } else s.mdc.wakeSet) ∧
        t.mdc.wakeFirst = (if honoured ∧ s.mdc.mode = .park then some .pack else s.mdc.wakeFirst) ∧
        s.modeFollowed t ∧ s.changesOnly t [.output, .mode, .timers, .pkm, .cau, .wnc, .store])

/-- GET_WAKE (R46) returns the set and the first cause as they stand and then empties the record. -/
def Obligations.GetWakeReturnsAndEmpties : Prop :=
  ∀ (s : State) (tag : Byte), s.Serving → ∃ t, exec (.getWake tag) s = .next t ∧
    s.sent t (replyFrame 0x07 tag .ok (u8 s.mdc.wakeSet.mask ++ orNone WakeCause.code s.mdc.wakeFirst)) ∧
    t.mdc.wakeSet = wakeEmpty ∧ t.mdc.wakeFirst = none ∧
    t.mdc = { s.mdc with wakeSet := wakeEmpty, wakeFirst := none, autoParkMs := t.mdc.autoParkMs } ∧
    s.changesOnly t [.queue, .output, .timers]

/-- The start sequence's own events (R31, R32, R33): LOADING gives way to PACK_CHECK, with the image in the working set
and the store VALID where the stored check equals the one computed over the image's content, and else with the defaults
and the store INVALID (R178; the bytes it is computed over: log 11, the model's choice). A channel whose function the
new map changes is commanded off, its output OFF and its suspect none (R165), with brightness 0 where it carries none
(R162). PACK_CHECK_END, one sample short of its count (log 6, the model's choice), gives way to SHUTDOWN at CUTOFF and
else to CENTERING; CENTERING to READY, and to SHUTDOWN at a sample that raises the level to CUTOFF. In READY and in
SHUTDOWN the start sequence has ended, and a deferred HELLO is answered naming the mode reached (R33). CAU's first
window runs as it ends (R69). At each change of the mode its MODE notice is raised where MODE is in NOTICE_MASK (R29), and
the winch acts: a movement ends by the load last read, and at SHUTDOWN a released or releasing clutch is engaged (R157,
R159, R161). -/
def Obligations.StartSequenceRuns : Prop :=
  ∀ s : State, s.powered = true →
    (s.mdc.mode = .loading → ∃ t, exec .loadingEnd s = .next t ∧ t.mdc.mode = .packCheck ∧
      t.mdc.packCheckCount = 0 ∧
      (s.sst.image.content.check = s.sst.image.check →
        t.sst.working = s.sst.image.content ∧ t.mdc.storeResult = .valid ∧ t.sst.store = .valid) ∧
      (s.sst.image.content.check ≠ s.sst.image.check →
        t.sst.working = WorkingSet.defaults ∧ t.mdc.storeResult = .defaulted ∧ t.sst.store = .invalid) ∧
      t.sst.image = s.sst.image ∧ t.lmp = { s.lmp with channels := t.lmp.channels } ∧
      (∀ ch : ChannelId, t.ws.carried ch = s.ws.carried ch → t.lmp.channels[ch] = s.lmp.channels[ch]) ∧
      (∀ ch : ChannelId, t.ws.carried ch ≠ s.ws.carried ch → t.darkened ch) ∧
      s.modeNoticed t ∧ (s.wnc.state.moves = false → t.wnc = s.wnc) ∧
      (s.wnc.state.moves = true → t.wnc = { s.wnc with
        state := idleState t.ws s.wnc.load, duty := 0, demand := 0, jamMs := 0, rearm := true }) ∧
      s.changesOnly t [.output, .mode, .timers, .wnc, .lmp, .working, .store]) ∧
    (s.mdc.mode = .packCheck → s.ws.nat Item.confirmSamples ≤ s.mdc.packCheckCount + 1 →
      ∃ t, exec .packCheckEnd s = .next t ∧
        t.mdc.mode = (if s.pkm.level = .cutoff then .shutdown else .centering) ∧
        (s.pkm.level = .cutoff → t.mdc.startDone = true ∧ (s.mdc.startDone = false → t.cau.budget = 0) ∧
          ∀ tag, s.mdc.startDone = false → s.mdc.deferredHello = some tag →
            t.mdc.deferredHello = none ∧ replyFrame 0x01 tag .ok t.helloBody ∈ t.link.outgoing) ∧
        s.modeFollowed t ∧ s.changesOnly t [.output, .mode, .timers, .wnc, .cau]) ∧
    (s.mdc.mode = .centering → ∃ t, exec .centeringEnd s = .next t ∧ t.mdc.mode = .ready ∧ t.mdc.stageMs = 0 ∧
      t.mdc.startDone = true ∧
      (s.mdc.startDone = false → t.cau.budgetLevel = s.pkm.level ∧ t.cau.budget = budgetFor s.ws s.pkm.level) ∧
      (∀ tag, s.mdc.startDone = false → s.mdc.deferredHello = some tag →
        t.mdc.deferredHello = none ∧ replyFrame 0x01 tag .ok t.helloBody ∈ t.link.outgoing) ∧
      s.modeFollowed t ∧ s.changesOnly t [.output, .mode, .timers, .wnc, .cau]) ∧
    (∀ r : PackReading, s.mdc.mode = .centering → s.pkm.level ≠ .cutoff → ∃ t, exec (.packSample r) s = .next t ∧
      (t.pkm.level ≠ .cutoff → t.mdc.mode = .centering) ∧
      (t.pkm.level = .cutoff → t.mdc.mode = .shutdown ∧ t.mdc.stageMs = 0 ∧ t.mdc.startDone = true ∧
        ∀ tag, s.mdc.startDone = false → s.mdc.deferredHello = some tag →
          t.mdc.deferredHello = none ∧ replyFrame 0x01 tag .ok t.helloBody ∈ t.link.outgoing))

/-- The timers of RUN (R37, R41, R157): silence takes the vehicle to FAILSAFE with its resume count at 0, auto-park to
PARK, each with its MODE notice where MODE is in NOTICE_MASK (R29); a moving winch ends by the load last read, with duty
and demand 0 and re-arm set. Outside RUN no axle is in DRIVE (R131, R157): both are
in BRAKE at full strength at that moment, with duties, stall timer and limit count 0, rest timer and readings as they
stood and neither flag (that moment: log 39, DEDUCED; target duty: log 21). -/
def Obligations.TimersLeaveRun : Prop :=
  ∀ s : State, s.powered = true → s.mdc.mode = .run →
    (∃ t, exec .silenceTimerExpiry s = .next t ∧ t.mdc.mode = .failsafe ∧ t.mdc.resumeCount = 0 ∧
      t.mdc.notNeutral = false ∧ t.mdc.silenceMs = 0 ∧ t.wnc.state.moves = false ∧
      (s.wnc.state.moves = true → t.wnc.duty = 0 ∧ t.wnc.demand = 0 ∧ t.wnc.jamMs = 0 ∧ t.wnc.rearm = true) ∧
      (∀ i, t.drc.axles.get i = { s.drc.axles.get i with
        state := .brake, brake := 100, target := 0, ramped := 0, effective := 0, stallMs := 0, limitCount := 0 }) ∧
      t.drc = { s.drc with axles := t.drc.axles, braking := false, reversing := false } ∧
      s.modeFollowed t ∧ s.changesOnly t [.output, .mode, .timers, .drc, .wnc]) ∧
    (s.autoParkRuns = true → ∃ t, exec .autoParkExpiry s = .next t ∧ t.mdc.mode = .park ∧
      t.mdc.autoParkMs = 0 ∧ t.mdc.motionCount = 0 ∧ s.modeFollowed t ∧
      s.changesOnly t [.output, .mode, .timers, .drc, .wnc])

/-! ## Pack monitor -/

/-- CLEAR_CUTOFF (R61, R47): at CUTOFF with every cell fit the level becomes LIMIT with cause CLEARED and its PACK
notice (R64), and SHUTDOWN gives way to CENTERING with its MODE notice where MODE is in NOTICE_MASK (R29), a moving winch
ending by the load last read (R157), CAU recomputing (R74); a low cell gives LOW_SUPPLY 1, a high one with none low LOW_SUPPLY 2;
at any other level BAD_STATE. Every cell of the record is judged, whatever CELL_COUNT has become since (log 44, the
model's choice), and the confirm counts and marks stand as they were (log 45, the model's choice). -/
def Obligations.ClearCutoffJudgesTheCells : Prop :=
  ∀ (s : State) (tag : Byte) (r : Sample), s.Serving → s.pkm.sample = some r →
    (s.pkm.level ≠ .cutoff → ∃ t, exec (.clearCutoff tag) s = .next t ∧
      s.sent t (replyFrame 0x11 tag .badState []) ∧ s.onlyLink t) ∧
    (s.pkm.level = .cutoff → (∃ c ∈ r.cells, c < s.ws.int Item.cellLimitMv + 50) →
      ∃ t, exec (.clearCutoff tag) s = .next t ∧ s.sent t (replyFrame 0x11 tag .lowSupply [1]) ∧ s.onlyLink t) ∧
    (s.pkm.level = .cutoff → (∀ c ∈ r.cells, s.ws.int Item.cellLimitMv + 50 ≤ c) →
      (∃ c ∈ r.cells, s.ws.int Item.cellOverMv < c) →
      ∃ t, exec (.clearCutoff tag) s = .next t ∧ s.sent t (replyFrame 0x11 tag .lowSupply [2]) ∧ s.onlyLink t) ∧
    (s.pkm.level = .cutoff → s.mdc.mode = .shutdown →
      (∀ c ∈ r.cells, s.ws.int Item.cellLimitMv + 50 ≤ c ∧ c ≤ s.ws.int Item.cellOverMv) →
      ∃ t, exec (.clearCutoff tag) s = .next t ∧
        t.pkm = { s.pkm with level := .limit, recovery := 0, lastCause := some .cleared } ∧
        t.mdc.mode = .centering ∧ replyFrame 0x11 tag .ok [] ∈ t.link.outgoing ∧ t.cau.budgetLevel = .limit ∧
        (s.ws.notices .pack = true → t.noticed (.pack ⟨.cutoff, .limit, .cleared, s.pkm.usedMah⟩)) ∧
        (s.setPkm t.pkm).recomputes t ∧ s.modeFollowed t ∧
        s.changesOnly t [.queue, .output, .mode, .timers, .pkm, .cau, .wnc])

/-- RESET_ENERGY (R52): used mAh and the residue become 0, the reply is OK with no further fields, and the level is not
lowered. -/
def Obligations.ResetEnergyZeroesTheCounter : Prop :=
  ∀ (s : State) (tag : Byte), s.Serving → ∃ t, exec (.resetEnergy tag) s = .next t ∧
    t.pkm = { s.pkm with usedMah := 0, residue := 0 } ∧ s.sent t (replyFrame 0x12 tag .ok []) ∧
    s.changesOnly t [.queue, .output, .pkm]

/-- PACK_SAMPLE (R49 to R51, R53 to R56): in START and LOADING nothing is taken; elsewhere the record is replaced by
the readings within their ranges, and the energy counter takes the clamped current times the period, one mAh for each
3,600,000 mA·ms, while used mAh stays below 65,535. A condition's confirm count rises by one up to 50 where it is
present and else returns to 0, and it is confirmed where it is present at its figure; RESERVE is confirmed where it is
present; OVERCURRENT is not tested at CUTOFF (the level the sample finds: log 41, the model's choice); UV_CAUTION and
UV_LIMIT keep count and mark while the slot is held (log 43, the model's choice). In PACK_CHECK the sample is counted,
and at CONFIRM_SAMPLES the stage ends, in SHUTDOWN at CUTOFF and else in CENTERING (R32, R49 step 5); at SHUTDOWN the
start sequence has ended, CAU's first window has run (R69; until then CAU stands: log 12, DEDUCED) and a deferred HELLO is
answered (R33), and the Settings Store follows a change of the level (R181, R183). Where the stage does not end at this sample and the level is unchanged, no
other part than PKM changes: mode, timers, CAU, winch, axles and store stand, the auto-park timer at 0 while it does not
run (R41; log 37). What a change of the level brings is the statement on R57 to R59. Where the mode changes its MODE notice is
raised where MODE is in NOTICE_MASK (R29), the winch acts (R157, R159, R161), and where a sample ends RUN the axles are
halted (log 39, DEDUCED). -/
def Obligations.PackSampleRecordsAndCountsEnergy : Prop :=
  ∀ (s : State) (r : PackReading), s.powered = true → ∃ t, exec (.packSample r) s = .next t ∧
    (s.mdc.mode = .start ∨ s.mdc.mode = .loading → s.changesOnly t []) ∧
    (s.mdc.mode ≠ .start → s.mdc.mode ≠ .loading →
      t.pkm.sample = some
        { cells := ([r.cell1, r.cell2, r.cell3, r.cell4].take (s.ws.nat Item.cellCount)).map
            (fun c => max 0 (min 5000 c))
          current := max 0 (min 80000 r.current)
          temperature := max (-40) (min 125 r.temperature) } ∧
      (t.pkm.usedMah < 65535 → s.pkm.usedMah < 65535 →
        t.pkm.usedMah * 3600000 + t.pkm.residue = s.pkm.usedMah * 3600000 + s.pkm.residue +
          (max 0 (min 80000 r.current)).toNat * (if s.mdc.mode = .park then 100 else 5)) ∧
      t.pkm.sagExempt = s.cau.holder.isSome ∧
      (∀ k : Condition,
        let present := conditionPresent s.ws s.cau t.pkm.usedMah (sampleOf s.ws r) k
        if (k = .uvCaution ∨ k = .uvLimit) ∧ s.cau.holder.isSome = true then
          t.pkm.counts.get k = s.pkm.counts.get k ∧ t.pkm.confirmed.get k = s.pkm.confirmed.get k
        else if k = .reserve then t.pkm.counts.get k = 0 ∧ t.pkm.confirmed.get k = present
        else if k = .overcurrent ∧ s.pkm.level = .cutoff then
          t.pkm.counts.get k = 0 ∧ t.pkm.confirmed.get k = false
        else
          t.pkm.counts.get k = (if present then min 50 (s.pkm.counts.get k + 1) else 0) ∧
          t.pkm.confirmed.get k = (present && decide (confirmFigure s.ws k ≤ t.pkm.counts.get k)))) ∧
    (s.mdc.mode = .packCheck →
      let n := s.mdc.packCheckCount + 1
      t.mdc.packCheckCount = n ∧
      t.mdc.mode = (if n < s.ws.nat Item.confirmSamples then .packCheck
        else if t.pkm.level = .cutoff then .shutdown else .centering)) ∧
    (s.mdc.mode ≠ .packCheck → t.mdc.packCheckCount = s.mdc.packCheckCount) ∧
    (sampling s.mdc.mode = true → ¬s.stageEnds → t.pkm.level = s.pkm.level →
      t.mdc = { s.counted.mdc with autoParkMs := if s.autoParkRuns then s.mdc.autoParkMs else 0 } ∧
      s.counted.changesOnly t [.pkm]) ∧
    (s.stageEnds →
      (t.pkm.level = s.pkm.level → t.sst = s.sst) ∧ (t.pkm.level ≠ s.pkm.level → s.storeFollowsLevel t) ∧
      (t.pkm.level ≠ .cutoff → s.mdc.startDone = false → t.cau = s.cau) ∧
      (t.pkm.level = .cutoff → t.mdc.startDone = true ∧
        (s.mdc.startDone = false → t.cau.budgetLevel = .cutoff ∧ t.cau.budget = 0) ∧
        ∀ tag, s.mdc.startDone = false → s.mdc.deferredHello = some tag →
          t.mdc.deferredHello = none ∧ replyFrame 0x01 tag .ok t.helloBody ∈ t.link.outgoing)) ∧
    s.modeFollowed t ∧ s.changesOnly t [.output, .mode, .timers, .pkm, .cau, .drc, .wnc, .store]

/-- PACK_SAMPLE's own rise and fall (R57 to R59): the level rises at once to the highest level a confirmed condition
holds, by the lowest code among those that hold it; not rising, it falls one step at CAUTION and LIMIT at the 200th
sample in a row at which no condition that holds it is present for recovery. LEVEL_RISE (R57, R63): a count one sample
short of its figure (log 6, the model's choice), with the level below the one its condition holds and no other
condition confirmed: the level rises to it at once, the recovery count is 0 and the cause is the condition.
LEVEL_STEP_DOWN (R59): with 199 clear samples counted (log 6) the level falls one step with cause RECOVERED. With PACK
in NOTICE_MASK each change raises a PACK notice of the two levels, the cause and the used mAh (R64). What each of the
three changes of the level brings (for a sample, where it does not end PACK_CHECK as well): CUTOFF takes CENTERING,
READY, RUN, FAILSAFE and PARK to SHUTDOWN, and no other mode changes at it (R47); another level wakes PARK where WAKE_MASK
honours PACK, with the wake record entered (R44); a change of the mode raises its MODE notice where MODE is in
NOTICE_MASK (R29); CAU recomputes (R74), before the start sequence has ended not at all (log 12, DEDUCED), and where it
ends at SHUTDOWN runs its first window (R69), with a deferred HELLO answered (R33); a moving winch ends by the load last
read, with re-arm set, and at SHUTDOWN CLUTCH_RELEASING and FREESPOOL give way to CLUTCH_ENGAGING with a WINCH notice
FORCED_ENGAGE of cause SHUTDOWN where WINCH is in NOTICE_MASK (R157, R159, R161); at CUTOFF a write is abandoned with a
STORE notice ABANDONED where STORE is in NOTICE_MASK (R181, R183), the image failing its check (log 11, the model's
choice); the auto-park timer stands at 0 while it does not run (R41; log 37); no other part changes. Where a rise ends
RUN the axles are halted (log 39, DEDUCED). -/
def Obligations.LevelRisesAtOnceAndFallsOneStep : Prop :=
  ∀ (s : State) (k : Condition), s.powered = true → sampling s.mdc.mode = true →
    (∀ r : PackReading, ∃ t, exec (.packSample r) s = .next t ∧
      let high := highestLevel t.pkm.confirmed
      let held := ∃ j, conditionLevel j = s.pkm.level ∧
        presentForRecovery s.ws s.cau t.pkm.usedMah (sampleOf s.ws r) j = true
      (s.pkm.level.code < high.code → t.pkm.level = high ∧ t.pkm.recovery = 0 ∧
        ∃ j, t.pkm.lastCause = some (.condition j) ∧ t.pkm.confirmed.get j = true ∧ conditionLevel j = high ∧
          ∀ i, t.pkm.confirmed.get i = true → conditionLevel i = high → conditionCode j ≤ conditionCode i) ∧
      (t.pkm.level ≠ s.pkm.level → s.ws.notices .pack = true → ∃ why, t.pkm.lastCause = some why ∧
        t.noticed (.pack ⟨s.pkm.level, t.pkm.level, why, t.pkm.usedMah⟩)) ∧
      (t.pkm.level ≠ s.pkm.level → ¬s.stageEnds → s.counted.followsLevel t) ∧
      (high.code ≤ s.pkm.level.code →
        ((s.pkm.level = .normal ∨ s.pkm.level = .cutoff ∨ held) → t.pkm.level = s.pkm.level ∧
          t.pkm.recovery = 0 ∧ t.pkm.lastCause = s.pkm.lastCause) ∧
        ((s.pkm.level = .caution ∨ s.pkm.level = .limit) → ¬held → s.pkm.recovery < 199 →
          t.pkm.level = s.pkm.level ∧ t.pkm.recovery = s.pkm.recovery + 1 ∧ t.pkm.lastCause = s.pkm.lastCause) ∧
        ((s.pkm.level = .caution ∨ s.pkm.level = .limit) → ¬held → 199 ≤ s.pkm.recovery →
          t.pkm.level = (if s.pkm.level = .limit then .caution else .normal) ∧ t.pkm.recovery = 0 ∧
          t.pkm.lastCause = some .recovered))) ∧
    (k ≠ .reserve → s.cau.holder = none → s.pkm.level ≠ .cutoff →
      (∀ j, s.pkm.confirmed.get j = false) → confirmFigure s.ws k ≤ s.pkm.counts.get k + 1 →
      s.pkm.level.code < (conditionLevel k).code →
      ∃ t, exec (.levelRise k) s = .next t ∧ t.pkm.level = conditionLevel k ∧ t.pkm.recovery = 0 ∧
        t.pkm.lastCause = some (.condition k) ∧ t.pkm.usedMah = s.pkm.usedMah ∧ t.pkm.sample = s.pkm.sample ∧
        (s.ws.notices .pack = true →
          t.noticed (.pack ⟨s.pkm.level, conditionLevel k, .condition k, s.pkm.usedMah⟩)) ∧
        (s.mdc.startDone = true → t.cau.budget = budgetFor s.ws (conditionLevel k)) ∧
        (conditionLevel k = .cutoff → s.mdc.mode = .run → t.mdc.mode = .shutdown) ∧
        (conditionLevel k = .cutoff → s.sst.store = .writing → t.sst.store = .invalid ∧ t.sst.snapshot = none) ∧
        s.followsLevel t) ∧
    ((s.pkm.level = .caution ∨ s.pkm.level = .limit) → 199 ≤ s.pkm.recovery →
      ∃ t, exec .levelStepDown s = .next t ∧
        t.pkm = { s.pkm with
          level := if s.pkm.level = .limit then .caution else .normal, recovery := 0
          lastCause := some .recovered } ∧
        (s.ws.notices .pack = true →
          t.noticed (.pack ⟨s.pkm.level, t.pkm.level, .recovered, s.pkm.usedMah⟩)) ∧
        s.followsLevel t ∧ s.changesOnly t [.output, .timers, .pkm, .cau, .mode, .wnc])

/-! ## Current allotment -/

/-- The level budget (R70), as every window computes it: BUDGET_MA at NORMAL, its CAUTION_PCT or LIMIT_PCT share
rounded down at CAUTION and LIMIT, 0 at CUTOFF; CAU keeps it with the level it was computed for. The window scales the
bases of the working set to that budget (R71, R72) and writes the ceilings (R73). -/
def Obligations.WindowComputesTheLevelBudget : Prop :=
  ∀ s : State, s.powered = true → s.mdc.startDone = true → ∃ t, exec .allotmentWindow s = .next t ∧
    t.cau.budgetLevel = s.pkm.level ∧
    (s.pkm.level = .normal → t.cau.budget = s.ws.nat Item.budgetMa) ∧
    (s.pkm.level = .caution → t.cau.budget = s.ws.nat Item.budgetMa * s.ws.nat Item.cautionPct / 100) ∧
    (s.pkm.level = .limit → t.cau.budget = s.ws.nat Item.budgetMa * s.ws.nat Item.limitPct / 100) ∧
    (s.pkm.level = .cutoff → t.cau.budget = 0) ∧
    (∀ k, (t.cau.records.get k).scaled = (scaledBases s.ws t.cau.budget).get k) ∧
    (∀ k, t.grantRule k) ∧ s.changesOnly t [.cau]

/-- The scaled bases (R71, R72) sum to the smaller of the budget and the sum of the bases, and none exceeds its base;
when the budget is not below the sum of the floors, none stands below its floor. `scaledBases`, which an
ALLOTMENT_WINDOW writes, is this of the working set's bases and floors. -/
def Obligations.ScaledBasesSumToTheBudget : Prop :=
  (∀ (b : Nat) (base floor : PerConsumer Nat), (∀ k, floor.get k ≤ base.get k) →
    (scaleBases b base floor).sum = min b base.sum ∧
    (∀ k, (scaleBases b base floor).get k ≤ base.get k) ∧
    (floor.sum ≤ b → ∀ k, floor.get k ≤ (scaleBases b base floor).get k)) ∧
  (∀ (w : WorkingSet) (b : Nat),
    scaledBases w b = scaleBases b (PerConsumer.ofFn w.base) (PerConsumer.ofFn w.floor))

/-- The surge slot at a window (R77 to R83). With the slot free, in RUN at NORMAL or CAUTION, the lowest-numbered
eligible consumer takes it, its counts 0 and its ceiling SURGE_MA above its scaled base. A holder in its surge state
in RUN keeps it, its hold count raised and its lapse count raised or 0 by its wish; at SURGE_HOLD, or at a second
window without its wish, it gives the slot up and is LOWERED; out of its surge state or out of RUN it is released,
forced, and is not LOWERED by it. The quiet counts rise while the slot is free and are 0 while it is held; the calm
count rises at a window that leaves it free with no wish, and at 2 every LOWERED consumer returns to NORMAL. (That
quiet counts and calm count are 0 while the slot is held is AllotSound's.) SURGE_HOLD_COMPLETED, SURGE_LAPSED and
CALM_RETURN do the same, each one window short of its count (log 6, the model's choice). -/
def Obligations.SurgeSlotIsTakenHeldAndGivenUp : Prop :=
  ∀ (s : State) (h : Consumer), s.powered = true → s.mdc.startDone = true →
    (s.mdc.mode = .run → s.cau.holder = none → (s.pkm.level = .normal ∨ s.pkm.level = .caution) →
      s.mayTakeSlot h → (∀ k : Consumer, k.code < h.code → ¬s.mayTakeSlot k) →
      ∃ t, exec .allotmentWindow s = .next t ∧ t.cau.holder = some h ∧ (t.cau.records.get h).hold = 0 ∧
        (t.cau.records.get h).lapse = 0 ∧ (∀ k, (t.cau.records.get k).quiet = 0) ∧ t.cau.calm = 0 ∧
        (t.cau.records.get h).granted = (t.cau.records.get h).scaled + s.ws.nat Item.surgeMa ∧
        s.changesOnly t [.cau]) ∧
    (∃ t, exec .allotmentWindow s = .next t ∧
      (t.cau.holder = none → (∀ k, (s.cau.records.get k).wish = false) → t.cau.calm = min 2 (s.cau.calm + 1)) ∧
      ((t.cau.holder ≠ none ∨ ∃ k, (s.cau.records.get k).wish = true) → t.cau.calm = 0) ∧
      ∀ k,
        let a := s.cau.records.get k
        let b := t.cau.records.get k
        b.wish = a.wish ∧ b.quiet = (if t.cau.holder = none then min 255 (a.quiet + 1) else 0) ∧
        (t.cau.calm = 2 → b.lowered = false) ∧
        (t.cau.calm ≠ 2 → s.cau.holder ≠ some k → b.lowered = a.lowered)) ∧
    (s.cau.holder = some h →
      let r := s.cau.records.get h
      let completed := s.ws.nat Item.surgeHold ≤ r.hold + 1
      let lapsed := r.wish = false ∧ 1 ≤ r.lapse
      let forced := s.mdc.mode ≠ .run ∨ s.inSurgeState h = false
      (¬completed → ¬lapsed → ¬forced → ∃ t, exec .allotmentWindow s = .next t ∧ t.cau.holder = some h ∧
        (t.cau.records.get h).hold = r.hold + 1 ∧ (t.cau.records.get h).lapse = (if r.wish then 0 else 1) ∧
        (t.cau.records.get h).granted = (t.cau.records.get h).scaled + s.ws.nat Item.surgeMa ∧
        (∀ k, (t.cau.records.get k).lowered = (s.cau.records.get k).lowered) ∧ s.changesOnly t [.cau]) ∧
      (s.cau.calm = 0 → (∀ k, (s.cau.records.get k).quiet = 0) → (completed ∨ lapsed ∨ forced) →
        ∃ t, exec .allotmentWindow s = .next t ∧ t.cau.holder = none ∧
          (t.cau.records.get h).hold = 0 ∧ (t.cau.records.get h).lapse = 0 ∧
          ((t.cau.records.get h).lowered = true ↔ r.lowered = true ∨ completed ∨ lapsed) ∧
          (t.cau.records.get h).granted = (t.cau.records.get h).scaled ∧ s.changesOnly t [.cau])) ∧
    (s.cau.holder = some h → s.ws.nat Item.surgeHold ≤ (s.cau.records.get h).hold + 1 →
      ∃ t, exec .surgeHoldCompleted s = .next t ∧ t.cau.holder = none ∧
        (t.cau.records.get h).lowered = true ∧ (t.cau.records.get h).hold = 0 ∧
        (t.cau.records.get h).lapse = 0 ∧ (t.cau.records.get h).granted = (s.cau.records.get h).scaled ∧
        s.changesOnly t [.cau]) ∧
    (s.cau.holder = some h → (s.cau.records.get h).wish = false → (s.cau.records.get h).lapse = 1 →
      ∃ t, exec .surgeLapsed s = .next t ∧ t.cau.holder = none ∧ (t.cau.records.get h).lowered = true ∧
        (t.cau.records.get h).hold = 0 ∧ (t.cau.records.get h).lapse = 0 ∧ s.changesOnly t [.cau]) ∧
    (s.cau.holder = none → (∀ k, (s.cau.records.get k).wish = false) → s.cau.calm = 1 →
      ∃ t, exec .calmReturn s = .next t ∧ t.cau.calm = 2 ∧ (∀ k, (t.cau.records.get k).lowered = false) ∧
        t.cau.holder = none ∧ s.changesOnly t [.cau])

/-! ## Steering -/

/-- SERVO_FRAME (R89 to R96, R110). The frame is counted, each corner's current is read within its range (log 15,
DEDUCED) and its centre-sense switch taken by double look. The machine follows the vehicle mode: UNPOWERED, CENTERING
with every corner that is not FAILED HELD at 0, or, from either of them, STEADY, every corner that is not FAILED ACTIVE
from commanded angle 0, or HELD there in mode NONE (R91) and while a store load runs (R109 read for a corner that would
become ACTIVE: log 25, DEDUCED, the model's choice). In READY, RUN and FAILSAFE, outside SEARCH, the code at the head of
the STEER_SEL queue is taken as R102, R104 and R105 give (where rows 1 and 3 of R104 both apply, row 1: log 48, the
model's choice); every corner that is ACTIVE or in REST has the geometry's target in STEADY and 0 in ALIGNING and
SETTLING (at the frame of a forced transition too), a HELD one its commanded angle, a FAILED one 0; a rear target is
taken from its front corner's target as the record holds it (log 29, DEDUCED). A corner that is ACTIVE at the frame's
end has moved toward its target by the slew step, or by the rest of the way, from where it stood, unless it is
current-held; one in REST stands. The step follows the steering grant and is 0 while STARVED. The surge wish is R96's, a
corner counting whose target lay at step 5 further off than the step of the scaled base (log 31, DEDUCED). Each corner
that is neither UNPOWERED nor FAILED is pulsed at 1,500 µs plus trim plus commanded angle. That a FAILED corner stays so
outside SEARCH, and the codes, targets and angles in READY, RUN and FAILSAFE, are said of the states in which the
steering is sound, an invariant that every step keeps. -/
def Obligations.ServoFrameSlewsAndPulses : Prop :=
  ∀ (s : State) (r : ServoReading), s.powered = true → ∃ t, exec (.servoFrame r) s = .next t ∧
    t.stc.frameNo = s.stc.frameNo + 1 ∧
    t.stc.starved = decide (s.grant .steer < s.ws.nat Item.floorSteerMa) ∧
    t.stc.slewStep = (if t.stc.starved then 0 else
      max 1 (min (s.ws.nat Item.steerSlew)
        (s.ws.nat Item.steerSlew * s.grant .steer / s.ws.nat Item.baseSteerMa))) ∧
    (∀ i,
      let a := s.stc.corners.get i
      let b := t.stc.corners.get i
      b.current = min 10000 (r.currents.get i) ∧ b.prevSense = r.senses.get i ∧
      b.sense = (if r.senses.get i = a.prevSense then r.senses.get i else a.sense) ∧
      b.pulse = (if b.state = .unpowered ∨ b.state = .failed then none
        else some (1500 + t.ws.trim i + b.commanded)) ∧
      (b.state = .held → b.target = b.commanded) ∧ (b.state = .failed → b.target = 0) ∧
      (s.SteeringSound → s.stc.machine ≠ .search → a.state = .failed → b.state = .failed)) ∧
    (s.mdc.mode ≠ .centering → s.mdc.mode ≠ .ready → s.mdc.mode ≠ .run → s.mdc.mode ≠ .failsafe →
      t.stc.machine = .unpowered ∧ t.intent = s.intent ∧ ∀ i, (s.stc.corners.get i).state ≠ .failed →
        (t.stc.corners.get i).state = .unpowered ∧ (t.stc.corners.get i).stateTimer = 0 ∧
        (s.tse.running = false → (t.stc.corners.get i).commanded = (s.stc.corners.get i).commanded)) ∧
    (s.mdc.mode = .centering →
      t.stc.machine = .centering ∧ t.intent = s.intent ∧ ∀ i, (s.stc.corners.get i).state ≠ .failed →
        let b := t.stc.corners.get i
        b.state = .held ∧ b.target = 0 ∧ b.commanded = 0 ∧ b.stateTimer = 0 ∧ b.stallCount = 0 ∧
        b.openCount = 0 ∧ b.clearing = false) ∧
    (s.stc.machine = .search → s.tse.running = true → (s.mdc.mode = .ready ∨ s.mdc.mode = .run) →
      t.intent = s.intent) ∧
    (s.SteeringSound → (s.mdc.mode = .ready ∨ s.mdc.mode = .run ∨ s.mdc.mode = .failsafe) →
      s.stc.machine ≠ .search →
      let m := s.frameMachine.1
      t.intent = { s.intent with steer := { s.intent.steer with queue := s.intent.steer.queue.tail } } ∧
      (t.stc.machine = .steady ∨ t.stc.machine = .aligning ∨ t.stc.machine = .settling) ∧
      (s.steeringArrives → m = .steady → t.stc.machine = .steady ∧ ∀ i,
        (t.stc.corners.get i).state = (s.frameCorner i).1) ∧
      (∀ i,
        let start := (s.frameCorner i).2
        let goal := s.frameGoal m i
        let b := t.stc.corners.get i
        (b.state = .active ∨ b.state = .rest →
          b.target = if m = .steady ∧ t.stc.machine ≠ .steady then 0 else goal) ∧
        (b.state = .active → b.commanded = if s.ws.nat Item.cornerStallMa < b.current then start
          else start + max (-(t.stc.slewStep : Int)) (min t.stc.slewStep (goal - start))) ∧
        (b.state = .rest → b.commanded = start) ∧
        (b.state = .held → (m = .settling → t.stc.machine = .settling) → b.commanded = start)) ∧
      (t.cau.records.steer.wish = true ↔
        let step := if s.cau.records.steer.scaled < s.ws.nat Item.floorSteerMa then 0
          else s.ws.nat Item.steerSlew * s.cau.records.steer.scaled / s.ws.nat Item.baseSteerMa
        (t.stc.machine = .steady ∨ t.stc.machine = .aligning) ∧ step < s.ws.nat Item.steerSlew ∧
        ∃ i, (t.stc.corners.get i).state = .active ∧
          (t.stc.corners.get i).current ≤ s.ws.nat Item.cornerStallMa ∧
          step < (s.frameGoal m i - (s.frameCorner i).2).natAbs)) ∧
    (t.stc.machine ≠ .steady → t.stc.machine ≠ .aligning → t.cau.records.steer.wish = false) ∧
    t.cau = { s.cau with records :=
      { s.cau.records with steer := { s.cau.records.steer with wish := t.cau.records.steer.wish } } } ∧
    s.changesOnly t [.output, .intent, .cau, .stc, .tse, .working] ∧ t.ws.map = s.ws.map ∧
    t.ws.functions = s.ws.functions ∧ t.intent.axes = s.intent.axes ∧ t.intent.drive = s.intent.drive ∧
    t.intent.light = s.intent.light ∧ t.intent.winch = s.intent.winch

/-- What befalls a corner (R97 to R101, R103, R108). At a frame in READY, RUN or FAILSAFE outside SEARCH the corner's
record is as step 6's stall and open counts, rest and clearing hold leave it (with R109 read for a corner that would
become ACTIVE while a load runs: log 25, DEDUCED), but for a failure with ALIGN, or the end of a settle, at step 8; a
failure raises a FAILED notice, which the SWITCHED of a settle that ends there may replace. In those states the steering
is sound, an invariant that every step keeps. A corner's own events: a stall with fewer than two recent ones rests the
corner for 500 ms, a third within 10 s fails it; twenty open frames fail it. Where a failure leaves the mode in effect,
or the pending target of a transition, outside the allowed set, the machine makes for the fallback. A rest and a
clearing hold end in ACTIVE, the latter in HELD in mode NONE. Each event acts one frame short of its count or timer (log
6, the model's choice). -/
def Obligations.CornerEventsRestFailAndReturn : Prop :=
  ∀ (s : State) (i : CornerId), s.powered = true →
    (∀ r : ServoReading, s.SteeringSound → (s.mdc.mode = .ready ∨ s.mdc.mode = .run ∨ s.mdc.mode = .failsafe) →
      s.stc.machine ≠ .search → ∃ t, exec (.servoFrame r) s = .next t ∧
        let work := s.cornerWork r i
        let b := t.stc.corners.get i
        let settled := s.frameMachine.1 = .settling ∧ s.ws.nat Item.settleMs ≤ min 500 (s.stc.settleMs + 10)
        b.history = work.history ∧ (work.state = .failed → b.worked work) ∧
        (work.state ≠ .failed → b.state = .failed → b.fault = .align ∧ b.commanded = 0) ∧
        (¬settled → b.state ≠ .failed → b.worked work) ∧
        ((s.stc.corners.get i).state ≠ .failed → work.state = .failed → ¬settled → s.ws.notices .steer = true →
          t.noticed (.steer ⟨.failed, s.stc.mode, t.stc.failedSet⟩))) ∧
    ((s.stc.corners.get i).state = .active → (s.stc.corners.get i).stallCount = 29 →
      ∃ t, exec (.cornerStall i) s = .next t ∧
        ((recentStalls s.stc.frameNo (s.stc.corners.get i).history).length < 2 →
          (t.stc.corners.get i).state = .rest ∧ (t.stc.corners.get i).stateTimer = 500 ∧
          (t.stc.corners.get i).stallCount = 0 ∧
          (t.stc.corners.get i).commanded = (s.stc.corners.get i).commanded ∧ s.changesOnly t [.stc]) ∧
        (2 ≤ (recentStalls s.stc.frameNo (s.stc.corners.get i).history).length →
          (t.stc.corners.get i).state = .failed ∧ (t.stc.corners.get i).fault = .stall ∧
          (t.stc.corners.get i).commanded = 0 ∧ s.followsFailure t) ∧
        s.changesOnly t [.output, .stc]) ∧
    ((s.stc.corners.get i).state = .active → (s.stc.corners.get i).openCount = 19 →
      ∃ t, exec (.cornerOpen i) s = .next t ∧ (t.stc.corners.get i).state = .failed ∧
        (t.stc.corners.get i).fault = .open ∧ (t.stc.corners.get i).target = 0 ∧
        (t.stc.corners.get i).commanded = 0 ∧ s.followsFailure t ∧ s.changesOnly t [.output, .stc]) ∧
    ((s.stc.corners.get i).state = .rest → (s.stc.corners.get i).stateTimer ≤ 10 → s.link.held = false →
      ∃ t, exec (.restEnd i) s = .next t ∧ (t.stc.corners.get i).state = .active ∧
        (t.stc.corners.get i).commanded = (s.stc.corners.get i).commanded ∧
        (∀ j, j ≠ i → t.stc.corners.get j = s.stc.corners.get j) ∧ s.changesOnly t [.stc]) ∧
    ((s.stc.corners.get i).state = .held → (s.stc.corners.get i).clearing = true →
      (s.stc.corners.get i).stateTimer ≤ 10 → s.link.held = false →
      ∃ t, exec (.clearingHoldEnd i) s = .next t ∧
        (t.stc.corners.get i).state = (if s.stc.mode = .none then .held else .active) ∧
        (t.stc.corners.get i).clearing = false ∧
        (∀ j, j ≠ i → t.stc.corners.get j = s.stc.corners.get j) ∧ s.changesOnly t [.stc])

/-- The steering machine (R101 to R107). At a frame in READY, RUN or FAILSAFE, after the code taken, if any (R104's row
1 before its row 3: log 48, the model's choice), and after a corner's failure, which may force a transition or replace
the pending target (R101): STEADY stays; ALIGNING, its align timer from 0 on entry and counting 10 ms unless STARVED,
gives way to SETTLING with its timer at 0 once every corner that is not FAILED stands at 0, and does so too at
ALIGN_TIMEOUT_MS, where every corner away from 0 fails with ALIGN, one FAILED notice tells of them and a pending target
that is no longer allowed becomes the fallback (R106, R100); SETTLING counts 10 ms and at SETTLE_MS adopts the pending
target, in STEADY, with a SWITCHED notice, its ACTIVE and REST corners HELD at 0 into NONE and its HELD ones ACTIVE out
of NONE unless they clear, or HELD on while a load runs (log 25, DEDUCED). A refused code raises a REFUSED notice. Where
the vehicle mode calls for UNPOWERED a transition is abandoned and its target is the mode in effect (R107), and so it is
where the frame finds CENTERING, which R107 does not name (log 17, DEDUCED, the model's choice). ALIGN_TIMEOUT and
SETTLE_END do the same at a timer one frame short of its figure (log 6, the model's choice); a stopped timer reads 0
(log 20, DEDUCED). While STARVED the align timer does not move, and a figure lowered to the time already counted expires
it (log 42, the model's choice). The frames in READY, RUN and FAILSAFE are those of states in which the steering is
sound, an invariant that every step keeps. -/
def Obligations.TransitionsTimeOutAndSettle : Prop :=
  ∀ s : State, s.powered = true →
    (∀ r : ServoReading, s.SteeringSound → (s.mdc.mode = .ready ∨ s.mdc.mode = .run ∨ s.mdc.mode = .failsafe) →
      s.stc.machine ≠ .search →
      ∃ t, exec (.servoFrame r) s = .next t ∧
        let m := (s.frameSettled r).1
        let pending := (s.frameSettled r).2
        let work := s.cornerWork r
        let straight := ∀ i, (work i).state = .failed ∨ (work i).commanded = 0
        let alignMs := if s.stc.machine = .aligning ∧ s.frameMachine.1 = .aligning then s.stc.alignMs else 0
        let counted := if t.stc.starved then alignMs else min 3000 (alignMs + 10)
        let settleMs := min 500 (s.stc.settleMs + 10)
        (m = .steady → t.stc.machine = .steady ∧ t.stc.pending = pending ∧ t.stc.mode = s.stc.mode) ∧
        (m = .aligning → t.stc.mode = s.stc.mode ∧
          (straight → t.stc.machine = .settling ∧ t.stc.alignMs = 0 ∧ t.stc.settleMs = 0 ∧
            t.stc.pending = pending) ∧
          (¬straight → counted < s.ws.nat Item.alignTimeoutMs →
            t.stc.machine = .aligning ∧ t.stc.alignMs = counted ∧ t.stc.pending = pending) ∧
          (¬straight → s.ws.nat Item.alignTimeoutMs ≤ counted →
            t.stc.machine = .settling ∧ t.stc.alignMs = 0 ∧ t.stc.settleMs = 0 ∧ t.straight ∧
            (∀ c, pending = some c → t.stc.pending =
              some (if modeAllowed t.stc.failedSet c then c else fallbackMode t.stc.failedSet)) ∧
            (∀ i, (work i).state ≠ .failed → (work i).commanded ≠ 0 →
              (t.stc.corners.get i).state = .failed ∧ (t.stc.corners.get i).fault = .align ∧
              (t.stc.corners.get i).target = 0) ∧
            (∀ i, (work i).state = .failed ∨ (work i).commanded = 0 → (t.stc.corners.get i).worked (work i)) ∧
            (s.ws.notices .steer = true → t.noticed (.steer ⟨.failed, s.stc.mode, t.stc.failedSet⟩)))) ∧
        (m = .settling → settleMs < s.ws.nat Item.settleMs → t.stc.machine = .settling ∧
          t.stc.settleMs = settleMs ∧ t.stc.pending = pending ∧ t.stc.mode = s.stc.mode) ∧
        (∀ new, m = .settling → s.ws.nat Item.settleMs ≤ settleMs → pending = some new →
          t.stc.machine = .steady ∧ t.stc.mode = new ∧ t.stc.pending = none ∧ t.stc.settleMs = 0 ∧
          (s.ws.notices .steer = true → t.noticed (.steer ⟨.switched, new, t.stc.failedSet⟩)) ∧
          ∀ i,
            let b := t.stc.corners.get i
            (new = .none → (work i).state = .active ∨ (work i).state = .rest →
              b.state = .held ∧ b.commanded = 0 ∧ b.target = 0) ∧
            (new = .none → (work i).state ≠ .active → (work i).state ≠ .rest → b.state = (work i).state) ∧
            (new ≠ .none → s.stc.mode = .none → (work i).state = .held → (work i).clearing = false →
              b.state = (if s.link.held then .held else .active) ∧ b.commanded = (work i).commanded) ∧
            (new ≠ .none → s.stc.mode ≠ .none ∨ (work i).state ≠ .held ∨ (work i).clearing = true →
              b.worked (work i))) ∧
        (s.frameMachine.2.2 = true → s.ws.notices .steer = true → t.stc.failedSet = s.stc.failedSet →
          (m ≠ .settling ∨ settleMs < s.ws.nat Item.settleMs) →
          t.noticed (.steer ⟨.refused, s.stc.mode, s.stc.failedSet⟩))) ∧
    (∀ (r : ServoReading) (new : SteerMode), s.mdc.mode ≠ .ready → s.mdc.mode ≠ .run → s.mdc.mode ≠ .failsafe →
      (s.stc.machine = .aligning ∨ s.stc.machine = .settling) → s.stc.pending = some new → s.tse.running = false →
      ∃ t, exec (.servoFrame r) s = .next t ∧ t.stc.mode = new ∧ t.stc.pending = none ∧ t.stc.alignMs = 0 ∧
        t.stc.settleMs = 0 ∧
        (s.ws.notices .steer = true → t.noticed (.steer ⟨.switched, new, t.stc.failedSet⟩))) ∧
    (s.stc.machine = .aligning →
      s.ws.nat Item.alignTimeoutMs ≤ (if s.stc.starved then s.stc.alignMs else min 3000 (s.stc.alignMs + 10)) →
      ∃ t, exec .alignTimeout s = .next t ∧ t.stc.machine = .settling ∧ t.stc.alignMs = 0 ∧
        t.stc.settleMs = 0 ∧ t.stc.mode = s.stc.mode ∧
        (∀ c, s.stc.pending = some c → t.stc.pending =
          some (if modeAllowed t.stc.failedSet c then c else fallbackMode t.stc.failedSet)) ∧
        (∀ i, (s.stc.corners.get i).state ≠ .failed → (s.stc.corners.get i).commanded ≠ 0 →
          (t.stc.corners.get i).state = .failed ∧ (t.stc.corners.get i).fault = .align ∧
          (t.stc.corners.get i).commanded = 0 ∧ (t.stc.corners.get i).target = 0) ∧
        (∀ i, (s.stc.corners.get i).state = .failed ∨ (s.stc.corners.get i).commanded = 0 →
          t.stc.corners.get i = s.stc.corners.get i) ∧
        ((∃ i, (s.stc.corners.get i).state ≠ .failed ∧ (s.stc.corners.get i).commanded ≠ 0) →
          s.ws.notices .steer = true → t.noticed (.steer ⟨.failed, s.stc.mode, t.stc.failedSet⟩)) ∧
        s.changesOnly t [.output, .stc]) ∧
    (∀ new, s.stc.machine = .settling → s.stc.pending = some new → s.ws.nat Item.settleMs ≤ s.stc.settleMs + 10 →
      ∃ t, exec .settleEnd s = .next t ∧ t.stc.machine = .steady ∧ t.stc.mode = new ∧ t.stc.pending = none ∧
        t.stc.settleMs = 0 ∧
        (s.ws.notices .steer = true → t.noticed (.steer ⟨.switched, new, s.stc.failedSet⟩)) ∧
        (∀ i,
          let a := s.stc.corners.get i
          let b := t.stc.corners.get i
          (new = .none → a.state = .active ∨ a.state = .rest → b.state = .held ∧ b.commanded = 0 ∧ b.target = 0) ∧
          (new = .none → a.state ≠ .active → a.state ≠ .rest → a.loadHeld = false → b = a) ∧
          (new ≠ .none → s.stc.mode = .none → a.state = .held → a.clearing = false →
            b.state = (if s.link.held then .held else .active) ∧ b.commanded = a.commanded) ∧
          (new ≠ .none → s.stc.mode ≠ .none ∨ a.state ≠ .held ∨ a.clearing = true → b = a)) ∧
        s.changesOnly t [.output, .stc])

/-- CLEAR_CORNER (R108): a number above 3 is UNKNOWN, a corner not FAILED gives BAD_STATE (before SEARCH's BUSY: log
18, DEDUCED), a FAILED corner BUSY in SEARCH; outside SEARCH a FAILED corner is cleared of its fault and its history:
in STEADY, ALIGNING and SETTLING it begins a 200 ms clearing hold at commanded angle 0, in CENTERING it is HELD and in
UNPOWERED UNPOWERED, without one. A STEER notice CLEARED tells of it (R112), the reply ahead of it (log 9, DEDUCED). -/
def Obligations.ClearCornerClearsAFailedOne : Prop :=
  ∀ (s : State) (tag : Byte), s.Serving →
    (∀ c : Byte, 4 ≤ c.toNat → ∃ t, exec (.clearCorner tag c) s = .next t ∧
      s.sent t (replyFrame 0x19 tag .unknown []) ∧ s.onlyLink t) ∧
    (∀ i : CornerId, (s.stc.corners.get i).state ≠ .failed →
      ∃ t, exec (.clearCorner tag (BitVec.ofNat 8 (cornerCode i))) s = .next t ∧
        s.sent t (replyFrame 0x19 tag .badState []) ∧ s.onlyLink t) ∧
    (∀ i : CornerId, (s.stc.corners.get i).state = .failed → s.stc.machine = .search →
      ∃ t, exec (.clearCorner tag (BitVec.ofNat 8 (cornerCode i))) s = .next t ∧
        s.sent t (replyFrame 0x19 tag .busy []) ∧ s.onlyLink t) ∧
    (∀ i : CornerId, (s.stc.corners.get i).state = .failed → s.stc.machine ≠ .search →
      let holds := s.stc.machine ≠ .unpowered ∧ s.stc.machine ≠ .centering
      ∃ t, exec (.clearCorner tag (BitVec.ofNat 8 (cornerCode i))) s = .next t ∧
        s.sent t (replyFrame 0x19 tag .ok []) ∧
        (t.stc.corners.get i).state = (if s.stc.machine = .unpowered then .unpowered else .held) ∧
        (t.stc.corners.get i).fault = .none ∧ (t.stc.corners.get i).history = [] ∧
        ((t.stc.corners.get i).clearing = true ↔ holds) ∧
        (t.stc.corners.get i).stateTimer = (if holds then 200 else 0) ∧
        (t.stc.corners.get i).commanded = 0 ∧
        (∀ j, j ≠ i → t.stc.corners.get j = s.stc.corners.get j) ∧ t.stc.machine = s.stc.machine ∧
        t.stc.mode = s.stc.mode ∧ t.stc.pending = s.stc.pending ∧
        (s.ws.notices .steer = true → t.noticed (.steer ⟨.cleared, s.stc.mode, t.stc.failedSet⟩)) ∧
        s.changesOnly t [.queue, .output, .stc])

/-! ## Trim search -/

/-- TRIM_SEARCH (R114, R115). The first of the nine tests that fails answers: RANGE for an empty set, UNKNOWN for a bit
above RR, BUSY for a search or a save, BAD_STATE with WRONG_MODE 1, MOVING 2 (in RUN alone), STEERING 3 or WINCH 4,
FAULTED where every named corner has FAILED. Else it is accepted: a search runs, the list holds the named corners that
are not FAILED, the FAILED ones are SKIPPED, the others NONE; the OK reply carries the set of the former and the set of
the latter; the machine is in SEARCH, and every corner that is not FAILED is HELD at commanded angle 0 with its counts,
timer and clearing hold ended. -/
def Obligations.TrimSearchSetsUpTheTable : Prop :=
  ∀ (s : State) (tag set : Byte), s.Serving →
    let names (i : CornerId) := set.toNat.testBit (cornerCode i)
    let failed (i : CornerId) := decide ((s.stc.corners.get i).state = .failed)
    let searches := s.mdc.mode = .ready ∨ s.mdc.mode = .run ∧ s.drc.stationary = true
    (set = 0 → ∃ t, exec (.trimSearch tag set) s = .next t ∧
      s.sent t (replyFrame 0x1A tag .range []) ∧ s.onlyLink t) ∧
    (16 ≤ set.toNat → ∃ t, exec (.trimSearch tag set) s = .next t ∧
      s.sent t (replyFrame 0x1A tag .unknown []) ∧ s.onlyLink t) ∧
    (0 < set.toNat → set.toNat < 16 →
      (s.tse.running = true ∨ s.sst.store = .writing → ∃ t, exec (.trimSearch tag set) s = .next t ∧
        s.sent t (replyFrame 0x1A tag .busy []) ∧ s.onlyLink t) ∧
      (s.tse.running = false → s.sst.store ≠ .writing →
        (s.mdc.mode ≠ .ready → s.mdc.mode ≠ .run → ∃ t, exec (.trimSearch tag set) s = .next t ∧
          s.sent t (replyFrame 0x1A tag .badState [1]) ∧ s.onlyLink t) ∧
        (s.mdc.mode = .run → s.drc.stationary = false → ∃ t, exec (.trimSearch tag set) s = .next t ∧
          s.sent t (replyFrame 0x1A tag .badState [2]) ∧ s.onlyLink t) ∧
        (searches → s.stc.machine ≠ .steady → ∃ t, exec (.trimSearch tag set) s = .next t ∧
          s.sent t (replyFrame 0x1A tag .badState [3]) ∧ s.onlyLink t) ∧
        (searches → s.stc.machine = .steady → s.wnc.state ≠ .stopped →
          ∃ t, exec (.trimSearch tag set) s = .next t ∧
            s.sent t (replyFrame 0x1A tag .badState [4]) ∧ s.onlyLink t) ∧
        (searches → s.stc.machine = .steady → s.wnc.state = .stopped →
          (∀ i, names i = true → (s.stc.corners.get i).state = .failed) →
          ∃ t, exec (.trimSearch tag set) s = .next t ∧
            s.sent t (replyFrame 0x1A tag .faulted []) ∧ s.onlyLink t) ∧
        (searches → s.stc.machine = .steady → s.wnc.state = .stopped →
          (∃ i, names i = true ∧ (s.stc.corners.get i).state ≠ .failed) →
          ∃ t, exec (.trimSearch tag set) s = .next t ∧ t.tse.running = true ∧ t.stc.machine = .search ∧
            t.tse.endCause = .none ∧ t.tse.corner = none ∧
            (∀ i, i ∈ t.tse.list ↔ names i = true ∧ (s.stc.corners.get i).state ≠ .failed) ∧
            t.tse.list.Pairwise (fun i j => cornerCode i < cornerCode j) ∧
            (∀ i, (t.tse.results.get i).result =
              if names i then (if (s.stc.corners.get i).state = .failed then .skipped else .waiting) else .none) ∧
            (∀ i, (t.tse.results.get i).oldTrim = s.ws.trim i ∧ (t.tse.results.get i).newTrim = none ∧
              (t.tse.results.get i).steps = 0) ∧
            (∀ i, (s.stc.corners.get i).state ≠ .failed →
              let b := t.stc.corners.get i
              b.state = .held ∧ b.target = 0 ∧ b.commanded = 0 ∧ b.stateTimer = 0 ∧ b.stallCount = 0 ∧
              b.openCount = 0 ∧ b.clearing = false) ∧
            (∀ i, (s.stc.corners.get i).state = .failed → t.stc.corners.get i = s.stc.corners.get i) ∧
            s.changesOnly t [.queue, .output, .stc, .tse] ∧
            s.sent t (replyFrame 0x1A tag .ok
              (u8 (cornerMask (PerCorner.ofFn fun i => names i && !failed i)) ++
                u8 (cornerMask (PerCorner.ofFn fun i => names i && failed i)))))))

/-- The search (R116 to R120, R126), at the frames of a machine in SEARCH in READY and RUN and at its own events. With
both axles in BRAKE the head of the list begins at minus the span, with the span and step then set; with an axle not in
BRAKE it waits. A wait that ends on sense 1 is START_HIGH with 0 steps; one that ends on 0 makes the first step. Two
equal samples make a step clear, a clear 0 moving the last-0 offset, and an unclear step changes neither reading. A
clear 1 after a clear 0 is the edge: the found trim, old trim plus last-0 offset plus half the step, is written within
±200 and is OUT_OF_RANGE outside. Without an edge the sweep goes on while the next offset lies within the span, and else
is NO_EDGE. No other ending writes a trim. A corner that ends leaves the search running while the list holds another;
with the list empty the search is COMPLETED with its TRIM notice, its corners HELD on while a load runs (log 25,
DEDUCED). At each frame that is not starved the wait counts to 10 and the step to 4, its first sample taken at the third
frame, the sense being the one that the frame's double look leaves (R110); after a step without an edge the next frame
makes the next one; a starved frame leaves the running corner and its counts as they stand. SEARCH_WAIT_END and
SEARCH_STEP_JUDGED act one frame short of their counts (log 6, the model's choice); the probe offset stands at 0 after a
corner (log 28, DEDUCED). The frames are those of states in which the steering is sound, an invariant that every step
keeps. -/
def Obligations.SearchBeginsStepsAndFindsTheEdge : Prop :=
  ∀ (s : State) (i : CornerId), s.powered = true → s.stc.machine = .search →
    (∀ rest, s.tse.corner = none → s.tse.list = i :: rest →
      (s.drc.axles.front.state = .brake → s.drc.axles.rear.state = .brake →
        ∃ t, exec .searchCornerBegin s = .next t ∧ s.searchBegins t i rest ∧
          (∀ j, j ≠ i → t.stc.corners.get j = s.stc.corners.get j) ∧ s.changesOnly t [.stc, .tse]) ∧
      (s.drc.axles.front.state ≠ .brake ∨ s.drc.axles.rear.state ≠ .brake →
        ∃ t, exec .searchCornerBegin s = .next t ∧ s.changesOnly t [])) ∧
    (s.stc.starved = false → s.tse.corner = some i → s.tse.phase = .wait → s.tse.frames = 9 →
      ∃ t, exec .searchWaitEnd s = .next t ∧ s.waitJudged t i (s.stc.corners.get i).sense ∧
        ((s.stc.corners.get i).sense = false → s.changesOnly t [.stc, .tse]) ∧
        (s.tse.list ≠ [] → ∀ j, j ≠ i → t.stc.corners.get j = s.stc.corners.get j) ∧
        s.changesOnly t [.output, .stc, .tse]) ∧
    (s.stc.starved = false → s.tse.corner = some i → s.tse.phase = .step → s.tse.frames = 3 →
      let sense := (s.stc.corners.get i).sense
      ∃ t, exec .searchStepJudged s = .next t ∧ s.stepJudged t i sense ∧
        (¬s.tse.edge sense → s.tse.probe + s.tse.step ≤ s.tse.span → s.changesOnly t [.tse]) ∧
        (s.tse.list ≠ [] → ∀ j, j ≠ i → t.stc.corners.get j = s.stc.corners.get j) ∧
        s.changesOnly t [.output, .stc, .tse, .working]) ∧
    (∀ r : ServoReading, s.SteeringSound → (s.mdc.mode = .ready ∨ s.mdc.mode = .run) →
      ∃ t, exec (.servoFrame r) s = .next t ∧
        let starved := s.grant .steer < s.ws.nat Item.floorSteerMa
        let stands := t.tse = s.tse ∧ t.stc.machine = .search ∧ t.ws = s.ws ∧
          ∀ j, (t.stc.corners.get j).state = (s.stc.corners.get j).state ∧
            (t.stc.corners.get j).commanded = (s.stc.corners.get j).commanded
        (∀ rest, s.tse.corner = none → s.tse.list = i :: rest →
          (s.drc.axles.front.state = .brake → s.drc.axles.rear.state = .brake → s.searchBegins t i rest) ∧
          (s.drc.axles.front.state ≠ .brake ∨ s.drc.axles.rear.state ≠ .brake → stands)) ∧
        (s.tse.corner = some i → starved → stands) ∧
        (s.tse.corner = some i → ¬starved →
          (s.tse.phase = .wait → s.tse.frames < 9 → t.tse = { s.tse with frames := s.tse.frames + 1 }) ∧
          (s.tse.phase = .wait → 9 ≤ s.tse.frames → s.waitJudged t i (s.frameSense r i)) ∧
          (s.tse.phase = .step → s.tse.frames < 3 → t.tse = { s.tse with
            frames := s.tse.frames + 1
            firstSample := if s.tse.frames = 2 then s.frameSense r i else s.tse.firstSample }) ∧
          (s.tse.phase = .step → s.tse.frames = 3 → s.stepJudged t i (s.frameSense r i)) ∧
          (s.tse.phase = .step → 4 ≤ s.tse.frames → s.searchSteps t i s.tse.lastClear s.tse.last0)) ∧
        t.ws = { s.ws with items := t.ws.items } ∧ s.changesOnly t [.output, .cau, .stc, .tse, .working])

/-- TRIM_ABORT (R121): with no search running BAD_STATE; else the search ends with cause REQUEST, the running corner
and every corner still in the list ABORTED, ended entries and the working set as they stand, with its TRIM notice
(R126), the machine STEADY and every corner that is not FAILED ACTIVE from commanded angle 0, or HELD there in mode NONE
(R120). The reply is ahead of the TRIM notice (log 9, DEDUCED). A frame that finds FAILSAFE or SHUTDOWN aborts a running
search in the same way with that end cause (R122): in FAILSAFE the machine is STEADY, and the corners ACTIVE or HELD
(HELD too while a load runs: log 25, DEDUCED), where no STEER_SEL code waits that this frame takes (log 46, the model's
choice); in SHUTDOWN machine and corners are UNPOWERED. -/
def Obligations.TrimAbortEndsTheSearch : Prop :=
  ∀ (s : State) (tag : Byte),
    (s.Serving → s.tse.running = false → ∃ t, exec (.trimAbort tag) s = .next t ∧
      s.sent t (replyFrame 0x1B tag .badState []) ∧ s.onlyLink t) ∧
    (s.Serving → s.tse.running = true → ∃ t, exec (.trimAbort tag) s = .next t ∧
      s.sent t (replyFrame 0x1B tag .ok []) ∧ s.searchAborted t .request ∧ t.stc.machine = .steady ∧
      (∀ i, (s.stc.corners.get i).state ≠ .failed →
        (t.stc.corners.get i).state = (if s.stc.mode = .none then .held else .active) ∧
        (t.stc.corners.get i).commanded = 0 ∧ (t.stc.corners.get i).target = 0) ∧
      (∀ i, (s.stc.corners.get i).state = .failed → t.stc.corners.get i = s.stc.corners.get i) ∧
      s.changesOnly t [.queue, .output, .stc, .tse]) ∧
    (∀ r : ServoReading, s.powered = true → s.tse.running = true → s.mdc.mode = .failsafe →
      ∃ t, exec (.servoFrame r) s = .next t ∧ s.searchAborted t .failsafe ∧
        (s.intent.steer.queue = [] → t.stc.machine = .steady) ∧
        ∀ i, (s.stc.corners.get i).state ≠ .failed → (t.stc.corners.get i).state =
          if s.stc.mode = .none ∨ s.link.held = true then .held else .active) ∧
    (∀ r : ServoReading, s.powered = true → s.tse.running = true → s.mdc.mode = .shutdown →
      ∃ t, exec (.servoFrame r) s = .next t ∧ s.searchAborted t .shutdown ∧ t.stc.machine = .unpowered ∧
        ∀ i, (s.stc.corners.get i).state ≠ .failed → (t.stc.corners.get i).state = .unpowered)

/-! ## Drive -/

/-- DRIVE_UPDATE (R128 to R142). Counts, speeds and currents are read within their ranges (R129, R130; currents: log
15, DEDUCED), the vehicle speed is the greater magnitude, each duty ceiling moves against its grant (R137), each rest
timer falls by 20 ms unless a stall sets it anew (R139). The follow state and its target are brought up to date (R140,
R141). In READY, RUN and FAILSAFE the head of the DRIVE_SEL queue is taken, or left with the lock pending while an
axle that it locks turns faster than LOCK_SPEED_MM_S (R132, R133). In every mode but RUN each axle is held still,
COAST in the modes before CENTERING and else in BRAKE at full strength, with every duty 0 (R131 rows 1 and 2). In RUN
it is held by SEARCH, by the drive mode, or by JAM_BRAKE (rows 3 to 6), or it follows the line (row 7) or the throttle
(row 8; R134, R135) within the caps (R136, R139), and 800 ms of stall rest it; its effective duty is its ramped duty
within its ceiling (R137). The limit count and the surge wish are as R138 gives them. In PARK the counts of both axles
join the motion count, which wakes the vehicle by MOTION where it reaches its figure and WAKE_MASK honours it (R43).
An axle whose change of direction reaches 0 is in DRIVE or REST there (log 56, the model's choice), and so is one whose
ramped duty a TRANSITION_CAP of 0 brings to 0 after its state is set (log 58, the model's choice). The target duty of a
held axle is 0 (log 21, DEDUCED), the rest timer falls before the axle's state is set (log 22, DEDUCED), and ASSIST is
followed in RUN alone (log 30, DEDUCED). -/
def Obligations.DriveUpdateReadsAndHolds : Prop :=
  ∀ (s : State) (r : DriveReading), s.powered = true → ∃ t, exec (.driveUpdate r) s = .next t ∧
    (∀ i, (t.drc.axles.get i).counts = r.counts.get i ∧
      (t.drc.axles.get i).speed =
        max (-3000) (min 3000 ((r.counts.get i * 50000).tdiv (s.ws.int Item.countsPerM))) ∧
      (t.drc.axles.get i).current = min 50000 (r.currents.get i) ∧
      (t.drc.axles.get i).ceiling = ceilingAfter (s.drc.axles.get i).ceiling (t.drc.axles.get i).current
        (s.grant (axleConsumer i))) ∧
    t.drc.speed = max t.drc.axles.front.speed.natAbs t.drc.axles.rear.speed.natAbs ∧
    (s.wnc.state = .assist → s.mdc.mode = .run →
      t.drc.follow = if s.drc.follow = .jamBrake then .none else .following) ∧
    (s.wnc.state = .jammed → t.drc.follow = if s.drc.follow = .none then .none else .jamBrake) ∧
    (¬(s.wnc.state = .assist ∧ s.mdc.mode = .run) → s.wnc.state ≠ .jammed → t.drc.follow = .none) ∧
    t.drc.assistTarget = (if t.drc.follow = .following then
      max 0 (min 3000 ((s.wnc.lineSpeed * s.ws.int Item.assistRatioPct).tdiv 100)) else 0) ∧
    ((s.mdc.mode = .ready ∨ s.mdc.mode = .run ∨ s.mdc.mode = .failsafe) →
      (s.intent.drive.queue = [] →
        t.drc.lockPending = none ∧ t.drc.mode = s.drc.mode ∧ t.intent.drive = s.intent.drive) ∧
      (∀ c rest, s.intent.drive.queue = c :: rest →
        let waits := ∃ i, c.locks i = true ∧ s.drc.mode.locks i = false ∧
          s.ws.nat Item.lockSpeedMmS < (t.drc.axles.get i).speed.natAbs
        (waits → t.drc.lockPending = some c ∧ t.drc.mode = s.drc.mode ∧ t.intent.drive = s.intent.drive) ∧
        (¬waits → t.drc.lockPending = none ∧ t.drc.mode = c ∧
          t.intent.drive = { s.intent.drive with queue := rest }))) ∧
    (s.mdc.mode ≠ .ready → s.mdc.mode ≠ .run → s.mdc.mode ≠ .failsafe →
      t.drc.lockPending = s.drc.lockPending ∧ t.drc.mode = s.drc.mode ∧ t.intent.drive = s.intent.drive) ∧
    (s.mdc.mode = .start ∨ s.mdc.mode = .loading ∨ s.mdc.mode = .packCheck →
      ∀ i, (t.drc.axles.get i).heldAs .coast 0) ∧
    (s.mdc.mode ≠ .start → s.mdc.mode ≠ .loading → s.mdc.mode ≠ .packCheck → s.mdc.mode ≠ .run →
      ∀ i, (t.drc.axles.get i).heldAs .brake 100) ∧
    (s.mdc.mode = .run → ∀ i,
      let a := s.drc.axles.get i
      let b := t.drc.axles.get i
      let target := if t.drc.follow = .following then 0 else shaped s.ws s.intent.axes.throttle
      let d := if t.drc.follow = .following then
          followDrive s.ws s.stc.machine a.ramped a.ceiling (a.restMs - 20) b.speed t.drc.assistTarget
        else throttleDrive s.ws s.stc.machine a.ramped (a.restMs - 20) target
      let stalling := d.state = .drive ∧ s.ws.nat Item.axleStallMa < b.current ∧ b.speed = 0
      if s.stc.machine = .search then b.heldAs .brake 100
      else if t.drc.mode.locks i = true then b.heldAs .locked 100
      else if t.drc.mode = .rearOnly ∧ i = .front then b.heldAs .coast 0
      else if t.drc.follow = .jamBrake then b.heldAs .brake 100
      else b.target = target ∧ b.brake = d.brake ∧
        (if stalling ∧ 800 ≤ a.stallMs + 20 then
          b.state = .rest ∧ b.restMs = 2000 ∧ b.stallMs = 0 ∧ b.ramped = max (-300) (min 300 d.ramped)
        else b.state = d.state ∧ b.restMs = a.restMs - 20 ∧ b.ramped = d.ramped ∧
          (stalling → b.stallMs = a.stallMs + 20) ∧ (¬stalling → b.stallMs = 0))) ∧
    (∀ i,
      let a := s.drc.axles.get i
      let b := t.drc.axles.get i
      let drives := b.state = .drive ∨ b.state = .rest
      (b.restMs = a.restMs - 20 ∨ b.restMs = 2000 ∧ b.state = .rest) ∧
      (drives → b.effective = max (-(b.ceiling : Int)) (min b.ceiling b.ramped)) ∧ (¬drives → b.effective = 0) ∧
      (b.state = .drive → s.grant (axleConsumer i) < b.current ∨ b.ceiling < b.ramped.natAbs →
        b.limitCount = min 2 (a.limitCount + 1)) ∧
      (¬(b.state = .drive ∧ (s.grant (axleConsumer i) < b.current ∨ b.ceiling < b.ramped.natAbs)) →
        b.limitCount = 0) ∧
      ((t.cau.records.get (axleConsumer i)).wish = true ↔ b.state = .drive ∧ b.limitCount = 2)) ∧
    (t.drc.braking = true ↔ s.mdc.mode = .run ∧
      ∃ i, (t.drc.axles.get i).state = .brake ∨ (t.drc.axles.get i).state = .locked) ∧
    (t.drc.reversing = true ↔ ∃ i, ((t.drc.axles.get i).state = .drive ∨ (t.drc.axles.get i).state = .rest) ∧
      (t.drc.axles.get i).effective < 0) ∧
    (s.mdc.mode = .park →
      let n := min 65535 (s.mdc.motionCount + r.counts.front.natAbs + r.counts.rear.natAbs)
      let wakes := s.ws.nat Item.motionWakeCounts ≤ n ∧ (s.ws.nat Item.wakeMask).testBit 2 = true
      t.mdc.motionCount = n ∧ t.mdc.mode = (if wakes then .centering else .park) ∧
      t.mdc.wakeSet = (if wakes then { s.mdc.wakeSet with motion := true } else s.mdc.wakeSet) ∧
      t.mdc.wakeFirst = (if wakes then some .motion else s.mdc.wakeFirst)) ∧
    (s.mdc.mode ≠ .park → t.mdc = { s.mdc with autoParkMs := t.mdc.autoParkMs }) ∧
    (∀ k, t.cau.records.get k = { s.cau.records.get k with wish := (t.cau.records.get k).wish }) ∧
    (∀ k, k ≠ .driveF → k ≠ .driveR → t.cau.records.get k = s.cau.records.get k) ∧
    s.changesOnly t [.output, .intent, .mode, .timers, .cau, .drc, .wnc] ∧ t.intent.axes = s.intent.axes ∧
    t.intent.steer = s.intent.steer ∧ t.intent.light = s.intent.light ∧ t.intent.winch = s.intent.winch

/-- The ramp (R134): a duty equal to its target stays; from 0, or below a target of its own sign, it grows by ACCEL_STEP
and stops at the target; above a target of its own sign, or toward 0, it falls by DECEL_STEP and stops at the target;
toward a target of the other sign it falls by DECEL_STEP and stops at 0. -/
def Obligations.RampMovesByItsSteps : Prop :=
  ∀ (w : WorkingSet) (r t : Int),
    (r = t → rampStep w r t = r) ∧
    (0 ≤ r → r < t → rampStep w r t = min t (r + w.nat Item.accelStep)) ∧
    (t < r → r ≤ 0 → rampStep w r t = max t (r - w.nat Item.accelStep)) ∧
    (0 ≤ t → t < r → rampStep w r t = max t (r - w.nat Item.decelStep)) ∧
    (r < t → t ≤ 0 → rampStep w r t = min t (r + w.nat Item.decelStep)) ∧
    (0 < r → t < 0 → rampStep w r t = max 0 (r - w.nat Item.decelStep)) ∧
    (r < 0 → 0 < t → rampStep w r t = min 0 (r + w.nat Item.decelStep))

/-- The drive's own events (R131 to R133, R139). A pending lock whose axle has slowed is taken in READY, RUN and
FAILSAFE: in RUN the axle that the new mode locks is LOCKED, one that it releases starts under the throttle or the
line, and during a search, and outside RUN, both stay in BRAKE. In RUN an axle whose stall reaches 800 ms rests for
2,000 ms within ±300, and a rest that ends returns the axle to DRIVE, its ramped duty rising from the next update on
where AXLE_REST_END comes on its own (log 6, the model's choice). Each event acts one update of 20 ms short of its
timer (log 6, the model's choice), a released axle whose change of direction, or whose TRANSITION_CAP of 0, brings its
ramped duty to 0 is in DRIVE or REST there (log 56, log 58, the model's choices), and a held axle's target duty is 0
(log 21, DEDUCED). -/
def Obligations.LocksStallsAndRests : Prop :=
  ∀ (s : State) (i : AxleId), s.powered = true →
    (∀ c rest, (s.mdc.mode = .ready ∨ s.mdc.mode = .run ∨ s.mdc.mode = .failsafe) →
      s.intent.drive.queue = c :: rest → s.drc.lockPending = some c →
      (∀ j, c.locks j = true → s.drc.mode.locks j = false →
        (s.drc.axles.get j).speed.natAbs ≤ s.ws.nat Item.lockSpeedMmS) →
      ∃ t, exec .pendingLockTaken s = .next t ∧ t.drc.mode = c ∧ t.drc.lockPending = none ∧
        t.intent.drive = { s.intent.drive with queue := rest } ∧ t.intent.axes = s.intent.axes ∧
        (s.mdc.mode ≠ .run ∨ s.stc.machine = .search → ∀ j, (t.drc.axles.get j).heldAs .brake 100) ∧
        (s.mdc.mode = .run → s.stc.machine ≠ .search → ∀ j, c.locks j = true →
          (t.drc.axles.get j).heldAs .locked 100) ∧
        (s.mdc.mode = .run → s.stc.machine ≠ .search → c ≠ .rearOnly → ∀ j, c.locks j = false →
          (s.drc.mode.locks j = true ∨ s.drc.mode = .rearOnly ∧ j = .front) →
          let a := s.drc.axles.get j
          let b := t.drc.axles.get j
          let d := if s.drc.follow = .following then
              followDrive s.ws s.stc.machine a.ramped a.ceiling a.restMs a.speed s.drc.assistTarget
            else throttleDrive s.ws s.stc.machine a.ramped a.restMs (shaped s.ws s.intent.axes.throttle)
          (s.drc.follow = .jamBrake → b.heldAs .brake 100) ∧
          (s.drc.follow ≠ .jamBrake → b.state = d.state ∧ b.brake = d.brake ∧ b.ramped = d.ramped ∧
            b.restMs = a.restMs)) ∧
        s.changesOnly t [.intent, .drc, .cau]) ∧
    (s.mdc.mode = .run → (s.drc.axles.get i).state = .drive → (s.drc.axles.get i).stallMs = 780 →
      ∃ t, exec (.axleStall i) s = .next t ∧ (t.drc.axles.get i).state = .rest ∧
        (t.drc.axles.get i).restMs = 2000 ∧ (t.drc.axles.get i).stallMs = 0 ∧
        (t.drc.axles.get i).ramped = max (-300) (min 300 (s.drc.axles.get i).ramped) ∧
        (∀ j, j ≠ i → t.drc.axles.get j = s.drc.axles.get j) ∧
        (t.cau.records.get (axleConsumer i)).wish = false ∧ s.changesOnly t [.drc, .cau]) ∧
    (s.mdc.mode = .run → (s.drc.axles.get i).state = .rest → 0 < (s.drc.axles.get i).restMs →
      (s.drc.axles.get i).restMs ≤ 20 →
      ∃ t, exec (.axleRestEnd i) s = .next t ∧
        t.drc.axles.get i = { s.drc.axles.get i with state := .drive, restMs := 0 } ∧
        (∀ j, j ≠ i → t.drc.axles.get j = s.drc.axles.get j) ∧ s.changesOnly t [.drc, .cau])

/-! ## Winch -/

/-- WINCH_UPDATE (R146 to R153, R159). Line speed, load and current are read within their ranges (load and current: log
15, DEDUCED); a referenced line counts its spool, and a closing line-in switch references it, ending a reel by load with
re-arm set and raising REFERENCED with the load last read at every closing (R147; log 27, DEDUCED), which a forced
engage of the same update replaces while it is still pending (R10, R161). The head of the WINCH_SEL queue becomes the
selection, and a code that ends a movement ends it by load with re-arm set (R149). A forced engage starts the clutch
travel with its notice (R159), which names LOW_GRANT where both causes stand (log 54, the model's choice). An idle winch
stands HOLDING or STOPPED by load; in RUN with the selection not OFF a non-neutral axis starts, turns, keeps or ends a
movement as R151 gives, re-arm blocking every start (R150). A reel above TENSION_HARD_N ends in HOLDING with re-arm set
and a HARD_HOLD notice (R152), unless the axis or a guard ends or turns it at the same update (log 55, the model's
choice). A reel whose jam timer reaches JAM_MS is JAMMED with re-arm set and its notice, and the timer keeps its value
there (R154, R161). A winch that does not move has duty and demand 0; one that moves has R152's demand and R153's duty
within its ceiling; the surge wish stands exactly with a limit count of 2 in a reel. -/
def Obligations.WinchUpdateReadsAndGuards : Prop :=
  ∀ (s : State) (r : WinchReading), s.powered = true → ∃ t, exec (.winchUpdate r) s = .next t ∧
    let axis := shaped s.ws s.intent.axes.winch
    let acts := s.mdc.mode = .run ∧ t.wnc.selection ≠ .off
    let starts := s.reelStarts t.wnc.lineIn t.wnc.selection
    let reel : WinchState := if t.wnc.selection = .assist then .assist else .reeling
    let hard := s.ws.nat Item.tensionHardN < t.wnc.load
    let jamMs (before : Nat) := if t.wnc.lineSpeed = 0 then min 5000 (before + 20) else 0
    let held := t.wnc.state = .holding ∧ t.wnc.rearm = true ∧ (s.ws.notices .winch = true →
      t.noticed (.winch ⟨.hardHold, none, .holding, t.wnc.clutch, t.wnc.line, t.wnc.load⟩))
    t.wnc.lineSpeed =
      max (-3000) (min 3000 ((r.counts * 50000).tdiv (s.ws.int Item.spoolCountsPerM))) ∧
    t.wnc.load = min 1000 r.load ∧ t.wnc.current = min 40000 r.current ∧ t.wnc.lineInPrev = r.lineInClosed ∧
    t.wnc.lineIn = (if r.lineInClosed = s.wnc.lineInPrev then r.lineInClosed else s.wnc.lineIn) ∧
    (s.lineInCloses r → t.wnc.line = some ⟨0, 0⟩) ∧
    (¬s.lineInCloses r → s.wnc.line = none → t.wnc.line = none) ∧
    (∀ l, ¬s.lineInCloses r → s.wnc.line = some l →
      let spool := (max 0 (min 65535 (l.spool - r.counts))).toNat
      t.wnc.line = some ⟨spool, min 65535 (spool * 1000 / s.ws.nat Item.spoolCountsPerM)⟩) ∧
    (s.intent.winch.queue = [] → t.wnc.selection = s.wnc.selection ∧ t.intent.winch = s.intent.winch) ∧
    (∀ c rest, s.intent.winch.queue = c :: rest → t.wnc.selection = c ∧
      t.intent.winch = { s.intent.winch with queue := rest }) ∧
    (s.wnc.state.reels = true → s.lineInCloses r → t.wnc.state = idleState s.ws t.wnc.load ∧
      t.wnc.rearm = decide (axis ≠ 0)) ∧
    (s.lineInCloses r → s.ws.notices .winch = true →
      let low := s.grant .winch < 300
      let away := s.mdc.mode = .run ∧ s.drc.braking = false ∧ 0 < s.drc.speed
      let forced := (s.wnc.state = .clutchReleasing ∨ s.wnc.state = .freespool) ∧ (low ∨ away)
      let referenced : Notice := .winch ⟨.referenced, none,
        if s.wnc.state.reels then idleState s.ws s.wnc.load else s.wnc.state, s.wnc.clutch, some ⟨0, 0⟩, s.wnc.load⟩
      (¬forced → t.noticed referenced) ∧
      (s.link.tx = none → s.link.replies = [] → s.link.notices.lowest = none →
        t.link.tx = some referenced.frame)) ∧
    (s.wnc.state.moves = true → s.codeStops → t.wnc.state = idleState s.ws t.wnc.load ∧
      t.wnc.rearm = decide (axis ≠ 0)) ∧
    (s.wnc.state = .clutchReleasing ∨ s.wnc.state = .freespool →
      let low := s.grant .winch < 300
      let away := s.mdc.mode = .run ∧ s.drc.braking = false ∧ 0 < s.drc.speed
      (low ∨ away → t.wnc.state = .clutchEngaging ∧ t.wnc.clutch = .moving ∧ t.wnc.clutchMs = 150 ∧
        (s.ws.notices .winch = true → t.noticed (.winch ⟨.forcedEngage,
          some (if low then .lowGrant else .driveAway), .clutchEngaging, .moving, t.wnc.line, t.wnc.load⟩))) ∧
      (¬low → ¬away → t.wnc.state = s.wnc.state ∧ t.wnc.clutch = s.wnc.clutch ∧ t.wnc.clutchMs = s.wnc.clutchMs)) ∧
    (s.wnc.state = .clutchEngaging ∨ s.wnc.state = .jammed → t.wnc.state = s.wnc.state) ∧
    (s.wnc.state = .jammed → t.wnc.jamMs = s.wnc.jamMs) ∧
    (s.wnc.state = .stopped ∨ s.wnc.state = .holding →
      (¬acts ∨ axis = 0 → t.wnc.state = idleState s.ws t.wnc.load ∧
        t.wnc.rearm = (s.wnc.rearm && decide (axis ≠ 0))) ∧
      (acts → 0 < axis → starts → hard → held) ∧
      (acts → 0 < axis → starts → ¬hard → (t.wnc.lineSpeed ≠ 0 ∨ 20 < s.ws.nat Item.jamMs) →
        t.wnc.state = reel ∧ t.wnc.jamMs = jamMs 0 ∧ t.wnc.rearm = false) ∧
      (acts → 0 < axis → ¬starts → t.wnc.state = idleState s.ws t.wnc.load ∧ t.wnc.rearm = s.wnc.rearm) ∧
      (acts → axis < 0 → s.wnc.rearm = false → t.wnc.atPayoutLimit s.ws = false →
        t.wnc.state = .paying ∧ t.wnc.jamMs = 0 ∧ t.wnc.rearm = false) ∧
      (acts → axis < 0 → (s.wnc.rearm = true ∨ t.wnc.atPayoutLimit s.ws = true) →
        t.wnc.state = idleState s.ws t.wnc.load ∧ t.wnc.rearm = s.wnc.rearm)) ∧
    (s.wnc.state.reels = true → s.movementGoesOn r → t.wnc.selection ≠ .off →
      let backs := s.wnc.state = .reeling ∧ s.drc.reversing = true
      (axis = 0 → t.wnc.state = idleState s.ws t.wnc.load ∧ t.wnc.rearm = false) ∧
      (axis < 0 → t.wnc.atPayoutLimit s.ws = false → t.wnc.state = .paying) ∧
      (axis < 0 → t.wnc.atPayoutLimit s.ws = true →
        t.wnc.state = idleState s.ws t.wnc.load ∧ t.wnc.rearm = true) ∧
      (0 < axis → backs → t.wnc.state = idleState s.ws t.wnc.load ∧ t.wnc.rearm = true) ∧
      (0 < axis → ¬backs → hard → held) ∧
      (0 < axis → ¬backs → ¬hard → (t.wnc.lineSpeed ≠ 0 ∨ jamMs s.wnc.jamMs < s.ws.nat Item.jamMs) →
        t.wnc.state = s.wnc.state ∧ t.wnc.jamMs = jamMs s.wnc.jamMs) ∧
      (0 < axis → ¬backs → ¬hard → t.wnc.lineSpeed = 0 → s.ws.nat Item.jamMs ≤ jamMs s.wnc.jamMs →
        t.wnc.state = .jammed ∧ t.wnc.jamMs = jamMs s.wnc.jamMs ∧ t.wnc.rearm = true ∧
        (s.ws.notices .winch = true →
          t.noticed (.winch ⟨.jammed, none, .jammed, t.wnc.clutch, t.wnc.line, t.wnc.load⟩)))) ∧
    (s.wnc.state = .paying → s.movementGoesOn r → t.wnc.selection ≠ .off →
      (axis = 0 → t.wnc.state = idleState s.ws t.wnc.load ∧ t.wnc.rearm = false) ∧
      (axis < 0 → t.wnc.state =
        if t.wnc.atPayoutLimit s.ws then idleState s.ws t.wnc.load else .paying) ∧
      (axis < 0 → t.wnc.atPayoutLimit s.ws = true → t.wnc.rearm = true) ∧
      (0 < axis → starts → hard → held) ∧
      (0 < axis → starts → ¬hard → (t.wnc.lineSpeed ≠ 0 ∨ 20 < s.ws.nat Item.jamMs) → t.wnc.state = reel) ∧
      (0 < axis → ¬starts → t.wnc.state = idleState s.ws t.wnc.load ∧ t.wnc.rearm = true)) ∧
    t.wnc.ceiling = ceilingAfter s.wnc.ceiling t.wnc.current (s.grant .winch) ∧
    (t.wnc.state.moves = false → t.wnc.duty = 0 ∧ t.wnc.demand = 0) ∧
    (t.wnc.state.moves = true →
      let d1 := (axis * s.ws.int Item.reelSpeedMmS).tdiv 1000
      let d2 := if s.pkm.level = .limit ∧ 0 < d1 then min d1 (s.ws.int Item.reelSpeedMmS / 2) else d1
      t.wnc.demand = (if t.wnc.state.reels = true ∧ s.ws.nat Item.tensionLimitN < t.wnc.load then
          (d2 * (s.ws.int Item.tensionHardN - t.wnc.load)).tdiv
            (s.ws.int Item.tensionHardN - s.ws.int Item.tensionLimitN)
        else d2) ∧
      t.wnc.duty = max (-(t.wnc.ceiling : Int)) (min t.wnc.ceiling
        (if t.wnc.lineSpeed < t.wnc.demand then s.wnc.duty + 20
         else if t.wnc.demand < t.wnc.lineSpeed then s.wnc.duty - 20 else s.wnc.duty))) ∧
    (t.wnc.state.reels = true → t.wnc.load ≤ s.ws.nat Item.tensionHardN) ∧
    t.wnc.duty.natAbs ≤ t.wnc.ceiling ∧
    t.wnc.limitCount = (if t.wnc.state.reels = true ∧ (s.cau.records.get .winch).scaled < t.wnc.current then
      min 2 (s.wnc.limitCount + 1) else 0) ∧
    (t.wnc.limitCount = 2 ∧ t.wnc.state.reels = true ↔ t.cau.records.winch.wish = true) ∧
    (∀ k, k ≠ .winch → t.cau.records.get k = s.cau.records.get k) ∧
    s.changesOnly t [.output, .intent, .cau, .wnc] ∧ t.intent.axes = s.intent.axes ∧
    t.intent.steer = s.intent.steer ∧ t.intent.drive = s.intent.drive ∧ t.intent.light = s.intent.light

/-- The winch's own events (R150, R154, R158, R161): a reel whose jam timer reaches JAM_MS is JAMMED with duty and
demand 0, the timer at the value it reached and re-arm set, and raises a WINCH notice JAMMED (WINCH_JAM acting 20 ms
short of it: log 6, the model's choice; re-arm at a jam: R150, log 27, DEDUCED); the clutch timer ends a release in
FREESPOOL and an engage in STOPPED. -/
def Obligations.JamAndClutchTimer : Prop :=
  ∀ s : State, s.powered = true →
    (s.wnc.state.reels = true → s.ws.nat Item.jamMs ≤ min 5000 (s.wnc.jamMs + 20) →
      ∃ t, exec .winchJam s = .next t ∧
        t.wnc = { s.wnc with
          state := .jammed, duty := 0, demand := 0, jamMs := min 5000 (s.wnc.jamMs + 20), rearm := true } ∧
        (s.ws.notices .winch = true →
          t.noticed (.winch ⟨.jammed, none, .jammed, s.wnc.clutch, s.wnc.line, s.wnc.load⟩)) ∧
        t.wnc.bridge = .brake 100 ∧ s.changesOnly t [.output, .wnc]) ∧
    (s.wnc.state = .clutchReleasing → ∃ t, exec .clutchTimerExpiry s = .next t ∧
      t.wnc = { s.wnc with state := .freespool, clutch := .free, clutchMs := 0 } ∧
      t.wnc.state.solenoid = true ∧ s.changesOnly t [.wnc]) ∧
    (s.wnc.state = .clutchEngaging → ∃ t, exec .clutchTimerExpiry s = .next t ∧
      t.wnc = { s.wnc with state := .stopped, clutch := .engaged, clutchMs := 0 } ∧
      t.wnc.state.solenoid = false ∧ s.changesOnly t [.wnc])

/-- WINCH_CLUTCH (R158): FREE in READY or RUN with a grant of at least 300 mA, a STOPPED winch, a slack line and a
standing vehicle powers the solenoid for 150 ms of travel. The first test that fails answers it: WRONG_MODE 1,
LOW_SUPPLY, CLUTCH_MOVING 3 or NOT_STOPPED 4, TENSIONED for a held line and for a load above FREESPOOL_N, MOVING 2.
ENGAGE in FREESPOOL travels back, and elsewhere is refused CLUTCH_MOVING 3 or NOT_FREESPOOL 5. -/
def Obligations.ClutchIsFreedAndEngaged : Prop :=
  ∀ (s : State) (tag : Byte), s.Serving →
    ((s.mdc.mode = .ready ∨ s.mdc.mode = .run) → 300 ≤ s.grant .winch → s.wnc.state = .stopped →
      s.wnc.load ≤ s.ws.nat Item.freespoolN → s.drc.speed = 0 →
      ∃ t, exec (.winchClutchFree tag) s = .next t ∧ s.sent t (replyFrame 0x24 tag .ok []) ∧
        t.wnc = { s.wnc with state := .clutchReleasing, clutch := .moving, clutchMs := 150 } ∧
        t.wnc.state.solenoid = true ∧ s.changesOnly t [.queue, .output, .wnc]) ∧
    (s.mdc.mode ≠ .ready → s.mdc.mode ≠ .run → ∃ t, exec (.winchClutchFree tag) s = .next t ∧
      s.sent t (replyFrame 0x24 tag .badState [1]) ∧ s.onlyLink t) ∧
    ((s.mdc.mode = .ready ∨ s.mdc.mode = .run) → s.grant .winch < 300 →
      ∃ t, exec (.winchClutchFree tag) s = .next t ∧ s.sent t (replyFrame 0x24 tag .lowSupply []) ∧
        s.onlyLink t) ∧
    ((s.mdc.mode = .ready ∨ s.mdc.mode = .run) → 300 ≤ s.grant .winch →
      s.wnc.state ≠ .stopped → s.wnc.state ≠ .holding →
      ∃ t, exec (.winchClutchFree tag) s = .next t ∧ s.sent t (replyFrame 0x24 tag .badState
        [if s.wnc.state = .clutchReleasing ∨ s.wnc.state = .clutchEngaging then 3 else 4]) ∧ s.onlyLink t) ∧
    ((s.mdc.mode = .ready ∨ s.mdc.mode = .run) → 300 ≤ s.grant .winch →
      s.wnc.state = .holding ∨ s.wnc.state = .stopped ∧ s.ws.nat Item.freespoolN < s.wnc.load →
      ∃ t, exec (.winchClutchFree tag) s = .next t ∧ s.sent t (replyFrame 0x24 tag .tensioned []) ∧
        s.onlyLink t) ∧
    ((s.mdc.mode = .ready ∨ s.mdc.mode = .run) → 300 ≤ s.grant .winch → s.wnc.state = .stopped →
      s.wnc.load ≤ s.ws.nat Item.freespoolN → s.drc.speed ≠ 0 →
      ∃ t, exec (.winchClutchFree tag) s = .next t ∧ s.sent t (replyFrame 0x24 tag .badState [2]) ∧
        s.onlyLink t) ∧
    (s.wnc.state = .freespool → ∃ t, exec (.winchClutchEngage tag) s = .next t ∧
      s.sent t (replyFrame 0x24 tag .ok []) ∧
      t.wnc = { s.wnc with state := .clutchEngaging, clutch := .moving, clutchMs := 150 } ∧
      s.changesOnly t [.queue, .output, .wnc]) ∧
    (s.wnc.state ≠ .freespool → ∃ t, exec (.winchClutchEngage tag) s = .next t ∧
      s.sent t (replyFrame 0x24 tag .badState
        [if s.wnc.state = .clutchReleasing ∨ s.wnc.state = .clutchEngaging then 3 else 5]) ∧ s.onlyLink t)

/-- CLEAR_WINCH (R155): a winch not JAMMED gives BAD_STATE 6 and nothing changes; a JAMMED one is left by the load last
read, HOLDING above FREESPOOL_N and else STOPPED, jam timer 0, re-arm set, the spool braked. -/
def Obligations.ClearWinchLeavesJammedByLoad : Prop :=
  ∀ (s : State) (tag : Byte), s.Serving →
    (s.wnc.state ≠ .jammed → ∃ t, exec (.clearWinch tag) s = .next t ∧
      s.sent t (replyFrame 0x26 tag .badState [6]) ∧ s.onlyLink t) ∧
    (s.wnc.state = .jammed → ∃ t, exec (.clearWinch tag) s = .next t ∧
      s.sent t (replyFrame 0x26 tag .ok []) ∧
      t.wnc = { s.wnc with
        state := if s.ws.nat Item.freespoolN < s.wnc.load then .holding else .stopped
        jamMs := 0, rearm := true, duty := 0, demand := 0 } ∧
      t.wnc.bridge = .brake 100 ∧ s.changesOnly t [.queue, .output, .wnc])

/-! ## Lamps -/

/-- LAMP_CHECK (R163, R167, R169 to R173). Diagnosis: a channel that carries a function and is examined takes its
finding as its suspect, and one whose finding equals its suspect is FAILED, off, its function moved to a spare where its
record allows and one exists and else DARK, with a LAMP notice; no other channel that carries a function joins the
failed set. Where several fail they are handled in channel order: a function takes the spare whose place in channel
order is the number of such functions handed on before it, and is DARK where the spares have run out; the notice of the
last one stands. A FAILED channel whose trip seen is set, which a load may leave, is examined too and stays FAILED; a
spare is not examined. The requested set is R169's. Shedding (R170): while the draw exceeds the grant, functions of
classes 3 to 1 join the list in shed order, and one whose class has become 0 leaves it at this check (log 38, the
model's choice); where it does not, the last member alone may leave it, by the tenth's margin. Lighting (R171): the lit
set is the requested and mapped functions that are not shed; a generator that a lit function names starts at the
beginning of ON or runs on, and one that none names stops (its reading then: log 47, the model's choice); every channel
is commanded on exactly when its function is in the lit set and steady or in its generator's ON; a channel commanded off
has output OFF, one commanded on is DRIVING, unless it tripped on a generator that was running already; the start of a
generator is an ON edge, which re-lights (R167; log 51, DEDUCED); brightness follows the function; outside READY, RUN
and FAILSAFE no channel is lit. A generator's edges act until the next check on the channels that carry a lit function
with that generator (log 24, DEDUCED). The current of a channel that is not DRIVING reads 0 (log 23, DEDUCED). -/
def Obligations.LampCheckSetsEveryChannel : Prop :=
  ∀ (s : State) (currents : Vector Nat 12), s.powered = true → ∃ t, exec (.lampCheck currents) s = .next t ∧
    (∀ ch : ChannelId, (t.lmp.channels[ch]).commanded = t.channelOn ch ∧
      ((t.lmp.channels[ch]).commanded = false ↔ (t.lmp.channels[ch]).output = .off) ∧
      (t.lmp.channels[ch]).brightness = t.ws.brightness ch ∧
      (t.lmp.channels[ch]).current =
        if (s.lmp.channels[ch]).output = .driving then min 3000 currents[ch] else 0) ∧
    (s.mdc.mode ≠ .ready → s.mdc.mode ≠ .run → s.mdc.mode ≠ .failsafe →
      (∀ f : FunctionId, t.lmp.requested[f] = false) ∧
      ∀ ch : ChannelId, (t.lmp.channels[ch]).commanded = false) ∧
    (∀ f : FunctionId, t.lmp.lit[f] = true ↔
      t.lmp.requested[f] = true ∧ t.ws.map[f] ≠ none ∧ f ∉ t.lmp.shed) ∧
    (∀ g : GenId,
      let named := ∃ f : FunctionId, t.lmp.lit[f] = true ∧ (t.ws.functions[f]).generator = .pg g
      (named → t.lmp.gens.get g = if (s.lmp.gens.get g).running then s.lmp.gens.get g
        else { running := true, on := true, ms := 0 }) ∧
      (¬named → t.lmp.gens.get g = { running := false, on := false, ms := 0 })) ∧
    (∀ (g : GenId) (ch : ChannelId), t.drivenBy g ch = true ↔
      ∃ f : FunctionId, t.ws.carried ch = some f ∧ t.lmp.lit[f] = true ∧ (t.ws.functions[f]).generator = .pg g) ∧
    (∀ (g : GenId) (ch : ChannelId) (f : FunctionId), t.ws.carried ch = some f → t.lmp.lit[f] = true →
      (t.ws.functions[f]).generator = .pg g → (s.lmp.gens.get g).running = false →
      (t.lmp.channels[ch]).output = .driving) ∧
    (∀ ch : ChannelId, s.ws.spare ch = true →
      t.ws.failed[ch] = false ∧ (t.lmp.channels[ch]).tripSeen = (s.lmp.channels[ch]).tripSeen ∧
      (t.ws.carried ch = none → (t.lmp.channels[ch]).suspect = (s.lmp.channels[ch]).suspect)) ∧
    (s.ws.MapSound → ∀ ch : ChannelId, s.ws.failed[ch] = true →
      let c := s.lmp.channels[ch]
      t.ws.failed[ch] = true ∧ t.ws.carried ch = none ∧
      (c.isExamined → (t.lmp.channels[ch]).suspect = c.found currents[ch] ∧ (t.lmp.channels[ch]).tripSeen = false) ∧
      (¬c.isExamined → (t.lmp.channels[ch]).suspect = c.suspect ∧ (t.lmp.channels[ch]).tripSeen = c.tripSeen)) ∧
    (s.mdc.mode = .failsafe → ∀ f : FunctionId, t.lmp.requested[f] = decide (f = 1 ∨ f = 4 ∨ f = 5)) ∧
    (s.mdc.mode = .ready ∨ s.mdc.mode = .run →
      let scene := s.lmp.scene
      let hazard := s.pkm.level = .limit ∨ s.pkm.level = .cutoff
      let turns := s.stc.mode = .front ∨ s.stc.mode = .counter ∨ s.stc.mode = .independent
      (t.lmp.requested[(0 : FunctionId)] = true ↔ scene ≠ .off) ∧
      (t.lmp.requested[(1 : FunctionId)] = true ↔ scene ≠ .off) ∧
      t.lmp.requested[(2 : FunctionId)] = s.drc.braking ∧ t.lmp.requested[(3 : FunctionId)] = s.drc.reversing ∧
      (t.lmp.requested[(4 : FunctionId)] = true ↔
        hazard ∨ turns ∧ s.stc.corners.fl.commanded < -(s.ws.int Item.indicatorAngle)) ∧
      (t.lmp.requested[(5 : FunctionId)] = true ↔
        hazard ∨ turns ∧ s.ws.int Item.indicatorAngle < s.stc.corners.fl.commanded) ∧
      (t.lmp.requested[(6 : FunctionId)] = true ↔ scene = .trail ∨ scene = .full) ∧
      (t.lmp.requested[(7 : FunctionId)] = true ↔ scene = .full) ∧
      (t.lmp.requested[(8 : FunctionId)] = true ↔ s.wnc.state ≠ .stopped) ∧
      (t.lmp.requested[(9 : FunctionId)] = true ↔
        s.wnc.state = .assist ∨ s.stc.machine = .aligning ∨ s.stc.machine = .settling)) ∧
    (let kept := t.ws.inShedOrder (s.lmp.shed.filter t.asked)
      let grant := s.grant .lamps
      (∀ f ∈ t.lmp.shed, t.asked f = true ∧ 1 ≤ (t.ws.functions[f]).shedClass ∧ (t.ws.functions[f]).shedClass ≤ 3) ∧
      t.lmp.shed.Pairwise (fun g f => t.ws.shedsBefore g f) ∧
      (t.drawWith t.lmp.shed ≤ grant ∨ ∀ f, t.asked f = true → 1 ≤ (t.ws.functions[f]).shedClass →
        (t.ws.functions[f]).shedClass ≤ 3 → f ∈ t.lmp.shed) ∧
      (∀ f ∈ t.lmp.shed, f ∉ kept → grant < t.drawWith (kept ++ t.lmp.shed.takeWhile (fun g => g != f)) ∧
        ∀ g, t.asked g = true → 1 ≤ (t.ws.functions[g]).shedClass → (t.ws.functions[g]).shedClass ≤ 3 →
          t.ws.shedsBefore g f → g ∈ t.lmp.shed) ∧
      (∀ f ∈ kept, f ∉ t.lmp.shed → kept.getLast? = some f ∧ t.drawWith t.lmp.shed * 11 ≤ grant * 10) ∧
      (∀ f, kept.getLast? = some f → (t.drawWith kept + (t.ws.functions[f]).nominal) * 11 ≤ grant * 10 →
        f ∉ t.lmp.shed)) ∧
    (s.ws.MapSound → ∀ (ch : ChannelId) (f : FunctionId), s.ws.map[f] = some ch →
      let c := s.lmp.channels[ch]
      (s.failsAt currents ch → t.ws.failed[ch] = true ∧ (t.lmp.channels[ch]).suspect = c.suspect ∧
        (t.lmp.channels[ch]).commanded = false ∧ (t.lmp.channels[ch]).tripSeen = false ∧
        t.ws.map[f] = (if (s.ws.functions[f]).remap then
          (sparesOf s.ws.map s.ws.failed)[s.failuresBefore currents ch]? else none) ∧
        ((∀ c', ch < c' → ¬s.failsAt currents c') → s.ws.notices .lamp = true →
          t.noticed (.lamp ⟨.failed, some ch, some f, t.ws.map[f], t.ws.failed, t.ws.map⟩))) ∧
      (¬s.failsAt currents ch → t.ws.failed[ch] = false ∧ t.ws.map[f] = some ch ∧
        ((t.lmp.channels[ch]).commanded = true →
          let waits := c.output = .tripped ∧
            ∃ g, (s.ws.functions[f]).generator = .pg g ∧ (s.lmp.gens.get g).running = true
          (waits → (t.lmp.channels[ch]).output = .tripped) ∧ (¬waits → (t.lmp.channels[ch]).output = .driving)) ∧
        (t.lmp.channels[ch]).suspect = (if c.tripSeen || (c.commanded && decide (c.output = .driving)) then
          c.found currents[ch] else c.suspect) ∧ (t.lmp.channels[ch]).tripSeen = false)) ∧
    s.changesOnly t [.output, .lmp, .working] ∧ t.ws.items = s.ws.items ∧ t.ws.functions = s.ws.functions ∧
    t.ws.gens = s.ws.gens

/-- Events between lamp checks (R162, R167, R169): a short trip darkens a DRIVING channel until it is re-lit; an ON edge
begins ON at the period's start, an OFF edge ends ON, on the channels that the latest check found lit on the generator
(log 24, DEDUCED); LMP takes the head of the LIGHT_SEL queue as its scene. -/
def Obligations.LampEventsBetweenChecks : Prop :=
  ∀ (s : State) (ch : ChannelId) (g : GenId), s.powered = true →
    ((s.lmp.channels[ch]).output = .driving → ∃ t, exec (.shortTrip ch) s = .next t ∧
      (t.lmp.channels[ch]).output = .tripped ∧ (t.lmp.channels[ch]).tripSeen = true ∧
      (∀ c : ChannelId, c ≠ ch → t.lmp.channels[c] = s.lmp.channels[c]) ∧ s.changesOnly t [.lmp]) ∧
    ((s.lmp.gens.get g).running = true → ∃ t, exec (.onEdge g) s = .next t ∧
      t.lmp.gens.get g = { running := true, on := true, ms := 0 } ∧
      (∀ c : ChannelId, s.drivenBy g c = true →
        (t.lmp.channels[c]).commanded = true ∧ (t.lmp.channels[c]).output = .driving) ∧
      (∀ c : ChannelId, s.drivenBy g c = false → t.lmp.channels[c] = s.lmp.channels[c]) ∧
      s.changesOnly t [.lmp]) ∧
    ((s.lmp.gens.get g).running = true → (s.lmp.gens.get g).on = true → (s.ws.gens.get g).duty ≠ .full →
      ∃ t, exec (.offEdge g) s = .next t ∧ (t.lmp.gens.get g).on = false ∧
        (t.lmp.gens.get g).running = true ∧
        (∀ c : ChannelId, s.drivenBy g c = true →
          (t.lmp.channels[c]).commanded = false ∧ (t.lmp.channels[c]).output = .off) ∧
        (∀ c : ChannelId, s.drivenBy g c = false → t.lmp.channels[c] = s.lmp.channels[c]) ∧
        s.changesOnly t [.lmp]) ∧
    (∀ c rest, s.intent.light.queue = c :: rest → ∃ t, exec .lightSelTake s = .next t ∧
      t.lmp = { s.lmp with scene := c } ∧ t.intent.light.queue = rest ∧
      t.intent.light.last = s.intent.light.last ∧ t.intent.axes = s.intent.axes ∧
      t.intent.steer = s.intent.steer ∧ s.changesOnly t [.intent, .lmp])

/-- MAP_LAMP (R165, R166): a save in flight gives BUSY, a function above 9 UNKNOWN, a channel above 11 that is not 0xFF
UNKNOWN, a failed channel FAULTED, one that carries another function NOT_ALLOWED; a spare takes
the function, and 0xFF leaves the function DARK; no other function moves. The channel that the function leaves, and the
one that takes it, are commanded off at once, with output OFF and suspect none, and every other channel's record
stands; naming the channel that the function has changes nothing. Of LMP's state only channel records change: the lit
set, held since the latest check (log 52, the model's choice), the shed list and the generators follow at the next. -/
def Obligations.MapLampMovesAFunction : Prop :=
  ∀ (s : State) (tag : Byte) (f : FunctionId) (ch : ChannelId), s.Serving →
    (s.sst.store = .writing → ∀ fn channel : Byte, ∃ t, exec (.mapLamp tag fn channel) s = .next t ∧
      s.sent t (replyFrame 0x28 tag .busy []) ∧ s.onlyLink t) ∧
    (s.sst.store ≠ .writing →
      (∀ fn channel : Byte, 10 ≤ fn.toNat → ∃ t, exec (.mapLamp tag fn channel) s = .next t ∧
        s.sent t (replyFrame 0x28 tag .unknown []) ∧ s.onlyLink t) ∧
      (∀ channel : Byte, 12 ≤ channel.toNat → channel ≠ 0xFF →
        ∃ t, exec (.mapLamp tag (BitVec.ofNat 8 f.val) channel) s = .next t ∧
          s.sent t (replyFrame 0x28 tag .unknown []) ∧ s.onlyLink t) ∧
      (s.ws.failed[ch] = true →
        ∃ t, exec (.mapLamp tag (BitVec.ofNat 8 f.val) (BitVec.ofNat 8 ch.val)) s = .next t ∧
          s.sent t (replyFrame 0x28 tag .faulted []) ∧ s.onlyLink t) ∧
      (∀ g, s.ws.failed[ch] = false → s.ws.carried ch = some g → g ≠ f →
        ∃ t, exec (.mapLamp tag (BitVec.ofNat 8 f.val) (BitVec.ofNat 8 ch.val)) s = .next t ∧
          s.sent t (replyFrame 0x28 tag .notAllowed []) ∧ s.onlyLink t) ∧
      (s.ws.spare ch = true →
        ∃ t, exec (.mapLamp tag (BitVec.ofNat 8 f.val) (BitVec.ofNat 8 ch.val)) s = .next t ∧
          s.sent t (replyFrame 0x28 tag .ok []) ∧ t.ws.map[f] = some ch ∧
          (∀ g : FunctionId, g ≠ f → t.ws.map[g] = s.ws.map[g]) ∧ t.ws.failed = s.ws.failed ∧
          t.ws.items = s.ws.items ∧ t.ws.functions = s.ws.functions ∧ t.darkened ch ∧
          (∀ c : ChannelId, s.ws.carried c = some f → t.darkened c) ∧
          (∀ c : ChannelId, c ≠ ch → s.ws.carried c ≠ some f → t.lmp.channels[c] = s.lmp.channels[c]) ∧
          t.lmp = { s.lmp with channels := t.lmp.channels } ∧
          s.changesOnly t [.queue, .output, .lmp, .working]) ∧
      (s.ws.failed[ch] = false → s.ws.carried ch = some f →
        ∃ t, exec (.mapLamp tag (BitVec.ofNat 8 f.val) (BitVec.ofNat 8 ch.val)) s = .next t ∧
          s.sent t (replyFrame 0x28 tag .ok []) ∧ s.onlyLink t) ∧
      (∃ t, exec (.mapLamp tag (BitVec.ofNat 8 f.val) 0xFF) s = .next t ∧
        s.sent t (replyFrame 0x28 tag .ok []) ∧ t.ws.map[f] = none ∧
        (∀ g : FunctionId, g ≠ f → t.ws.map[g] = s.ws.map[g]) ∧ t.ws.failed = s.ws.failed ∧
        (∀ c : ChannelId, s.ws.carried c = some f → t.darkened c) ∧
        (∀ c : ChannelId, s.ws.carried c ≠ some f → t.lmp.channels[c] = s.lmp.channels[c]) ∧
        t.lmp = { s.lmp with channels := t.lmp.channels } ∧
        s.changesOnly t [.queue, .output, .lmp, .working]))

/-- SET_FUNCTION and SET_GENERATOR (R164, R168): well-encoded records in range are replaced whole, a running generator
restarting at ON with the channels that the latest check found lit on it commanded on and DRIVING (log 24, DEDUCED);
values out of range give RANGE, a function above 9 or a generator above 3 UNKNOWN, and a save in flight BUSY. -/
def Obligations.FunctionAndGeneratorRecordsAreReplaced : Prop :=
  ∀ (s : State) (tag : Byte) (fn : FunctionId) (f : FunctionFields) (rec : FuncRec) (g : GenId) (p : Half)
    (d : GenDuty), s.Serving → functionFields f = some rec →
    (s.sst.store = .writing → ∃ t, exec (.setFunction tag (BitVec.ofNat 8 fn.val) f) s = .next t ∧
      s.sent t (replyFrame 0x29 tag .busy []) ∧ s.onlyLink t) ∧
    (s.sst.store = .writing →
      ∃ t, exec (.setGenerator tag (BitVec.ofNat 8 g.ctorIdx) p (BitVec.ofNat 8 d.code)) s = .next t ∧
        s.sent t (replyFrame 0x2B tag .busy []) ∧ s.onlyLink t) ∧
    (s.sst.store ≠ .writing → rec.nominal ≤ 2000 → rec.shedClass ≤ 3 → 1 ≤ rec.brightness →
      rec.brightness ≤ 100 → ∃ t, exec (.setFunction tag (BitVec.ofNat 8 fn.val) f) s = .next t ∧
        s.sent t (replyFrame 0x29 tag .ok []) ∧ t.ws.functions[fn] = rec ∧
        (∀ k : FunctionId, k ≠ fn → t.ws.functions[k] = s.ws.functions[k]) ∧ t.ws.map = s.ws.map ∧
        t.ws.items = s.ws.items ∧ t.ws.gens = s.ws.gens ∧ s.changesOnly t [.queue, .output, .working]) ∧
    (s.sst.store ≠ .writing → 2000 < rec.nominal ∨ 3 < rec.shedClass ∨ rec.brightness = 0 ∨ 100 < rec.brightness →
      ∃ t, exec (.setFunction tag (BitVec.ofNat 8 fn.val) f) s = .next t ∧
        s.sent t (replyFrame 0x29 tag .range []) ∧ s.onlyLink t) ∧
    (s.sst.store ≠ .writing → 100 ≤ p.toNat → p.toNat ≤ 2000 → p.toNat % 10 = 0 →
      ∃ t, exec (.setGenerator tag (BitVec.ofNat 8 g.ctorIdx) p (BitVec.ofNat 8 d.code)) s = .next t ∧
        s.sent t (replyFrame 0x2B tag .ok []) ∧ t.ws.gens.get g = ⟨p.toNat, d⟩ ∧
        (∀ k, k ≠ g → t.ws.gens.get k = s.ws.gens.get k) ∧
        t.lmp.gens.get g = (if (s.lmp.gens.get g).running then { running := true, on := true, ms := 0 }
          else s.lmp.gens.get g) ∧
        (∀ k, k ≠ g → t.lmp.gens.get k = s.lmp.gens.get k) ∧
        (∀ c : ChannelId, t.lmp.channels[c] =
          if (s.lmp.gens.get g).running && s.drivenBy g c then
            { s.lmp.channels[c] with commanded := true, output := .driving }
          else s.lmp.channels[c]) ∧
        t.lmp = { s.lmp with channels := t.lmp.channels, gens := t.lmp.gens } ∧
        t.ws.map = s.ws.map ∧ t.ws.functions = s.ws.functions ∧
        t.ws.items = s.ws.items ∧ s.changesOnly t [.queue, .output, .lmp, .working]) ∧
    (s.sst.store ≠ .writing → ∀ b : Byte, 10 ≤ b.toNat → ∃ t, exec (.setFunction tag b f) s = .next t ∧
      s.sent t (replyFrame 0x29 tag .unknown []) ∧ s.onlyLink t) ∧
    (s.sst.store ≠ .writing → ∀ b : Byte, 4 ≤ b.toNat →
      ∃ t, exec (.setGenerator tag b p (BitVec.ofNat 8 d.code)) s = .next t ∧
        s.sent t (replyFrame 0x2B tag .unknown []) ∧ s.onlyLink t) ∧
    (s.sst.store ≠ .writing → p.toNat < 100 ∨ 2000 < p.toNat ∨ p.toNat % 10 ≠ 0 →
      ∃ t, exec (.setGenerator tag (BitVec.ofNat 8 g.ctorIdx) p (BitVec.ofNat 8 d.code)) s = .next t ∧
        s.sent t (replyFrame 0x2B tag .range []) ∧ s.onlyLink t)

/-- CLEAR_CHANNEL (R174): a channel above 11 is UNKNOWN, one not in the failed set BAD_STATE; else the channel leaves
the failed set with its suspect and its trip seen clear, no mapped function moves, and each DARK function whose record
allows a remap takes the lowest-numbered spare, in function order, while spares remain, the others staying DARK (one
made DARK by MAP_LAMP with its remap allowed yes as well: log 61, DEDUCED, the rule's words conflict); a LAMP notice
CLEARED is raised (R177), and a function mapped here joins the lit set at the next lamp check. -/
def Obligations.ClearChannelReturnsASpare : Prop :=
  ∀ (s : State) (tag : Byte) (ch : ChannelId), s.Serving → s.ws.MapSound →
    (∀ c : Byte, 12 ≤ c.toNat → ∃ t, exec (.clearChannel tag c) s = .next t ∧
      s.sent t (replyFrame 0x2C tag .unknown []) ∧ s.onlyLink t) ∧
    (s.ws.failed[ch] = false → ∃ t, exec (.clearChannel tag (BitVec.ofNat 8 ch.val)) s = .next t ∧
      s.sent t (replyFrame 0x2C tag .badState []) ∧ s.onlyLink t) ∧
    (s.ws.failed[ch] = true → ∃ t, exec (.clearChannel tag (BitVec.ofNat 8 ch.val)) s = .next t ∧
      s.sent t (replyFrame 0x2C tag .ok []) ∧ t.ws.failed[ch] = false ∧
      (∀ c : ChannelId, c ≠ ch → t.ws.failed[c] = s.ws.failed[c]) ∧
      (t.lmp.channels[ch]).suspect = .none ∧ (t.lmp.channels[ch]).tripSeen = false ∧
      (∀ (f : FunctionId) (c : ChannelId), s.ws.map[f] = some c → t.ws.map[f] = some c) ∧
      (∀ f : FunctionId, s.ws.map[f] = none → t.ws.map[f] =
        spareFor s.ws.functions (fun g => (s.ws.map[g]).isNone) (sparesOf s.ws.map t.ws.failed) f) ∧
      (s.ws.notices .lamp = true →
        t.noticed (.lamp ⟨.cleared, some ch, none, none, t.ws.failed, t.ws.map⟩)) ∧
      t.lmp = { s.lmp with channels := t.lmp.channels } ∧
      t.ws.functions = s.ws.functions ∧ t.ws.items = s.ws.items ∧
      s.changesOnly t [.queue, .output, .lmp, .working])

/-! ## Settings -/

/-- SET and GET (R179): an item of the table with a value in its range that keeps the orderings, which its owner does
not refuse, is written, alone, and GET returns it; a save in flight gives BUSY, an unknown id UNKNOWN, a value out of
range or one that breaks an ordering RANGE; the owners refuse CELL_COUNT outside READY and PARK with BAD_STATE (R66)
and a corner's trim in SEARCH with BUSY (R109). What a SET brings about at once: NOTICE_MASK removes the pending notices
it leaves out (R10); a SILENCE_MS already reached takes RUN to FAILSAFE, a moving winch ending by load with re-arm set
(R37, R157); an AUTO_PARK_S already reached by the running timer parks the vehicle, and 0 stops the timer (R41);
CELL_COUNT restarts PKM's counts (R66); the items of R75 make CAU recompute. No other item changes more than the working
set and the link. Where a SET of SILENCE_MS or AUTO_PARK_S ends RUN its reply is ahead of the MODE notice of its step
(log 9, DEDUCED) and the axles are halted (log 39, DEDUCED). -/
def Obligations.SetWritesAndGetReads : Prop :=
  ∀ (s : State) (tag : Byte) (i : Fin 78) (spec : ItemSpec) (v : Word), s.Serving →
    itemSpec i.val = some spec →
    (∃ t, exec (.get tag (BitVec.ofNat 8 i.val)) s = .next t ∧
      s.sent t (replyFrame 0x31 tag .ok (u8 i.val ++ s32 (s.ws.int i))) ∧ s.onlyLink t) ∧
    (∀ id : Byte, itemSpec id.toNat = none → ∃ t, exec (.get tag id) s = .next t ∧
      s.sent t (replyFrame 0x31 tag .unknown []) ∧ s.onlyLink t) ∧
    (s.sst.store = .writing → ∃ t, exec (.set tag (BitVec.ofNat 8 i.val) v) s = .next t ∧
      s.sent t (replyFrame 0x30 tag .busy []) ∧ s.onlyLink t) ∧
    (s.sst.store ≠ .writing → spec.allowed.admits v.toInt = false →
      ∃ t, exec (.set tag (BitVec.ofNat 8 i.val) v) s = .next t ∧
        s.sent t (replyFrame 0x30 tag .range []) ∧ s.onlyLink t) ∧
    (s.sst.store ≠ .writing → ∀ id : Byte, itemSpec id.toNat = none → ∃ t, exec (.set tag id v) s = .next t ∧
      s.sent t (replyFrame 0x30 tag .unknown []) ∧ s.onlyLink t) ∧
    (s.sst.store ≠ .writing → spec.allowed.admits v.toInt = true → (s.ws.setItem i v.toInt).ordered = false →
      ∃ t, exec (.set tag (BitVec.ofNat 8 i.val) v) s = .next t ∧
        s.sent t (replyFrame 0x30 tag .range []) ∧ s.onlyLink t) ∧
    (s.sst.store ≠ .writing → spec.allowed.admits v.toInt = true → (s.ws.setItem i v.toInt).ordered = true →
      i = Item.cellCount → s.mdc.mode ≠ .ready → s.mdc.mode ≠ .park →
      ∃ t, exec (.set tag (BitVec.ofNat 8 i.val) v) s = .next t ∧
        s.sent t (replyFrame 0x30 tag .badState []) ∧ s.onlyLink t) ∧
    (s.sst.store ≠ .writing → spec.allowed.admits v.toInt = true → (s.ws.setItem i v.toInt).ordered = true →
      50 ≤ i.val → i.val ≤ 53 → s.stc.machine = .search →
      ∃ t, exec (.set tag (BitVec.ofNat 8 i.val) v) s = .next t ∧
        s.sent t (replyFrame 0x30 tag .busy []) ∧ s.onlyLink t) ∧
    (s.sst.store ≠ .writing → spec.allowed.admits v.toInt = true → (s.ws.setItem i v.toInt).ordered = true →
      (i = Item.cellCount → s.mdc.mode = .ready ∨ s.mdc.mode = .park) →
      (50 ≤ i.val → i.val ≤ 53 → s.stc.machine ≠ .search) → ∃ t, exec (.set tag (BitVec.ofNat 8 i.val) v) s = .next t ∧
        t.ws.int i = v.toInt ∧ (∀ j, j ≠ i → t.ws.int j = s.ws.int j) ∧ t.ws.map = s.ws.map ∧
        t.ws.functions = s.ws.functions ∧ t.ws.gens = s.ws.gens ∧ t.ws.failed = s.ws.failed ∧
        s.sent t (replyFrame 0x30 tag .ok []) ∧
        (i = Item.noticeMask → ∀ k,
          t.link.notices.get k = if t.ws.notices k then s.link.notices.get k else none) ∧
        (let silent := i = Item.silenceMs ∧ s.mdc.mode = .run ∧ v.toInt ≤ s.mdc.silenceMs
         let parks := i = Item.autoParkS ∧ 0 < v.toInt ∧ s.mdc.mode = .run ∧ s.parkFailure = none ∧
           s.mdc.lastNonNeutral = false ∧ v.toInt * 1000 ≤ s.mdc.autoParkMs
         (silent → t.mdc.mode = .failsafe ∧ t.mdc.resumeCount = 0 ∧ t.mdc.silenceMs = 0 ∧
           (s.ws.notices .mode = true →
             t.noticed (.mode ⟨.failsafe, .run, s.mdc.wakeSet, s.mdc.wakeFirst⟩)) ∧
           t.wnc = if s.wnc.state.moves then
             { s.wnc with
               state := idleState s.ws s.wnc.load, duty := 0, demand := 0, jamMs := 0, rearm := true }
             else s.wnc) ∧
         (parks → t.mdc.mode = .park ∧ t.mdc.motionCount = 0 ∧ t.wnc = s.wnc ∧
           t.mdc.parkTimer =
             (if s.ws.nat Item.parkTimerS = 0 then none else some (s.ws.nat Item.parkTimerS * 1000)) ∧
           (s.ws.notices .mode = true →
             t.noticed (.mode ⟨.park, .run, s.mdc.wakeSet, s.mdc.wakeFirst⟩))) ∧
         (¬silent → ¬parks → t.mdc = { s.mdc with autoParkMs := if t.autoParkRuns then s.mdc.autoParkMs else 0 } ∧
           t.wnc = s.wnc ∧ (i ≠ Item.noticeMask → t.link.notices = s.link.notices))) ∧
        (i = Item.autoParkS → v.toInt = 0 → t.mdc.autoParkMs = 0) ∧
        (i = Item.cellCount → s.countsRestart t) ∧ (i ≠ Item.cellCount → t.pkm = s.pkm) ∧
        (20 ≤ i.val ∧ i.val ≤ 33 ∧ i ≠ Item.surgeHold → s.recomputes t) ∧
        (¬(20 ≤ i.val ∧ i.val ≤ 33 ∧ i ≠ Item.surgeHold) → t.cau = s.cau) ∧
        s.axlesFollowMode t ∧ s.changesOnly t [.queue, .output, .mode, .timers, .pkm, .cau, .drc, .wnc, .working])

/-- STORE_SAVE and SAVE_COMPLETE (R180, R181): with the five tests passed the working set is the snapshot, the store is
WRITING and the image's check fails from then on; a write in flight or a running search gives BUSY, a mode other than
READY, RUN and PARK BAD_STATE (before the level is judged, at CUTOFF too: log 57, the model's choice), a level of LIMIT
or CUTOFF LOW_SUPPLY, a high STORE_LOCK NOT_ALLOWED (the pin's level being the command's operand, held afterwards: log
14, the model's choice); the write's end leaves an image equal to the snapshot, with the check computed over it (R178),
and a VALID store, with a STORE notice DONE (R183). The bytes the check is computed over, and the failing check
of a write under way, are the model's choice (log 11). -/
def Obligations.SaveTakesASnapshotAndCompletes : Prop :=
  ∀ (s : State) (tag : Byte) (w : WorkingSet),
    (s.Serving → s.sst.store ≠ .writing → s.tse.running = false →
      (s.mdc.mode = .ready ∨ s.mdc.mode = .run ∨ s.mdc.mode = .park) →
      (s.pkm.level = .normal ∨ s.pkm.level = .caution) →
      (∃ t, exec (.storeSave tag false) s = .next t ∧ s.sent t (replyFrame 0x32 tag .ok []) ∧
        t.sst = { s.sst with store := .writing, snapshot := some s.ws, image := t.sst.image, writeMs := 0 } ∧
        t.sst.image.valid = false ∧
        (s.setStoreLock false).changesOnly t [.queue, .output, .store]) ∧
      (∃ t, exec (.storeSave tag true) s = .next t ∧ s.sent t (replyFrame 0x32 tag .notAllowed []) ∧
        (s.setStoreLock true).onlyLink t)) ∧
    (s.Serving → ∀ lock : Bool,
      (s.sst.store = .writing ∨ s.tse.running = true → ∃ t, exec (.storeSave tag lock) s = .next t ∧
        s.sent t (replyFrame 0x32 tag .busy []) ∧ (s.setStoreLock lock).onlyLink t) ∧
      (s.sst.store ≠ .writing → s.tse.running = false →
        (s.mdc.mode ≠ .ready → s.mdc.mode ≠ .run → s.mdc.mode ≠ .park →
          ∃ t, exec (.storeSave tag lock) s = .next t ∧ s.sent t (replyFrame 0x32 tag .badState []) ∧
            (s.setStoreLock lock).onlyLink t) ∧
        ((s.mdc.mode = .ready ∨ s.mdc.mode = .run ∨ s.mdc.mode = .park) →
          (s.pkm.level = .limit ∨ s.pkm.level = .cutoff) →
          ∃ t, exec (.storeSave tag lock) s = .next t ∧ s.sent t (replyFrame 0x32 tag .lowSupply []) ∧
            (s.setStoreLock lock).onlyLink t))) ∧
    (s.powered = true → s.sst.store = .writing → s.sst.snapshot = some w →
      ∃ t, exec .saveComplete s = .next t ∧
        t.sst = { s.sst with
          image := { content := w, check := crc w.bytes }, store := .valid, snapshot := none, writeMs := 0 } ∧
        t.sst.image.valid = true ∧ (s.ws.notices .store = true → t.noticed (.store ⟨.done, .valid⟩)) ∧
        s.changesOnly t [.output, .store])

/-- STORE_LOAD, STORE_LOAD_END (R182, R109): in READY or PARK with a VALID store the load is answered OK and holds the
dispatcher and the ACTIVE corners; at its end the items, functions and generators are the image's, the dispatcher is
free and no corner is held by the load. STORE_DEFAULTS puts the defaults into the working set at once. A store that is
WRITING and a running search give BUSY to both (R124; the search before the mode: log 19, DEDUCED), any other mode
BAD_STATE, and a store that is not VALID gives a load FAULTED. At either replacement CAU recomputes (R75; not before the
start sequence has ended: log 12, DEDUCED), PKM restarts its counts where CELL_COUNT changed (R66) and a pending notice
that the new mask leaves out is removed (R10). The failed channels are kept. A function whose loaded channel has not
failed has that channel; one whose channel has failed takes the lowest-numbered spare where its record allows a remap,
in function order, and else is DARK, with a LAMP notice LOADED; a running generator whose record changed restarts
(R175). A channel whose function changed is commanded off at once, with output OFF and suspect none (R165). The lit set,
the shed list and the channel commands follow at the next lamp check, and the scene stands (R175). While a load runs an
ACTIVE corner is HELD with its commanded angle as its target (R93); released in a transition it has target 0. -/
def Obligations.LoadAndDefaultsReplaceTheWorkingSet : Prop :=
  ∀ (s : State) (tag : Byte) (w : WorkingSet),
    (s.Serving → (s.mdc.mode = .ready ∨ s.mdc.mode = .park) → s.tse.running = false → s.sst.store = .valid →
      ∃ t, exec (.storeLoad tag) s = .next t ∧ s.sent t (replyFrame 0x33 tag .ok []) ∧ t.link.held = true ∧
        t.link.loadMs = 0 ∧
        (∀ i, (s.stc.corners.get i).state = .active → (t.stc.corners.get i).state = .held ∧
          (t.stc.corners.get i).commanded = (s.stc.corners.get i).commanded ∧
          (t.stc.corners.get i).target = (s.stc.corners.get i).commanded) ∧
        s.changesOnly t [.queue, .output, .stc]) ∧
    (s.powered = true → s.link.held = true → s.link.waiting = [] → s.sst.image.content = w →
      ∃ t, exec .storeLoadEnd s = .next t ∧ t.link.held = false ∧ t.ws.items = w.items ∧
        t.ws.functions = w.functions ∧ t.ws.gens = w.gens ∧
        (∀ ch : ChannelId, t.ws.failed[ch] = (w.failed[ch] || s.ws.failed[ch])) ∧
        (∀ i, (t.stc.corners.get i).loadHeld = false) ∧
        (∀ i, (s.stc.corners.get i).loadHeld = true → (t.stc.corners.get i).state = .active ∧
          (s.stc.machine = .aligning ∨ s.stc.machine = .settling → (t.stc.corners.get i).target = 0)) ∧
        s.lampsFollow t w ∧ s.recomputes t ∧ t.noticesFollowMask ∧
        (∀ k, k ≠ .lamp → t.ws.notices k = true → s.link.tx ≠ none →
          t.link.notices.get k = s.link.notices.get k) ∧
        (w.int Item.cellCount ≠ s.ws.int Item.cellCount → s.countsRestart t) ∧
        (w.int Item.cellCount = s.ws.int Item.cellCount → t.pkm = s.pkm) ∧
        s.changesOnly t [.queue, .output, .pkm, .cau, .stc, .lmp, .working]) ∧
    (s.Serving → s.sst.store ≠ .writing → s.tse.running = false → (s.mdc.mode = .ready ∨ s.mdc.mode = .park) →
      ∃ t, exec (.storeDefaults tag) s = .next t ∧
        replyFrame 0x34 tag .ok [] ∈ t.link.outgoing ∧ t.ws.items = itemDefaults ∧
        t.ws.functions = functionDefaults ∧ t.ws.gens = genDefaults ∧
        (∀ ch : ChannelId, t.ws.failed[ch] = s.ws.failed[ch]) ∧
        s.lampsFollow t WorkingSet.defaults ∧ s.recomputes t ∧ t.noticesFollowMask ∧
        (∀ k, k ≠ .lamp → t.ws.notices k = true → t.link.notices.get k = s.link.notices.get k) ∧
        (s.ws.int Item.cellCount ≠ 3 → s.countsRestart t) ∧ (s.ws.int Item.cellCount = 3 → t.pkm = s.pkm) ∧
        s.changesOnly t [.queue, .output, .pkm, .cau, .lmp, .working]) ∧
    (s.Serving → (s.sst.store = .writing ∨ s.tse.running = true) →
      (∃ t, exec (.storeLoad tag) s = .next t ∧ s.sent t (replyFrame 0x33 tag .busy []) ∧ s.onlyLink t) ∧
      ∃ t, exec (.storeDefaults tag) s = .next t ∧ s.sent t (replyFrame 0x34 tag .busy []) ∧ s.onlyLink t) ∧
    (s.Serving → s.sst.store ≠ .writing → s.tse.running = false → s.mdc.mode ≠ .ready → s.mdc.mode ≠ .park →
      (∃ t, exec (.storeLoad tag) s = .next t ∧ s.sent t (replyFrame 0x33 tag .badState []) ∧ s.onlyLink t) ∧
      ∃ t, exec (.storeDefaults tag) s = .next t ∧ s.sent t (replyFrame 0x34 tag .badState []) ∧ s.onlyLink t) ∧
    (s.Serving → s.sst.store ≠ .writing → s.tse.running = false → (s.mdc.mode = .ready ∨ s.mdc.mode = .park) →
      s.sst.store ≠ .valid → ∃ t, exec (.storeLoad tag) s = .next t ∧
        s.sent t (replyFrame 0x33 tag .faulted []) ∧ s.onlyLink t)

/-! ## Invariants -/

/-- The state after reset satisfies every invariant below. -/
def Obligations.ResetIsSound : Prop :=
  State.reset.LinkSound ∧ State.reset.SwitchesSound ∧ State.reset.SteeringSound ∧ State.reset.WinchSound ∧
    State.reset.AllotSound ∧ State.reset.StoreSound ∧ State.reset.LampsSound ∧ State.reset.EnergySound

/-- The link's places (R5, R6, R9, R13): waiting requests and held slots never number more than four, and each held slot
is owed exactly one reply, on its way or deferred. -/
def Obligations.EveryStepKeepsTheLinksPlaces : Prop :=
  ∀ s t : State, s.LinkSound → step s = .next t → t.LinkSound

/-- The change queues (R22) hold never more than two codes, never two equal ones, the last one the last accepted code;
the energy counter stays in its ranges (R51). -/
def Obligations.EveryStepKeepsChangeQueuesAndEnergyCounter : Prop :=
  ∀ s t : State, s.SwitchesSound → s.EnergySound → step s = .next t → t.SwitchesSound ∧ t.EnergySound

/-- The steering machine is in SEARCH exactly while a search runs, the SEARCHING corner being exactly the running one
(R116) and none running or waiting outside a search, with a pending target exactly in a transition; in STEADY, ALIGNING
and SETTLING every corner is ACTIVE, HELD, in REST or FAILED (R89, R91), and a load holds only HELD corners (R109); an
axle drives, and the winch moves, in RUN alone (R131, R157), its clutch engaged except in the clutch states. -/
def Obligations.EveryStepKeepsSteeringAndWinch : Prop :=
  ∀ s t : State, s.SteeringSound → s.WinchSound → step s = .next t → t.SteeringSound ∧ t.WinchSound

/-- The allotment has no holder at LIMIT or CUTOFF, ceilings as R73 gives them, all 0 at CUTOFF and before the start
sequence ends, and its quiet and calm counts are 0 while the slot is held (R77, R83); a store write is in flight
exactly while a snapshot is held, its image's check failing, and a VALID store's image has its check matching
(R178). -/
def Obligations.EveryStepKeepsAllotmentAndStore : Prop :=
  ∀ s t : State, s.AllotSound → s.StoreSound → step s = .next t → t.AllotSound ∧ t.StoreSound

/-- The channel maps: a failed channel carries no function, and a channel carries at most one (R165). -/
def Obligations.EveryStepKeepsTheChannelMaps : Prop :=
  ∀ s t : State, s.LampsSound → step s = .next t → t.LampsSound
end

