-- ==== Sys2Proof/Laws/State.lean ====
section
/-! SUPPORT. One lemma per field per update of the state, and what the link operations leave unchanged. -/
namespace Sys2Proof.Machine

@[simp] theorem State.setPending_pending (s : State) (x : List Instr) : (s.setPending x).pending = x := rfl
@[simp] theorem State.setPending_powered (s : State) (x : List Instr) : (s.setPending x).powered = s.powered := rfl
@[simp] theorem State.setPending_storeLock (s : State) (x : List Instr) : (s.setPending x).storeLock = s.storeLock := rfl
@[simp] theorem State.setPending_link (s : State) (x : List Instr) : (s.setPending x).link = s.link := rfl
@[simp] theorem State.setPending_intent (s : State) (x : List Instr) : (s.setPending x).intent = s.intent := rfl
@[simp] theorem State.setPending_mdc (s : State) (x : List Instr) : (s.setPending x).mdc = s.mdc := rfl
@[simp] theorem State.setPending_pkm (s : State) (x : List Instr) : (s.setPending x).pkm = s.pkm := rfl
@[simp] theorem State.setPending_cau (s : State) (x : List Instr) : (s.setPending x).cau = s.cau := rfl
@[simp] theorem State.setPending_stc (s : State) (x : List Instr) : (s.setPending x).stc = s.stc := rfl
@[simp] theorem State.setPending_tse (s : State) (x : List Instr) : (s.setPending x).tse = s.tse := rfl
@[simp] theorem State.setPending_drc (s : State) (x : List Instr) : (s.setPending x).drc = s.drc := rfl
@[simp] theorem State.setPending_wnc (s : State) (x : List Instr) : (s.setPending x).wnc = s.wnc := rfl
@[simp] theorem State.setPending_lmp (s : State) (x : List Instr) : (s.setPending x).lmp = s.lmp := rfl
@[simp] theorem State.setPending_sst (s : State) (x : List Instr) : (s.setPending x).sst = s.sst := rfl

@[simp] theorem State.setPowered_pending (s : State) (x : Bool) : (s.setPowered x).pending = s.pending := rfl
@[simp] theorem State.setPowered_powered (s : State) (x : Bool) : (s.setPowered x).powered = x := rfl
@[simp] theorem State.setPowered_storeLock (s : State) (x : Bool) : (s.setPowered x).storeLock = s.storeLock := rfl
@[simp] theorem State.setPowered_link (s : State) (x : Bool) : (s.setPowered x).link = s.link := rfl
@[simp] theorem State.setPowered_intent (s : State) (x : Bool) : (s.setPowered x).intent = s.intent := rfl
@[simp] theorem State.setPowered_mdc (s : State) (x : Bool) : (s.setPowered x).mdc = s.mdc := rfl
@[simp] theorem State.setPowered_pkm (s : State) (x : Bool) : (s.setPowered x).pkm = s.pkm := rfl
@[simp] theorem State.setPowered_cau (s : State) (x : Bool) : (s.setPowered x).cau = s.cau := rfl
@[simp] theorem State.setPowered_stc (s : State) (x : Bool) : (s.setPowered x).stc = s.stc := rfl
@[simp] theorem State.setPowered_tse (s : State) (x : Bool) : (s.setPowered x).tse = s.tse := rfl
@[simp] theorem State.setPowered_drc (s : State) (x : Bool) : (s.setPowered x).drc = s.drc := rfl
@[simp] theorem State.setPowered_wnc (s : State) (x : Bool) : (s.setPowered x).wnc = s.wnc := rfl
@[simp] theorem State.setPowered_lmp (s : State) (x : Bool) : (s.setPowered x).lmp = s.lmp := rfl
@[simp] theorem State.setPowered_sst (s : State) (x : Bool) : (s.setPowered x).sst = s.sst := rfl

@[simp] theorem State.setStoreLock_pending (s : State) (x : Bool) : (s.setStoreLock x).pending = s.pending := rfl
@[simp] theorem State.setStoreLock_powered (s : State) (x : Bool) : (s.setStoreLock x).powered = s.powered := rfl
@[simp] theorem State.setStoreLock_storeLock (s : State) (x : Bool) : (s.setStoreLock x).storeLock = x := rfl
@[simp] theorem State.setStoreLock_link (s : State) (x : Bool) : (s.setStoreLock x).link = s.link := rfl
@[simp] theorem State.setStoreLock_intent (s : State) (x : Bool) : (s.setStoreLock x).intent = s.intent := rfl
@[simp] theorem State.setStoreLock_mdc (s : State) (x : Bool) : (s.setStoreLock x).mdc = s.mdc := rfl
@[simp] theorem State.setStoreLock_pkm (s : State) (x : Bool) : (s.setStoreLock x).pkm = s.pkm := rfl
@[simp] theorem State.setStoreLock_cau (s : State) (x : Bool) : (s.setStoreLock x).cau = s.cau := rfl
@[simp] theorem State.setStoreLock_stc (s : State) (x : Bool) : (s.setStoreLock x).stc = s.stc := rfl
@[simp] theorem State.setStoreLock_tse (s : State) (x : Bool) : (s.setStoreLock x).tse = s.tse := rfl
@[simp] theorem State.setStoreLock_drc (s : State) (x : Bool) : (s.setStoreLock x).drc = s.drc := rfl
@[simp] theorem State.setStoreLock_wnc (s : State) (x : Bool) : (s.setStoreLock x).wnc = s.wnc := rfl
@[simp] theorem State.setStoreLock_lmp (s : State) (x : Bool) : (s.setStoreLock x).lmp = s.lmp := rfl
@[simp] theorem State.setStoreLock_sst (s : State) (x : Bool) : (s.setStoreLock x).sst = s.sst := rfl

@[simp] theorem State.setLink_pending (s : State) (x : Link) : (s.setLink x).pending = s.pending := rfl
@[simp] theorem State.setLink_powered (s : State) (x : Link) : (s.setLink x).powered = s.powered := rfl
@[simp] theorem State.setLink_storeLock (s : State) (x : Link) : (s.setLink x).storeLock = s.storeLock := rfl
@[simp] theorem State.setLink_link (s : State) (x : Link) : (s.setLink x).link = x := rfl
@[simp] theorem State.setLink_intent (s : State) (x : Link) : (s.setLink x).intent = s.intent := rfl
@[simp] theorem State.setLink_mdc (s : State) (x : Link) : (s.setLink x).mdc = s.mdc := rfl
@[simp] theorem State.setLink_pkm (s : State) (x : Link) : (s.setLink x).pkm = s.pkm := rfl
@[simp] theorem State.setLink_cau (s : State) (x : Link) : (s.setLink x).cau = s.cau := rfl
@[simp] theorem State.setLink_stc (s : State) (x : Link) : (s.setLink x).stc = s.stc := rfl
@[simp] theorem State.setLink_tse (s : State) (x : Link) : (s.setLink x).tse = s.tse := rfl
@[simp] theorem State.setLink_drc (s : State) (x : Link) : (s.setLink x).drc = s.drc := rfl
@[simp] theorem State.setLink_wnc (s : State) (x : Link) : (s.setLink x).wnc = s.wnc := rfl
@[simp] theorem State.setLink_lmp (s : State) (x : Link) : (s.setLink x).lmp = s.lmp := rfl
@[simp] theorem State.setLink_sst (s : State) (x : Link) : (s.setLink x).sst = s.sst := rfl

@[simp] theorem State.setIntent_pending (s : State) (x : Intent) : (s.setIntent x).pending = s.pending := rfl
@[simp] theorem State.setIntent_powered (s : State) (x : Intent) : (s.setIntent x).powered = s.powered := rfl
@[simp] theorem State.setIntent_storeLock (s : State) (x : Intent) : (s.setIntent x).storeLock = s.storeLock := rfl
@[simp] theorem State.setIntent_link (s : State) (x : Intent) : (s.setIntent x).link = s.link := rfl
@[simp] theorem State.setIntent_intent (s : State) (x : Intent) : (s.setIntent x).intent = x := rfl
@[simp] theorem State.setIntent_mdc (s : State) (x : Intent) : (s.setIntent x).mdc = s.mdc := rfl
@[simp] theorem State.setIntent_pkm (s : State) (x : Intent) : (s.setIntent x).pkm = s.pkm := rfl
@[simp] theorem State.setIntent_cau (s : State) (x : Intent) : (s.setIntent x).cau = s.cau := rfl
@[simp] theorem State.setIntent_stc (s : State) (x : Intent) : (s.setIntent x).stc = s.stc := rfl
@[simp] theorem State.setIntent_tse (s : State) (x : Intent) : (s.setIntent x).tse = s.tse := rfl
@[simp] theorem State.setIntent_drc (s : State) (x : Intent) : (s.setIntent x).drc = s.drc := rfl
@[simp] theorem State.setIntent_wnc (s : State) (x : Intent) : (s.setIntent x).wnc = s.wnc := rfl
@[simp] theorem State.setIntent_lmp (s : State) (x : Intent) : (s.setIntent x).lmp = s.lmp := rfl
@[simp] theorem State.setIntent_sst (s : State) (x : Intent) : (s.setIntent x).sst = s.sst := rfl

@[simp] theorem State.setMdc_pending (s : State) (x : Mdc) : (s.setMdc x).pending = s.pending := rfl
@[simp] theorem State.setMdc_powered (s : State) (x : Mdc) : (s.setMdc x).powered = s.powered := rfl
@[simp] theorem State.setMdc_storeLock (s : State) (x : Mdc) : (s.setMdc x).storeLock = s.storeLock := rfl
@[simp] theorem State.setMdc_link (s : State) (x : Mdc) : (s.setMdc x).link = s.link := rfl
@[simp] theorem State.setMdc_intent (s : State) (x : Mdc) : (s.setMdc x).intent = s.intent := rfl
@[simp] theorem State.setMdc_mdc (s : State) (x : Mdc) : (s.setMdc x).mdc = x := rfl
@[simp] theorem State.setMdc_pkm (s : State) (x : Mdc) : (s.setMdc x).pkm = s.pkm := rfl
@[simp] theorem State.setMdc_cau (s : State) (x : Mdc) : (s.setMdc x).cau = s.cau := rfl
@[simp] theorem State.setMdc_stc (s : State) (x : Mdc) : (s.setMdc x).stc = s.stc := rfl
@[simp] theorem State.setMdc_tse (s : State) (x : Mdc) : (s.setMdc x).tse = s.tse := rfl
@[simp] theorem State.setMdc_drc (s : State) (x : Mdc) : (s.setMdc x).drc = s.drc := rfl
@[simp] theorem State.setMdc_wnc (s : State) (x : Mdc) : (s.setMdc x).wnc = s.wnc := rfl
@[simp] theorem State.setMdc_lmp (s : State) (x : Mdc) : (s.setMdc x).lmp = s.lmp := rfl
@[simp] theorem State.setMdc_sst (s : State) (x : Mdc) : (s.setMdc x).sst = s.sst := rfl

@[simp] theorem State.setPkm_pending (s : State) (x : Pkm) : (s.setPkm x).pending = s.pending := rfl
@[simp] theorem State.setPkm_powered (s : State) (x : Pkm) : (s.setPkm x).powered = s.powered := rfl
@[simp] theorem State.setPkm_storeLock (s : State) (x : Pkm) : (s.setPkm x).storeLock = s.storeLock := rfl
@[simp] theorem State.setPkm_link (s : State) (x : Pkm) : (s.setPkm x).link = s.link := rfl
@[simp] theorem State.setPkm_intent (s : State) (x : Pkm) : (s.setPkm x).intent = s.intent := rfl
@[simp] theorem State.setPkm_mdc (s : State) (x : Pkm) : (s.setPkm x).mdc = s.mdc := rfl
@[simp] theorem State.setPkm_pkm (s : State) (x : Pkm) : (s.setPkm x).pkm = x := rfl
@[simp] theorem State.setPkm_cau (s : State) (x : Pkm) : (s.setPkm x).cau = s.cau := rfl
@[simp] theorem State.setPkm_stc (s : State) (x : Pkm) : (s.setPkm x).stc = s.stc := rfl
@[simp] theorem State.setPkm_tse (s : State) (x : Pkm) : (s.setPkm x).tse = s.tse := rfl
@[simp] theorem State.setPkm_drc (s : State) (x : Pkm) : (s.setPkm x).drc = s.drc := rfl
@[simp] theorem State.setPkm_wnc (s : State) (x : Pkm) : (s.setPkm x).wnc = s.wnc := rfl
@[simp] theorem State.setPkm_lmp (s : State) (x : Pkm) : (s.setPkm x).lmp = s.lmp := rfl
@[simp] theorem State.setPkm_sst (s : State) (x : Pkm) : (s.setPkm x).sst = s.sst := rfl

@[simp] theorem State.setCau_pending (s : State) (x : Cau) : (s.setCau x).pending = s.pending := rfl
@[simp] theorem State.setCau_powered (s : State) (x : Cau) : (s.setCau x).powered = s.powered := rfl
@[simp] theorem State.setCau_storeLock (s : State) (x : Cau) : (s.setCau x).storeLock = s.storeLock := rfl
@[simp] theorem State.setCau_link (s : State) (x : Cau) : (s.setCau x).link = s.link := rfl
@[simp] theorem State.setCau_intent (s : State) (x : Cau) : (s.setCau x).intent = s.intent := rfl
@[simp] theorem State.setCau_mdc (s : State) (x : Cau) : (s.setCau x).mdc = s.mdc := rfl
@[simp] theorem State.setCau_pkm (s : State) (x : Cau) : (s.setCau x).pkm = s.pkm := rfl
@[simp] theorem State.setCau_cau (s : State) (x : Cau) : (s.setCau x).cau = x := rfl
@[simp] theorem State.setCau_stc (s : State) (x : Cau) : (s.setCau x).stc = s.stc := rfl
@[simp] theorem State.setCau_tse (s : State) (x : Cau) : (s.setCau x).tse = s.tse := rfl
@[simp] theorem State.setCau_drc (s : State) (x : Cau) : (s.setCau x).drc = s.drc := rfl
@[simp] theorem State.setCau_wnc (s : State) (x : Cau) : (s.setCau x).wnc = s.wnc := rfl
@[simp] theorem State.setCau_lmp (s : State) (x : Cau) : (s.setCau x).lmp = s.lmp := rfl
@[simp] theorem State.setCau_sst (s : State) (x : Cau) : (s.setCau x).sst = s.sst := rfl

@[simp] theorem State.setStc_pending (s : State) (x : Stc) : (s.setStc x).pending = s.pending := rfl
@[simp] theorem State.setStc_powered (s : State) (x : Stc) : (s.setStc x).powered = s.powered := rfl
@[simp] theorem State.setStc_storeLock (s : State) (x : Stc) : (s.setStc x).storeLock = s.storeLock := rfl
@[simp] theorem State.setStc_link (s : State) (x : Stc) : (s.setStc x).link = s.link := rfl
@[simp] theorem State.setStc_intent (s : State) (x : Stc) : (s.setStc x).intent = s.intent := rfl
@[simp] theorem State.setStc_mdc (s : State) (x : Stc) : (s.setStc x).mdc = s.mdc := rfl
@[simp] theorem State.setStc_pkm (s : State) (x : Stc) : (s.setStc x).pkm = s.pkm := rfl
@[simp] theorem State.setStc_cau (s : State) (x : Stc) : (s.setStc x).cau = s.cau := rfl
@[simp] theorem State.setStc_stc (s : State) (x : Stc) : (s.setStc x).stc = x := rfl
@[simp] theorem State.setStc_tse (s : State) (x : Stc) : (s.setStc x).tse = s.tse := rfl
@[simp] theorem State.setStc_drc (s : State) (x : Stc) : (s.setStc x).drc = s.drc := rfl
@[simp] theorem State.setStc_wnc (s : State) (x : Stc) : (s.setStc x).wnc = s.wnc := rfl
@[simp] theorem State.setStc_lmp (s : State) (x : Stc) : (s.setStc x).lmp = s.lmp := rfl
@[simp] theorem State.setStc_sst (s : State) (x : Stc) : (s.setStc x).sst = s.sst := rfl

@[simp] theorem State.setTse_pending (s : State) (x : Tse) : (s.setTse x).pending = s.pending := rfl
@[simp] theorem State.setTse_powered (s : State) (x : Tse) : (s.setTse x).powered = s.powered := rfl
@[simp] theorem State.setTse_storeLock (s : State) (x : Tse) : (s.setTse x).storeLock = s.storeLock := rfl
@[simp] theorem State.setTse_link (s : State) (x : Tse) : (s.setTse x).link = s.link := rfl
@[simp] theorem State.setTse_intent (s : State) (x : Tse) : (s.setTse x).intent = s.intent := rfl
@[simp] theorem State.setTse_mdc (s : State) (x : Tse) : (s.setTse x).mdc = s.mdc := rfl
@[simp] theorem State.setTse_pkm (s : State) (x : Tse) : (s.setTse x).pkm = s.pkm := rfl
@[simp] theorem State.setTse_cau (s : State) (x : Tse) : (s.setTse x).cau = s.cau := rfl
@[simp] theorem State.setTse_stc (s : State) (x : Tse) : (s.setTse x).stc = s.stc := rfl
@[simp] theorem State.setTse_tse (s : State) (x : Tse) : (s.setTse x).tse = x := rfl
@[simp] theorem State.setTse_drc (s : State) (x : Tse) : (s.setTse x).drc = s.drc := rfl
@[simp] theorem State.setTse_wnc (s : State) (x : Tse) : (s.setTse x).wnc = s.wnc := rfl
@[simp] theorem State.setTse_lmp (s : State) (x : Tse) : (s.setTse x).lmp = s.lmp := rfl
@[simp] theorem State.setTse_sst (s : State) (x : Tse) : (s.setTse x).sst = s.sst := rfl

@[simp] theorem State.setDrc_pending (s : State) (x : Drc) : (s.setDrc x).pending = s.pending := rfl
@[simp] theorem State.setDrc_powered (s : State) (x : Drc) : (s.setDrc x).powered = s.powered := rfl
@[simp] theorem State.setDrc_storeLock (s : State) (x : Drc) : (s.setDrc x).storeLock = s.storeLock := rfl
@[simp] theorem State.setDrc_link (s : State) (x : Drc) : (s.setDrc x).link = s.link := rfl
@[simp] theorem State.setDrc_intent (s : State) (x : Drc) : (s.setDrc x).intent = s.intent := rfl
@[simp] theorem State.setDrc_mdc (s : State) (x : Drc) : (s.setDrc x).mdc = s.mdc := rfl
@[simp] theorem State.setDrc_pkm (s : State) (x : Drc) : (s.setDrc x).pkm = s.pkm := rfl
@[simp] theorem State.setDrc_cau (s : State) (x : Drc) : (s.setDrc x).cau = s.cau := rfl
@[simp] theorem State.setDrc_stc (s : State) (x : Drc) : (s.setDrc x).stc = s.stc := rfl
@[simp] theorem State.setDrc_tse (s : State) (x : Drc) : (s.setDrc x).tse = s.tse := rfl
@[simp] theorem State.setDrc_drc (s : State) (x : Drc) : (s.setDrc x).drc = x := rfl
@[simp] theorem State.setDrc_wnc (s : State) (x : Drc) : (s.setDrc x).wnc = s.wnc := rfl
@[simp] theorem State.setDrc_lmp (s : State) (x : Drc) : (s.setDrc x).lmp = s.lmp := rfl
@[simp] theorem State.setDrc_sst (s : State) (x : Drc) : (s.setDrc x).sst = s.sst := rfl

@[simp] theorem State.setWnc_pending (s : State) (x : Wnc) : (s.setWnc x).pending = s.pending := rfl
@[simp] theorem State.setWnc_powered (s : State) (x : Wnc) : (s.setWnc x).powered = s.powered := rfl
@[simp] theorem State.setWnc_storeLock (s : State) (x : Wnc) : (s.setWnc x).storeLock = s.storeLock := rfl
@[simp] theorem State.setWnc_link (s : State) (x : Wnc) : (s.setWnc x).link = s.link := rfl
@[simp] theorem State.setWnc_intent (s : State) (x : Wnc) : (s.setWnc x).intent = s.intent := rfl
@[simp] theorem State.setWnc_mdc (s : State) (x : Wnc) : (s.setWnc x).mdc = s.mdc := rfl
@[simp] theorem State.setWnc_pkm (s : State) (x : Wnc) : (s.setWnc x).pkm = s.pkm := rfl
@[simp] theorem State.setWnc_cau (s : State) (x : Wnc) : (s.setWnc x).cau = s.cau := rfl
@[simp] theorem State.setWnc_stc (s : State) (x : Wnc) : (s.setWnc x).stc = s.stc := rfl
@[simp] theorem State.setWnc_tse (s : State) (x : Wnc) : (s.setWnc x).tse = s.tse := rfl
@[simp] theorem State.setWnc_drc (s : State) (x : Wnc) : (s.setWnc x).drc = s.drc := rfl
@[simp] theorem State.setWnc_wnc (s : State) (x : Wnc) : (s.setWnc x).wnc = x := rfl
@[simp] theorem State.setWnc_lmp (s : State) (x : Wnc) : (s.setWnc x).lmp = s.lmp := rfl
@[simp] theorem State.setWnc_sst (s : State) (x : Wnc) : (s.setWnc x).sst = s.sst := rfl

@[simp] theorem State.setLmp_pending (s : State) (x : Lmp) : (s.setLmp x).pending = s.pending := rfl
@[simp] theorem State.setLmp_powered (s : State) (x : Lmp) : (s.setLmp x).powered = s.powered := rfl
@[simp] theorem State.setLmp_storeLock (s : State) (x : Lmp) : (s.setLmp x).storeLock = s.storeLock := rfl
@[simp] theorem State.setLmp_link (s : State) (x : Lmp) : (s.setLmp x).link = s.link := rfl
@[simp] theorem State.setLmp_intent (s : State) (x : Lmp) : (s.setLmp x).intent = s.intent := rfl
@[simp] theorem State.setLmp_mdc (s : State) (x : Lmp) : (s.setLmp x).mdc = s.mdc := rfl
@[simp] theorem State.setLmp_pkm (s : State) (x : Lmp) : (s.setLmp x).pkm = s.pkm := rfl
@[simp] theorem State.setLmp_cau (s : State) (x : Lmp) : (s.setLmp x).cau = s.cau := rfl
@[simp] theorem State.setLmp_stc (s : State) (x : Lmp) : (s.setLmp x).stc = s.stc := rfl
@[simp] theorem State.setLmp_tse (s : State) (x : Lmp) : (s.setLmp x).tse = s.tse := rfl
@[simp] theorem State.setLmp_drc (s : State) (x : Lmp) : (s.setLmp x).drc = s.drc := rfl
@[simp] theorem State.setLmp_wnc (s : State) (x : Lmp) : (s.setLmp x).wnc = s.wnc := rfl
@[simp] theorem State.setLmp_lmp (s : State) (x : Lmp) : (s.setLmp x).lmp = x := rfl
@[simp] theorem State.setLmp_sst (s : State) (x : Lmp) : (s.setLmp x).sst = s.sst := rfl

@[simp] theorem State.setSst_pending (s : State) (x : Sst) : (s.setSst x).pending = s.pending := rfl
@[simp] theorem State.setSst_powered (s : State) (x : Sst) : (s.setSst x).powered = s.powered := rfl
@[simp] theorem State.setSst_storeLock (s : State) (x : Sst) : (s.setSst x).storeLock = s.storeLock := rfl
@[simp] theorem State.setSst_link (s : State) (x : Sst) : (s.setSst x).link = s.link := rfl
@[simp] theorem State.setSst_intent (s : State) (x : Sst) : (s.setSst x).intent = s.intent := rfl
@[simp] theorem State.setSst_mdc (s : State) (x : Sst) : (s.setSst x).mdc = s.mdc := rfl
@[simp] theorem State.setSst_pkm (s : State) (x : Sst) : (s.setSst x).pkm = s.pkm := rfl
@[simp] theorem State.setSst_cau (s : State) (x : Sst) : (s.setSst x).cau = s.cau := rfl
@[simp] theorem State.setSst_stc (s : State) (x : Sst) : (s.setSst x).stc = s.stc := rfl
@[simp] theorem State.setSst_tse (s : State) (x : Sst) : (s.setSst x).tse = s.tse := rfl
@[simp] theorem State.setSst_drc (s : State) (x : Sst) : (s.setSst x).drc = s.drc := rfl
@[simp] theorem State.setSst_wnc (s : State) (x : Sst) : (s.setSst x).wnc = s.wnc := rfl
@[simp] theorem State.setSst_lmp (s : State) (x : Sst) : (s.setSst x).lmp = s.lmp := rfl
@[simp] theorem State.setSst_sst (s : State) (x : Sst) : (s.setSst x).sst = x := rfl

@[simp] theorem State.raise_pending (s : State) (n : Notice) : (s.raise n).pending = s.pending := rfl
@[simp] theorem State.raise_powered (s : State) (n : Notice) : (s.raise n).powered = s.powered := rfl
@[simp] theorem State.raise_storeLock (s : State) (n : Notice) : (s.raise n).storeLock = s.storeLock := rfl
@[simp] theorem State.raise_intent (s : State) (n : Notice) : (s.raise n).intent = s.intent := rfl
@[simp] theorem State.raise_mdc (s : State) (n : Notice) : (s.raise n).mdc = s.mdc := rfl
@[simp] theorem State.raise_pkm (s : State) (n : Notice) : (s.raise n).pkm = s.pkm := rfl
@[simp] theorem State.raise_cau (s : State) (n : Notice) : (s.raise n).cau = s.cau := rfl
@[simp] theorem State.raise_stc (s : State) (n : Notice) : (s.raise n).stc = s.stc := rfl
@[simp] theorem State.raise_tse (s : State) (n : Notice) : (s.raise n).tse = s.tse := rfl
@[simp] theorem State.raise_drc (s : State) (n : Notice) : (s.raise n).drc = s.drc := rfl
@[simp] theorem State.raise_wnc (s : State) (n : Notice) : (s.raise n).wnc = s.wnc := rfl
@[simp] theorem State.raise_lmp (s : State) (n : Notice) : (s.raise n).lmp = s.lmp := rfl
@[simp] theorem State.raise_sst (s : State) (n : Notice) : (s.raise n).sst = s.sst := rfl

@[simp] theorem State.drop_pending (s : State) (w : DropReason) : (s.drop w).pending = s.pending := rfl
@[simp] theorem State.drop_powered (s : State) (w : DropReason) : (s.drop w).powered = s.powered := rfl
@[simp] theorem State.drop_storeLock (s : State) (w : DropReason) : (s.drop w).storeLock = s.storeLock := rfl
@[simp] theorem State.drop_intent (s : State) (w : DropReason) : (s.drop w).intent = s.intent := rfl
@[simp] theorem State.drop_mdc (s : State) (w : DropReason) : (s.drop w).mdc = s.mdc := rfl
@[simp] theorem State.drop_pkm (s : State) (w : DropReason) : (s.drop w).pkm = s.pkm := rfl
@[simp] theorem State.drop_cau (s : State) (w : DropReason) : (s.drop w).cau = s.cau := rfl
@[simp] theorem State.drop_stc (s : State) (w : DropReason) : (s.drop w).stc = s.stc := rfl
@[simp] theorem State.drop_tse (s : State) (w : DropReason) : (s.drop w).tse = s.tse := rfl
@[simp] theorem State.drop_drc (s : State) (w : DropReason) : (s.drop w).drc = s.drc := rfl
@[simp] theorem State.drop_wnc (s : State) (w : DropReason) : (s.drop w).wnc = s.wnc := rfl
@[simp] theorem State.drop_lmp (s : State) (w : DropReason) : (s.drop w).lmp = s.lmp := rfl
@[simp] theorem State.drop_sst (s : State) (w : DropReason) : (s.drop w).sst = s.sst := rfl

@[simp] theorem State.answer_pending (s : State) (q : RawRequest) (p : List Byte) : (s.answer q p).pending = s.pending := rfl
@[simp] theorem State.answer_powered (s : State) (q : RawRequest) (p : List Byte) : (s.answer q p).powered = s.powered := rfl
@[simp] theorem State.answer_storeLock (s : State) (q : RawRequest) (p : List Byte) : (s.answer q p).storeLock = s.storeLock := rfl
@[simp] theorem State.answer_intent (s : State) (q : RawRequest) (p : List Byte) : (s.answer q p).intent = s.intent := rfl
@[simp] theorem State.answer_mdc (s : State) (q : RawRequest) (p : List Byte) : (s.answer q p).mdc = s.mdc := rfl
@[simp] theorem State.answer_pkm (s : State) (q : RawRequest) (p : List Byte) : (s.answer q p).pkm = s.pkm := rfl
@[simp] theorem State.answer_cau (s : State) (q : RawRequest) (p : List Byte) : (s.answer q p).cau = s.cau := rfl
@[simp] theorem State.answer_stc (s : State) (q : RawRequest) (p : List Byte) : (s.answer q p).stc = s.stc := rfl
@[simp] theorem State.answer_tse (s : State) (q : RawRequest) (p : List Byte) : (s.answer q p).tse = s.tse := rfl
@[simp] theorem State.answer_drc (s : State) (q : RawRequest) (p : List Byte) : (s.answer q p).drc = s.drc := rfl
@[simp] theorem State.answer_wnc (s : State) (q : RawRequest) (p : List Byte) : (s.answer q p).wnc = s.wnc := rfl
@[simp] theorem State.answer_lmp (s : State) (q : RawRequest) (p : List Byte) : (s.answer q p).lmp = s.lmp := rfl
@[simp] theorem State.answer_sst (s : State) (q : RawRequest) (p : List Byte) : (s.answer q p).sst = s.sst := rfl

@[simp] theorem State.ok_pending (s : State) (q : RawRequest) (p : List Byte) : (s.ok q p).pending = s.pending := rfl
@[simp] theorem State.ok_powered (s : State) (q : RawRequest) (p : List Byte) : (s.ok q p).powered = s.powered := rfl
@[simp] theorem State.ok_storeLock (s : State) (q : RawRequest) (p : List Byte) : (s.ok q p).storeLock = s.storeLock := rfl
@[simp] theorem State.ok_intent (s : State) (q : RawRequest) (p : List Byte) : (s.ok q p).intent = s.intent := rfl
@[simp] theorem State.ok_mdc (s : State) (q : RawRequest) (p : List Byte) : (s.ok q p).mdc = s.mdc := rfl
@[simp] theorem State.ok_pkm (s : State) (q : RawRequest) (p : List Byte) : (s.ok q p).pkm = s.pkm := rfl
@[simp] theorem State.ok_cau (s : State) (q : RawRequest) (p : List Byte) : (s.ok q p).cau = s.cau := rfl
@[simp] theorem State.ok_stc (s : State) (q : RawRequest) (p : List Byte) : (s.ok q p).stc = s.stc := rfl
@[simp] theorem State.ok_tse (s : State) (q : RawRequest) (p : List Byte) : (s.ok q p).tse = s.tse := rfl
@[simp] theorem State.ok_drc (s : State) (q : RawRequest) (p : List Byte) : (s.ok q p).drc = s.drc := rfl
@[simp] theorem State.ok_wnc (s : State) (q : RawRequest) (p : List Byte) : (s.ok q p).wnc = s.wnc := rfl
@[simp] theorem State.ok_lmp (s : State) (q : RawRequest) (p : List Byte) : (s.ok q p).lmp = s.lmp := rfl
@[simp] theorem State.ok_sst (s : State) (q : RawRequest) (p : List Byte) : (s.ok q p).sst = s.sst := rfl

@[simp] theorem State.refuse_pending (s : State) (q : RawRequest) (w : Status) : (s.refuse q w).pending = s.pending := rfl
@[simp] theorem State.refuse_powered (s : State) (q : RawRequest) (w : Status) : (s.refuse q w).powered = s.powered := rfl
@[simp] theorem State.refuse_storeLock (s : State) (q : RawRequest) (w : Status) : (s.refuse q w).storeLock = s.storeLock := rfl
@[simp] theorem State.refuse_intent (s : State) (q : RawRequest) (w : Status) : (s.refuse q w).intent = s.intent := rfl
@[simp] theorem State.refuse_mdc (s : State) (q : RawRequest) (w : Status) : (s.refuse q w).mdc = s.mdc := rfl
@[simp] theorem State.refuse_pkm (s : State) (q : RawRequest) (w : Status) : (s.refuse q w).pkm = s.pkm := rfl
@[simp] theorem State.refuse_cau (s : State) (q : RawRequest) (w : Status) : (s.refuse q w).cau = s.cau := rfl
@[simp] theorem State.refuse_stc (s : State) (q : RawRequest) (w : Status) : (s.refuse q w).stc = s.stc := rfl
@[simp] theorem State.refuse_tse (s : State) (q : RawRequest) (w : Status) : (s.refuse q w).tse = s.tse := rfl
@[simp] theorem State.refuse_drc (s : State) (q : RawRequest) (w : Status) : (s.refuse q w).drc = s.drc := rfl
@[simp] theorem State.refuse_wnc (s : State) (q : RawRequest) (w : Status) : (s.refuse q w).wnc = s.wnc := rfl
@[simp] theorem State.refuse_lmp (s : State) (q : RawRequest) (w : Status) : (s.refuse q w).lmp = s.lmp := rfl
@[simp] theorem State.refuse_sst (s : State) (q : RawRequest) (w : Status) : (s.refuse q w).sst = s.sst := rfl

@[simp] theorem State.refuseWith_pending (s : State) (q : RawRequest) (w : Status) (r : Nat) : (s.refuseWith q w r).pending = s.pending := rfl
@[simp] theorem State.refuseWith_powered (s : State) (q : RawRequest) (w : Status) (r : Nat) : (s.refuseWith q w r).powered = s.powered := rfl
@[simp] theorem State.refuseWith_storeLock (s : State) (q : RawRequest) (w : Status) (r : Nat) : (s.refuseWith q w r).storeLock = s.storeLock := rfl
@[simp] theorem State.refuseWith_intent (s : State) (q : RawRequest) (w : Status) (r : Nat) : (s.refuseWith q w r).intent = s.intent := rfl
@[simp] theorem State.refuseWith_mdc (s : State) (q : RawRequest) (w : Status) (r : Nat) : (s.refuseWith q w r).mdc = s.mdc := rfl
@[simp] theorem State.refuseWith_pkm (s : State) (q : RawRequest) (w : Status) (r : Nat) : (s.refuseWith q w r).pkm = s.pkm := rfl
@[simp] theorem State.refuseWith_cau (s : State) (q : RawRequest) (w : Status) (r : Nat) : (s.refuseWith q w r).cau = s.cau := rfl
@[simp] theorem State.refuseWith_stc (s : State) (q : RawRequest) (w : Status) (r : Nat) : (s.refuseWith q w r).stc = s.stc := rfl
@[simp] theorem State.refuseWith_tse (s : State) (q : RawRequest) (w : Status) (r : Nat) : (s.refuseWith q w r).tse = s.tse := rfl
@[simp] theorem State.refuseWith_drc (s : State) (q : RawRequest) (w : Status) (r : Nat) : (s.refuseWith q w r).drc = s.drc := rfl
@[simp] theorem State.refuseWith_wnc (s : State) (q : RawRequest) (w : Status) (r : Nat) : (s.refuseWith q w r).wnc = s.wnc := rfl
@[simp] theorem State.refuseWith_lmp (s : State) (q : RawRequest) (w : Status) (r : Nat) : (s.refuseWith q w r).lmp = s.lmp := rfl
@[simp] theorem State.refuseWith_sst (s : State) (q : RawRequest) (w : Status) (r : Nat) : (s.refuseWith q w r).sst = s.sst := rfl

end Sys2Proof.Machine
end

