-- ==== Sys2Proof/Laws/Link.lean ====
section
/-! SUPPORT. What the shared link operations do: the fields they leave, the frames they send, and the drop. -/
namespace Sys2Proof.Machine

/-! ## What the transmitter's choice leaves -/

@[simp] theorem Link.kick_rx (l : Link) : l.kick.rx = l.rx := by
  unfold Link.kick; (repeat' split) <;> rfl

@[simp] theorem Link.kick_gapMs (l : Link) : l.kick.gapMs = l.gapMs := by
  unfold Link.kick; (repeat' split) <;> rfl

@[simp] theorem Link.kick_waiting (l : Link) : l.kick.waiting = l.waiting := by
  unfold Link.kick; (repeat' split) <;> rfl

@[simp] theorem Link.kick_slots (l : Link) : l.kick.slots = l.slots := by
  unfold Link.kick; (repeat' split) <;> rfl

@[simp] theorem Link.kick_held (l : Link) : l.kick.held = l.held := by
  unfold Link.kick; (repeat' split) <;> rfl

@[simp] theorem Link.kick_loadMs (l : Link) : l.kick.loadMs = l.loadMs := by
  unfold Link.kick; (repeat' split) <;> rfl

@[simp] theorem Link.kick_resetting (l : Link) : l.kick.resetting = l.resetting := by
  unfold Link.kick; (repeat' split) <;> rfl

@[simp] theorem Link.kick_lastDrop (l : Link) : l.kick.lastDrop = l.lastDrop := by
  unfold Link.kick; (repeat' split) <;> rfl

/-! ## What a raised notice, a reply and a drop leave -/

@[simp] theorem Link.raise_rx (l : Link) (b : Bool) (n : Notice) : (l.raise b n).rx = l.rx := by
  unfold Link.raise; split <;> simp

@[simp] theorem Link.answer_rx (l : Link) (r : TxFrame) : (l.answer r).rx = l.rx := by simp [Link.answer]

@[simp] theorem Link.drop_rx (l : Link) (b : Bool) (w : DropReason) : (l.drop b w).rx = l.rx := by
  simp [Link.drop]

@[simp] theorem Link.raise_gapMs (l : Link) (b : Bool) (n : Notice) : (l.raise b n).gapMs = l.gapMs := by
  unfold Link.raise; split <;> simp

@[simp] theorem Link.answer_gapMs (l : Link) (r : TxFrame) : (l.answer r).gapMs = l.gapMs := by simp [Link.answer]

@[simp] theorem Link.drop_gapMs (l : Link) (b : Bool) (w : DropReason) : (l.drop b w).gapMs = l.gapMs := by
  simp [Link.drop]

@[simp] theorem Link.raise_waiting (l : Link) (b : Bool) (n : Notice) : (l.raise b n).waiting = l.waiting := by
  unfold Link.raise; split <;> simp

@[simp] theorem Link.answer_waiting (l : Link) (r : TxFrame) : (l.answer r).waiting = l.waiting := by simp [Link.answer]

@[simp] theorem Link.drop_waiting (l : Link) (b : Bool) (w : DropReason) : (l.drop b w).waiting = l.waiting := by
  simp [Link.drop]

@[simp] theorem Link.raise_slots (l : Link) (b : Bool) (n : Notice) : (l.raise b n).slots = l.slots := by
  unfold Link.raise; split <;> simp

@[simp] theorem Link.answer_slots (l : Link) (r : TxFrame) : (l.answer r).slots = l.slots := by simp [Link.answer]

@[simp] theorem Link.drop_slots (l : Link) (b : Bool) (w : DropReason) : (l.drop b w).slots = l.slots := by
  simp [Link.drop]

@[simp] theorem Link.raise_held (l : Link) (b : Bool) (n : Notice) : (l.raise b n).held = l.held := by
  unfold Link.raise; split <;> simp

@[simp] theorem Link.answer_held (l : Link) (r : TxFrame) : (l.answer r).held = l.held := by simp [Link.answer]

@[simp] theorem Link.drop_held (l : Link) (b : Bool) (w : DropReason) : (l.drop b w).held = l.held := by
  simp [Link.drop]

@[simp] theorem Link.raise_loadMs (l : Link) (b : Bool) (n : Notice) : (l.raise b n).loadMs = l.loadMs := by
  unfold Link.raise; split <;> simp

@[simp] theorem Link.answer_loadMs (l : Link) (r : TxFrame) : (l.answer r).loadMs = l.loadMs := by simp [Link.answer]

@[simp] theorem Link.drop_loadMs (l : Link) (b : Bool) (w : DropReason) : (l.drop b w).loadMs = l.loadMs := by
  simp [Link.drop]

@[simp] theorem Link.raise_resetting (l : Link) (b : Bool) (n : Notice) : (l.raise b n).resetting = l.resetting := by
  unfold Link.raise; split <;> simp

@[simp] theorem Link.answer_resetting (l : Link) (r : TxFrame) : (l.answer r).resetting = l.resetting := by simp [Link.answer]

@[simp] theorem Link.drop_resetting (l : Link) (b : Bool) (w : DropReason) : (l.drop b w).resetting = l.resetting := by
  simp [Link.drop]

@[simp] theorem Link.raise_lastDrop (l : Link) (b : Bool) (n : Notice) : (l.raise b n).lastDrop = l.lastDrop := by
  unfold Link.raise; split <;> simp

@[simp] theorem Link.answer_lastDrop (l : Link) (r : TxFrame) : (l.answer r).lastDrop = l.lastDrop := by
  simp [Link.answer]

@[simp] theorem Link.drop_lastDrop (l : Link) (b : Bool) (w : DropReason) : (l.drop b w).lastDrop = some w := by
  unfold Link.drop Link.raise; split <;> simp

/-! ## The pending notice set (R10) -/

/-- An entered notice is the pending one of its kind. -/
@[simp] theorem NoticeSet.get_put_self (t : NoticeSet) (n : Notice) : (t.put n).get n.kind = some n := by
  cases n <;> rfl

/-- An entered notice leaves those of the other kinds. -/
theorem NoticeSet.get_put_other (t : NoticeSet) {n : Notice} {k : NoticeKind} (h : k ≠ n.kind) :
    (t.put n).get k = t.get k := by
  cases n <;> cases k <;> first | rfl | exact absurd rfl h

/-- What is kept is the pending notice of each kind that passes the test. -/
@[simp] theorem NoticeSet.get_keep (p : NoticeKind → Bool) (t : NoticeSet) (k : NoticeKind) :
    (t.keep p).get k = if p k then t.get k else none := by
  cases k <;> simp only [NoticeSet.keep, NoticeSet.get] <;> split <;> simp

/-! ## Frames on their way -/

/-- Producing a reply leaves every pending notice: a reply has priority (R11). -/
@[simp] theorem Link.answer_notices (l : Link) (r : TxFrame) : (l.answer r).notices = l.notices := by
  cases h : l.tx <;> cases hr : l.replies <;> simp [Link.answer, Link.kick, h, hr]

/-- Once a reply has been produced the transmitter is sending. -/
theorem Link.answer_busy (l : Link) (r : TxFrame) : ∃ f, (l.answer r).tx = some f := by
  cases h : l.tx <;> cases hr : l.replies <;> simp [Link.answer, Link.kick, h, hr]

/-- A reply goes behind every frame on its way. -/
theorem Link.answer_outgoing (l : Link) (r : TxFrame) : (l.answer r).outgoing = l.outgoing ++ [r] := by
  unfold Link.answer Link.kick Link.outgoing
  cases h : l.tx with
  | some f => simp
  | none =>
    cases hr : l.replies with
    | nil => simp
    | cons a rest => simp

/-- A notice's kind lies above the reply kinds. -/
theorem Notice.frame_kind (n : Notice) : 0xC0 < n.frame.kind.toNat := by
  have code : ∀ k : NoticeKind, 0xC0 < k.code.toNat := by intro k; cases k <;> decide
  exact code n.kind

/-- The lowest pending notice is sent by an idle transmitter only: at most one notice joins the frames on their way,
behind them. -/
theorem Link.kick_outgoing (l : Link) :
    ∃ ahead : List TxFrame,
      l.kick.outgoing = l.outgoing ++ ahead ∧ ahead.length ≤ 1 ∧ ∀ f ∈ ahead, 0xC0 < f.kind.toNat := by
  unfold Link.kick Link.outgoing
  cases h : l.tx with
  | some f => exact ⟨[], by simp [h], by simp, by simp⟩
  | none =>
    cases hr : l.replies with
    | cons a rest => exact ⟨[], by simp, by simp, by simp⟩
    | nil =>
      cases hn : l.notices.lowest with
      | none => exact ⟨[], by simp [h, hr], by simp, by simp⟩
      | some n => exact ⟨[n.frame], by simp, by simp, by simpa using n.frame_kind⟩

/-- A raised notice adds at most one notice behind the frames on their way. -/
theorem Link.raise_outgoing (l : Link) (b : Bool) (n : Notice) :
    ∃ ahead : List TxFrame,
      (l.raise b n).outgoing = l.outgoing ++ ahead ∧ ahead.length ≤ 1 ∧ ∀ f ∈ ahead, 0xC0 < f.kind.toNat := by
  unfold Link.raise
  split
  · exact Link.kick_outgoing _
  · exact ⟨[], by simp, by simp, by simp⟩

/-- Behind a frame being sent, a notice is entered and nothing is taken. -/
theorem Link.raise_busy {l : Link} {f : TxFrame} (h : l.tx = some f) (n : Notice) :
    l.raise true n = { l with notices := l.notices.put n } := by
  simp [Link.raise, Link.kick, h]

/-- Behind a frame being sent, a drop counts, is recorded and raises its notice. -/
theorem Link.drop_busy {l : Link} {f : TxFrame} (h : l.tx = some f) (w : DropReason) :
    l.drop true w =
      { l with
        dropCount := min 255 (l.dropCount + 1), lastDrop := some w
        notices := l.notices.put (.link ⟨min 255 (l.dropCount + 1), w⟩) } := by
  unfold Link.drop
  rw [Link.raise_busy (f := f) (by simpa using h)]

/-- An idle transmitter with nothing to send takes a raised notice at once (R11). -/
theorem Link.raise_idle {l : Link} (tx : l.tx = none) (replies : l.replies = []) (none' : ∀ k, l.notices.get k = none)
    (n : Notice) : (l.raise true n).tx = some n.frame := by
  have only : ∀ k, (l.notices.put n).get k = if k = n.kind then some n else none := by
    intro k
    by_cases h : k = n.kind
    · subst h; simp
    · rw [NoticeSet.get_put_other _ h, none' k, if_neg h]
  have low : (l.notices.put n).lowest = some n := by
    unfold NoticeSet.lowest noticeKinds
    cases n <;> simp [List.findSome?, only, Notice.kind]
  simp [Link.raise, Link.kick, tx, replies, low]

/-! ## A raised notice stays raised (R10, R11) -/

/-- A pending notice has the kind it is pending under. -/
theorem NoticeSet.get_kind {t : NoticeSet} {k : NoticeKind} {m : Notice} (h : t.get k = some m) : m.kind = k := by
  cases k <;> simp only [NoticeSet.get, Option.map_eq_some_iff] at h <;> obtain ⟨_, _, rfl⟩ := h <;> rfl

/-- The lowest pending notice is pending under its own kind. -/
theorem NoticeSet.get_of_lowest {t : NoticeSet} {m : Notice} (h : t.lowest = some m) : t.get m.kind = some m := by
  unfold NoticeSet.lowest at h
  obtain ⟨_, k, _, _, hk, _⟩ := List.findSome?_eq_some_iff.mp h
  rw [NoticeSet.get_kind hk]
  exact hk

/-- A notice that is pending or on its way is so after the transmitter's choice (R11). -/
theorem Link.kick_noticed {l : Link} {n : Notice}
    (h : l.notices.get n.kind = some n ∨ n.frame ∈ l.outgoing) :
    l.kick.notices.get n.kind = some n ∨ n.frame ∈ l.kick.outgoing := by
  obtain ⟨ahead, grows, -, -⟩ := l.kick_outgoing
  obtain h | h := h
  · unfold Link.kick
    split
    · exact .inl h
    · split
      · exact .inl h
      · split
        · rename_i m low
          by_cases same : n.kind = m.kind
          · right
            have low := NoticeSet.get_of_lowest low
            rw [← same, h] at low
            simp [Link.outgoing, Option.some.inj low]
          · left
            simp [same, h]
        · exact .inl h
  · right
    rw [grows]
    exact List.mem_append_left _ h

/-! ## The same on the whole state -/

/-- A raised notice whose kind is in NOTICE_MASK is pending, or on its way (R10, R11). -/
theorem State.raise_noticed (s : State) {n : Notice} (h : s.ws.notices n.kind = true) : (s.raise n).noticed n := by
  unfold State.noticed State.raise State.setLink Link.raise
  rw [show s.sst.working.notices n.kind = true from h, if_pos rfl]
  exact Link.kick_noticed (.inl (by simp))

theorem State.answer_link (s : State) (q : RawRequest) (p : List Byte) :
    (s.answer q p).link = s.link.answer ⟨q.kind + 0x80, q.tag, p⟩ := rfl

theorem State.raise_link (s : State) (n : Notice) :
    (s.raise n).link = s.link.raise (s.sst.working.notices n.kind) n := rfl

theorem State.drop_link (s : State) (w : DropReason) :
    (s.drop w).link = s.link.drop (s.sst.working.notices .link) w := rfl

/-- A reply is sent behind every frame on its way. -/
theorem State.ok_sent (s : State) (q : RawRequest) (body : List Byte) :
    s.sent (s.ok q body) (replyFrame q.kind q.tag .ok body) := Link.answer_outgoing _ _

/-- A refusal is sent behind every frame on its way. -/
theorem State.refuse_sent (s : State) (q : RawRequest) (why : Status) :
    s.sent (s.refuse q why) (replyFrame q.kind q.tag why []) := by
  unfold State.sent State.refuse State.answer replyFrame
  simpa using Link.answer_outgoing _ _

/-- A refusal with a reason is sent behind every frame on its way. -/
theorem State.refuseWith_sent (s : State) (q : RawRequest) (why : Status) (reason : Nat) :
    s.sent (s.refuseWith q why reason) (replyFrame q.kind q.tag why (u8 reason)) := Link.answer_outgoing _ _

/-- A raised notice leaves one of another kind raised. -/
theorem State.noticed_raise {s : State} {n m : Notice} (other : n.kind ≠ m.kind) (h : s.noticed n) :
    (s.raise m).noticed n := by
  unfold State.noticed at h ⊢
  rw [State.raise_link]
  unfold Link.raise
  split
  · refine Link.kick_noticed ?_
    simpa only [NoticeSet.get_put_other _ other, Link.outgoing] using h
  · exact h

/-- A reply leaves a raised notice raised. -/
theorem State.noticed_answer {s : State} {n : Notice} (q : RawRequest) (p : List Byte) (h : s.noticed n) :
    (s.answer q p).noticed n := by
  unfold State.noticed at h ⊢
  rw [State.answer_link]
  refine Link.kick_noticed ?_
  obtain h | h := h
  · exact .inl h
  · exact .inr (by simpa [Link.outgoing, or_assoc] using Or.imp_right Or.inl (List.mem_append.mp h))

/-- A notice is raised or not by the link alone. -/
theorem State.noticed_of_link {s t : State} {n : Notice} (same : t.link = s.link) (h : s.noticed n) : t.noticed n := by
  unfold State.noticed at h ⊢
  rw [same]
  exact h

end Sys2Proof.Machine
end

