-- ==== Sys2Proof/Laws/Ops.lean ====
section
/-! SUPPORT. What the shared operations of the state leave and do: acting, changing the mode, the allotment window,
admitting a request. -/
namespace Sys2Proof.Machine

/-! ## Every command answers a next state -/

/-- No command faults and none is refused. -/
theorem exec_answers_next (i : Instr) (s : State) : ∃ t, exec i s = .next t := by
  cases i <;> exact ⟨_, rfl⟩

/-- Acting on a part with supply. -/
theorem act_powered {s : State} (h : s.powered = true) (f : State → State) :
    act s f = .next (f s).holdAutoPark := by simp [act, h]

/-- Without supply nothing acts. -/
theorem act_unpowered {s : State} (h : s.powered = false) (f : State → State) : act s f = .next s := by
  simp [act, h]

/-! ## Holding the auto-park timer -/

@[simp] theorem State.holdAutoPark_pending (s : State) : s.holdAutoPark.pending = s.pending := by
  unfold State.holdAutoPark; split <;> rfl

@[simp] theorem State.holdAutoPark_powered (s : State) : s.holdAutoPark.powered = s.powered := by
  unfold State.holdAutoPark; split <;> rfl

@[simp] theorem State.holdAutoPark_storeLock (s : State) : s.holdAutoPark.storeLock = s.storeLock := by
  unfold State.holdAutoPark; split <;> rfl

@[simp] theorem State.holdAutoPark_link (s : State) : s.holdAutoPark.link = s.link := by
  unfold State.holdAutoPark; split <;> rfl

@[simp] theorem State.holdAutoPark_intent (s : State) : s.holdAutoPark.intent = s.intent := by
  unfold State.holdAutoPark; split <;> rfl

@[simp] theorem State.holdAutoPark_pkm (s : State) : s.holdAutoPark.pkm = s.pkm := by
  unfold State.holdAutoPark; split <;> rfl

@[simp] theorem State.holdAutoPark_cau (s : State) : s.holdAutoPark.cau = s.cau := by
  unfold State.holdAutoPark; split <;> rfl

@[simp] theorem State.holdAutoPark_stc (s : State) : s.holdAutoPark.stc = s.stc := by
  unfold State.holdAutoPark; split <;> rfl

@[simp] theorem State.holdAutoPark_tse (s : State) : s.holdAutoPark.tse = s.tse := by
  unfold State.holdAutoPark; split <;> rfl

@[simp] theorem State.holdAutoPark_drc (s : State) : s.holdAutoPark.drc = s.drc := by
  unfold State.holdAutoPark; split <;> rfl

@[simp] theorem State.holdAutoPark_wnc (s : State) : s.holdAutoPark.wnc = s.wnc := by
  unfold State.holdAutoPark; split <;> rfl

@[simp] theorem State.holdAutoPark_lmp (s : State) : s.holdAutoPark.lmp = s.lmp := by
  unfold State.holdAutoPark; split <;> rfl

@[simp] theorem State.holdAutoPark_sst (s : State) : s.holdAutoPark.sst = s.sst := by
  unfold State.holdAutoPark; split <;> rfl

@[simp] theorem State.holdAutoPark_mdc_mode (s : State) : s.holdAutoPark.mdc.mode = s.mdc.mode := by
  unfold State.holdAutoPark; split <;> rfl

@[simp] theorem State.holdAutoPark_mdc_resetCause (s : State) : s.holdAutoPark.mdc.resetCause = s.mdc.resetCause := by
  unfold State.holdAutoPark; split <;> rfl

@[simp] theorem State.holdAutoPark_mdc_deferredHello (s : State) : s.holdAutoPark.mdc.deferredHello = s.mdc.deferredHello := by
  unfold State.holdAutoPark; split <;> rfl

@[simp] theorem State.holdAutoPark_mdc_stageMs (s : State) : s.holdAutoPark.mdc.stageMs = s.mdc.stageMs := by
  unfold State.holdAutoPark; split <;> rfl

@[simp] theorem State.holdAutoPark_mdc_packCheckCount (s : State) : s.holdAutoPark.mdc.packCheckCount = s.mdc.packCheckCount := by
  unfold State.holdAutoPark; split <;> rfl

@[simp] theorem State.holdAutoPark_mdc_silenceMs (s : State) : s.holdAutoPark.mdc.silenceMs = s.mdc.silenceMs := by
  unfold State.holdAutoPark; split <;> rfl

@[simp] theorem State.holdAutoPark_mdc_parkTimer (s : State) : s.holdAutoPark.mdc.parkTimer = s.mdc.parkTimer := by
  unfold State.holdAutoPark; split <;> rfl

@[simp] theorem State.holdAutoPark_mdc_motionCount (s : State) : s.holdAutoPark.mdc.motionCount = s.mdc.motionCount := by
  unfold State.holdAutoPark; split <;> rfl

@[simp] theorem State.holdAutoPark_mdc_resumeCount (s : State) : s.holdAutoPark.mdc.resumeCount = s.mdc.resumeCount := by
  unfold State.holdAutoPark; split <;> rfl

@[simp] theorem State.holdAutoPark_mdc_wakeSet (s : State) : s.holdAutoPark.mdc.wakeSet = s.mdc.wakeSet := by
  unfold State.holdAutoPark; split <;> rfl

@[simp] theorem State.holdAutoPark_mdc_wakeFirst (s : State) : s.holdAutoPark.mdc.wakeFirst = s.mdc.wakeFirst := by
  unfold State.holdAutoPark; split <;> rfl

@[simp] theorem State.holdAutoPark_mdc_wakeCentering (s : State) : s.holdAutoPark.mdc.wakeCentering = s.mdc.wakeCentering := by
  unfold State.holdAutoPark; split <;> rfl

@[simp] theorem State.holdAutoPark_mdc_notNeutral (s : State) : s.holdAutoPark.mdc.notNeutral = s.mdc.notNeutral := by
  unfold State.holdAutoPark; split <;> rfl

@[simp] theorem State.holdAutoPark_mdc_storeResult (s : State) : s.holdAutoPark.mdc.storeResult = s.mdc.storeResult := by
  unfold State.holdAutoPark; split <;> rfl

@[simp] theorem State.holdAutoPark_mdc_startDone (s : State) : s.holdAutoPark.mdc.startDone = s.mdc.startDone := by
  unfold State.holdAutoPark; split <;> rfl

@[simp] theorem State.holdAutoPark_mdc_lastNonNeutral (s : State) : s.holdAutoPark.mdc.lastNonNeutral = s.mdc.lastNonNeutral := by
  unfold State.holdAutoPark; split <;> rfl

/-- Judging the conditions of the auto-park timer twice is judging them once. -/
@[simp] theorem State.holdAutoPark_idem (s : State) : s.holdAutoPark.holdAutoPark = s.holdAutoPark := by
  by_cases h : s.autoParkRuns = true
  · have e : s.holdAutoPark = s := by unfold State.holdAutoPark; rw [if_pos h]
    rw [e, e]
  · have e : s.holdAutoPark = s.setMdc { s.mdc with autoParkMs := 0 } := by
      unfold State.holdAutoPark; rw [if_neg h]
    rw [e]
    unfold State.holdAutoPark
    split <;> rfl

/-- Of MDC's state only the auto-park timer is touched (R41). -/
theorem State.holdAutoPark_mdc (s : State) :
    s.holdAutoPark.mdc = { s.mdc with autoParkMs := if s.autoParkRuns then s.mdc.autoParkMs else 0 } := by
  by_cases h : s.autoParkRuns = true <;> simp [State.holdAutoPark, h]

/-- The link plays no part in the auto-park timer. -/
theorem State.holdAutoPark_setLink (s : State) (l : Link) : (s.setLink l).holdAutoPark = s.holdAutoPark.setLink l := by
  have same : (s.setLink l).autoParkRuns = s.autoParkRuns := rfl
  unfold State.holdAutoPark
  rw [same]
  split <;> rfl

/-- A change of the link alone is `onlyLink`. -/
theorem State.setLink_onlyLink (s : State) (l : Link) : s.onlyLink (s.setLink l).holdAutoPark := by
  rw [State.holdAutoPark_setLink]
  rfl

/-- Holding the auto-park timer changes nothing that a frame tells apart (R41). -/
theorem State.changesOnly_held {s t : State} {parts : List Part} (h : s.changesOnly t parts) (hm : t.mdc = s.mdc) :
    s.changesOnly t.holdAutoPark parts := by
  refine ⟨by simp [h.1], by simp [h.2.1], by simp [h.2.2.1], fun p hp => ?_⟩
  have same := h.2.2.2 p hp
  cases p
  case timers => simp only [State.sameIn, State.holdAutoPark_mdc, hm]
  all_goals simpa [State.sameIn] using same

/-! ## The allotment window and a consumer's wish -/

@[simp] theorem State.window_pending (s : State) : s.window.pending = s.pending := rfl

@[simp] theorem State.writeWish_pending (s : State) (k : Consumer) (b : Bool) : (s.writeWish k b).pending = s.pending := rfl

@[simp] theorem State.recomputeCau_pending (s : State) : s.recomputeCau.pending = s.pending := by
  unfold State.recomputeCau; split <;> rfl

@[simp] theorem State.window_powered (s : State) : s.window.powered = s.powered := rfl

@[simp] theorem State.writeWish_powered (s : State) (k : Consumer) (b : Bool) : (s.writeWish k b).powered = s.powered := rfl

@[simp] theorem State.recomputeCau_powered (s : State) : s.recomputeCau.powered = s.powered := by
  unfold State.recomputeCau; split <;> rfl

@[simp] theorem State.window_storeLock (s : State) : s.window.storeLock = s.storeLock := rfl

@[simp] theorem State.writeWish_storeLock (s : State) (k : Consumer) (b : Bool) : (s.writeWish k b).storeLock = s.storeLock := rfl

@[simp] theorem State.recomputeCau_storeLock (s : State) : s.recomputeCau.storeLock = s.storeLock := by
  unfold State.recomputeCau; split <;> rfl

@[simp] theorem State.window_link (s : State) : s.window.link = s.link := rfl

@[simp] theorem State.writeWish_link (s : State) (k : Consumer) (b : Bool) : (s.writeWish k b).link = s.link := rfl

@[simp] theorem State.recomputeCau_link (s : State) : s.recomputeCau.link = s.link := by
  unfold State.recomputeCau; split <;> rfl

@[simp] theorem State.window_intent (s : State) : s.window.intent = s.intent := rfl

@[simp] theorem State.writeWish_intent (s : State) (k : Consumer) (b : Bool) : (s.writeWish k b).intent = s.intent := rfl

@[simp] theorem State.recomputeCau_intent (s : State) : s.recomputeCau.intent = s.intent := by
  unfold State.recomputeCau; split <;> rfl

@[simp] theorem State.window_mdc (s : State) : s.window.mdc = s.mdc := rfl

@[simp] theorem State.writeWish_mdc (s : State) (k : Consumer) (b : Bool) : (s.writeWish k b).mdc = s.mdc := rfl

@[simp] theorem State.recomputeCau_mdc (s : State) : s.recomputeCau.mdc = s.mdc := by
  unfold State.recomputeCau; split <;> rfl

@[simp] theorem State.window_pkm (s : State) : s.window.pkm = s.pkm := rfl

@[simp] theorem State.writeWish_pkm (s : State) (k : Consumer) (b : Bool) : (s.writeWish k b).pkm = s.pkm := rfl

@[simp] theorem State.recomputeCau_pkm (s : State) : s.recomputeCau.pkm = s.pkm := by
  unfold State.recomputeCau; split <;> rfl

@[simp] theorem State.window_stc (s : State) : s.window.stc = s.stc := rfl

@[simp] theorem State.writeWish_stc (s : State) (k : Consumer) (b : Bool) : (s.writeWish k b).stc = s.stc := rfl

@[simp] theorem State.recomputeCau_stc (s : State) : s.recomputeCau.stc = s.stc := by
  unfold State.recomputeCau; split <;> rfl

@[simp] theorem State.window_tse (s : State) : s.window.tse = s.tse := rfl

@[simp] theorem State.writeWish_tse (s : State) (k : Consumer) (b : Bool) : (s.writeWish k b).tse = s.tse := rfl

@[simp] theorem State.recomputeCau_tse (s : State) : s.recomputeCau.tse = s.tse := by
  unfold State.recomputeCau; split <;> rfl

@[simp] theorem State.window_drc (s : State) : s.window.drc = s.drc := rfl

@[simp] theorem State.writeWish_drc (s : State) (k : Consumer) (b : Bool) : (s.writeWish k b).drc = s.drc := rfl

@[simp] theorem State.recomputeCau_drc (s : State) : s.recomputeCau.drc = s.drc := by
  unfold State.recomputeCau; split <;> rfl

@[simp] theorem State.window_wnc (s : State) : s.window.wnc = s.wnc := rfl

@[simp] theorem State.writeWish_wnc (s : State) (k : Consumer) (b : Bool) : (s.writeWish k b).wnc = s.wnc := rfl

@[simp] theorem State.recomputeCau_wnc (s : State) : s.recomputeCau.wnc = s.wnc := by
  unfold State.recomputeCau; split <;> rfl

@[simp] theorem State.window_lmp (s : State) : s.window.lmp = s.lmp := rfl

@[simp] theorem State.writeWish_lmp (s : State) (k : Consumer) (b : Bool) : (s.writeWish k b).lmp = s.lmp := rfl

@[simp] theorem State.recomputeCau_lmp (s : State) : s.recomputeCau.lmp = s.lmp := by
  unfold State.recomputeCau; split <;> rfl

@[simp] theorem State.window_sst (s : State) : s.window.sst = s.sst := rfl

@[simp] theorem State.writeWish_sst (s : State) (k : Consumer) (b : Bool) : (s.writeWish k b).sst = s.sst := rfl

@[simp] theorem State.recomputeCau_sst (s : State) : s.recomputeCau.sst = s.sst := by
  unfold State.recomputeCau; split <;> rfl

/-! ## Changing the mode -/

@[simp] theorem State.forcedEngage_pending (s : State) (c : EngageCause) : (s.forcedEngage c).pending = s.pending := by
  unfold State.forcedEngage; split <;> rfl

@[simp] theorem State.winchModeChange_pending (s : State) (m : VehicleMode) : (s.winchModeChange m).pending = s.pending := by
  unfold State.winchModeChange; (repeat' split) <;> simp

@[simp] theorem State.forcedEngage_powered (s : State) (c : EngageCause) : (s.forcedEngage c).powered = s.powered := by
  unfold State.forcedEngage; split <;> rfl

@[simp] theorem State.winchModeChange_powered (s : State) (m : VehicleMode) : (s.winchModeChange m).powered = s.powered := by
  unfold State.winchModeChange; (repeat' split) <;> simp

@[simp] theorem State.forcedEngage_storeLock (s : State) (c : EngageCause) : (s.forcedEngage c).storeLock = s.storeLock := by
  unfold State.forcedEngage; split <;> rfl

@[simp] theorem State.winchModeChange_storeLock (s : State) (m : VehicleMode) : (s.winchModeChange m).storeLock = s.storeLock := by
  unfold State.winchModeChange; (repeat' split) <;> simp

@[simp] theorem State.forcedEngage_intent (s : State) (c : EngageCause) : (s.forcedEngage c).intent = s.intent := by
  unfold State.forcedEngage; split <;> rfl

@[simp] theorem State.winchModeChange_intent (s : State) (m : VehicleMode) : (s.winchModeChange m).intent = s.intent := by
  unfold State.winchModeChange; (repeat' split) <;> simp

@[simp] theorem State.forcedEngage_mdc (s : State) (c : EngageCause) : (s.forcedEngage c).mdc = s.mdc := by
  unfold State.forcedEngage; split <;> rfl

@[simp] theorem State.winchModeChange_mdc (s : State) (m : VehicleMode) : (s.winchModeChange m).mdc = s.mdc := by
  unfold State.winchModeChange; (repeat' split) <;> simp

@[simp] theorem State.forcedEngage_pkm (s : State) (c : EngageCause) : (s.forcedEngage c).pkm = s.pkm := by
  unfold State.forcedEngage; split <;> rfl

@[simp] theorem State.winchModeChange_pkm (s : State) (m : VehicleMode) : (s.winchModeChange m).pkm = s.pkm := by
  unfold State.winchModeChange; (repeat' split) <;> simp

@[simp] theorem State.forcedEngage_cau (s : State) (c : EngageCause) : (s.forcedEngage c).cau = s.cau := by
  unfold State.forcedEngage; split <;> rfl

@[simp] theorem State.winchModeChange_cau (s : State) (m : VehicleMode) : (s.winchModeChange m).cau = s.cau := by
  unfold State.winchModeChange; (repeat' split) <;> simp

@[simp] theorem State.forcedEngage_stc (s : State) (c : EngageCause) : (s.forcedEngage c).stc = s.stc := by
  unfold State.forcedEngage; split <;> rfl

@[simp] theorem State.winchModeChange_stc (s : State) (m : VehicleMode) : (s.winchModeChange m).stc = s.stc := by
  unfold State.winchModeChange; (repeat' split) <;> simp

@[simp] theorem State.forcedEngage_tse (s : State) (c : EngageCause) : (s.forcedEngage c).tse = s.tse := by
  unfold State.forcedEngage; split <;> rfl

@[simp] theorem State.winchModeChange_tse (s : State) (m : VehicleMode) : (s.winchModeChange m).tse = s.tse := by
  unfold State.winchModeChange; (repeat' split) <;> simp

@[simp] theorem State.forcedEngage_drc (s : State) (c : EngageCause) : (s.forcedEngage c).drc = s.drc := by
  unfold State.forcedEngage; split <;> rfl

@[simp] theorem State.winchModeChange_drc (s : State) (m : VehicleMode) : (s.winchModeChange m).drc = s.drc := by
  unfold State.winchModeChange; (repeat' split) <;> simp

@[simp] theorem State.forcedEngage_lmp (s : State) (c : EngageCause) : (s.forcedEngage c).lmp = s.lmp := by
  unfold State.forcedEngage; split <;> rfl

@[simp] theorem State.winchModeChange_lmp (s : State) (m : VehicleMode) : (s.winchModeChange m).lmp = s.lmp := by
  unfold State.winchModeChange; (repeat' split) <;> simp

@[simp] theorem State.forcedEngage_sst (s : State) (c : EngageCause) : (s.forcedEngage c).sst = s.sst := by
  unfold State.forcedEngage; split <;> rfl

@[simp] theorem State.winchModeChange_sst (s : State) (m : VehicleMode) : (s.winchModeChange m).sst = s.sst := by
  unfold State.winchModeChange; (repeat' split) <;> simp

@[simp] theorem State.axleModeChange_pending (s : State) (m : VehicleMode) : (s.axleModeChange m).pending = s.pending := by
  unfold State.axleModeChange; split <;> rfl

@[simp] theorem State.axleModeChange_powered (s : State) (m : VehicleMode) : (s.axleModeChange m).powered = s.powered := by
  unfold State.axleModeChange; split <;> rfl

@[simp] theorem State.axleModeChange_storeLock (s : State) (m : VehicleMode) : (s.axleModeChange m).storeLock = s.storeLock := by
  unfold State.axleModeChange; split <;> rfl

@[simp] theorem State.axleModeChange_link (s : State) (m : VehicleMode) : (s.axleModeChange m).link = s.link := by
  unfold State.axleModeChange; split <;> rfl

@[simp] theorem State.axleModeChange_intent (s : State) (m : VehicleMode) : (s.axleModeChange m).intent = s.intent := by
  unfold State.axleModeChange; split <;> rfl

@[simp] theorem State.axleModeChange_mdc (s : State) (m : VehicleMode) : (s.axleModeChange m).mdc = s.mdc := by
  unfold State.axleModeChange; split <;> rfl

@[simp] theorem State.axleModeChange_pkm (s : State) (m : VehicleMode) : (s.axleModeChange m).pkm = s.pkm := by
  unfold State.axleModeChange; split <;> rfl

@[simp] theorem State.axleModeChange_cau (s : State) (m : VehicleMode) : (s.axleModeChange m).cau = s.cau := by
  unfold State.axleModeChange; split <;> rfl

@[simp] theorem State.axleModeChange_stc (s : State) (m : VehicleMode) : (s.axleModeChange m).stc = s.stc := by
  unfold State.axleModeChange; split <;> rfl

@[simp] theorem State.axleModeChange_tse (s : State) (m : VehicleMode) : (s.axleModeChange m).tse = s.tse := by
  unfold State.axleModeChange; split <;> rfl

@[simp] theorem State.axleModeChange_wnc (s : State) (m : VehicleMode) : (s.axleModeChange m).wnc = s.wnc := by
  unfold State.axleModeChange; split <;> rfl

@[simp] theorem State.axleModeChange_lmp (s : State) (m : VehicleMode) : (s.axleModeChange m).lmp = s.lmp := by
  unfold State.axleModeChange; split <;> rfl

@[simp] theorem State.axleModeChange_sst (s : State) (m : VehicleMode) : (s.axleModeChange m).sst = s.sst := by
  unfold State.axleModeChange; split <;> rfl

@[simp] theorem State.answerDeferredHello_pending (s : State) : s.answerDeferredHello.pending = s.pending := by
  unfold State.answerDeferredHello; split <;> rfl

@[simp] theorem State.endStart_pending (s : State) : s.endStart.pending = s.pending := by simp [State.endStart]

@[simp] theorem State.setMode_pending (s : State) (m : VehicleMode) : (s.setMode m).pending = s.pending := by
  unfold State.setMode
  by_cases h : s.mdc.mode = m
  · simp [h]
  · simp only [h, if_false]; split <;> simp

@[simp] theorem State.answerDeferredHello_powered (s : State) : s.answerDeferredHello.powered = s.powered := by
  unfold State.answerDeferredHello; split <;> rfl

@[simp] theorem State.endStart_powered (s : State) : s.endStart.powered = s.powered := by simp [State.endStart]

@[simp] theorem State.setMode_powered (s : State) (m : VehicleMode) : (s.setMode m).powered = s.powered := by
  unfold State.setMode
  by_cases h : s.mdc.mode = m
  · simp [h]
  · simp only [h, if_false]; split <;> simp

@[simp] theorem State.answerDeferredHello_storeLock (s : State) : s.answerDeferredHello.storeLock = s.storeLock := by
  unfold State.answerDeferredHello; split <;> rfl

@[simp] theorem State.endStart_storeLock (s : State) : s.endStart.storeLock = s.storeLock := by simp [State.endStart]

@[simp] theorem State.setMode_storeLock (s : State) (m : VehicleMode) : (s.setMode m).storeLock = s.storeLock := by
  unfold State.setMode
  by_cases h : s.mdc.mode = m
  · simp [h]
  · simp only [h, if_false]; split <;> simp

@[simp] theorem State.answerDeferredHello_intent (s : State) : s.answerDeferredHello.intent = s.intent := by
  unfold State.answerDeferredHello; split <;> rfl

@[simp] theorem State.endStart_intent (s : State) : s.endStart.intent = s.intent := by simp [State.endStart]

@[simp] theorem State.setMode_intent (s : State) (m : VehicleMode) : (s.setMode m).intent = s.intent := by
  unfold State.setMode
  by_cases h : s.mdc.mode = m
  · simp [h]
  · simp only [h, if_false]; split <;> simp

@[simp] theorem State.answerDeferredHello_pkm (s : State) : s.answerDeferredHello.pkm = s.pkm := by
  unfold State.answerDeferredHello; split <;> rfl

@[simp] theorem State.endStart_pkm (s : State) : s.endStart.pkm = s.pkm := by simp [State.endStart]

@[simp] theorem State.setMode_pkm (s : State) (m : VehicleMode) : (s.setMode m).pkm = s.pkm := by
  unfold State.setMode
  by_cases h : s.mdc.mode = m
  · simp [h]
  · simp only [h, if_false]; split <;> simp

@[simp] theorem State.answerDeferredHello_stc (s : State) : s.answerDeferredHello.stc = s.stc := by
  unfold State.answerDeferredHello; split <;> rfl

@[simp] theorem State.endStart_stc (s : State) : s.endStart.stc = s.stc := by simp [State.endStart]

@[simp] theorem State.setMode_stc (s : State) (m : VehicleMode) : (s.setMode m).stc = s.stc := by
  unfold State.setMode
  by_cases h : s.mdc.mode = m
  · simp [h]
  · simp only [h, if_false]; split <;> simp

@[simp] theorem State.answerDeferredHello_tse (s : State) : s.answerDeferredHello.tse = s.tse := by
  unfold State.answerDeferredHello; split <;> rfl

@[simp] theorem State.endStart_tse (s : State) : s.endStart.tse = s.tse := by simp [State.endStart]

@[simp] theorem State.setMode_tse (s : State) (m : VehicleMode) : (s.setMode m).tse = s.tse := by
  unfold State.setMode
  by_cases h : s.mdc.mode = m
  · simp [h]
  · simp only [h, if_false]; split <;> simp

@[simp] theorem State.answerDeferredHello_drc (s : State) : s.answerDeferredHello.drc = s.drc := by
  unfold State.answerDeferredHello; split <;> rfl

@[simp] theorem State.endStart_drc (s : State) : s.endStart.drc = s.drc := by simp [State.endStart]

/-- A change of mode that leaves RUN halts both axles; any other leaves them (R131, R157). -/
theorem State.setMode_drc (s : State) (m : VehicleMode) :
    (s.setMode m).drc = if s.mdc.mode = .run ∧ m ≠ .run then s.drc.halt else s.drc := by
  unfold State.setMode
  by_cases h : s.mdc.mode = m
  · subst h; simp
  · simp only [h, if_false]
    have halted : ∀ u : State, u.drc = s.drc →
        (u.axleModeChange s.mdc.mode).drc = if s.mdc.mode = .run ∧ m ≠ .run then s.drc.halt else s.drc := by
      intro u hu
      unfold State.axleModeChange
      by_cases hr : s.mdc.mode = .run
      · have hm : m ≠ .run := fun e => h (hr.trans e.symm)
        rw [if_pos hr, if_pos ⟨hr, hm⟩, State.setDrc_drc, hu]
      · rw [if_neg hr, if_neg fun e => hr e.1, hu]
    split <;> simp only [State.endStart_drc, State.winchModeChange_drc] <;> exact halted _ rfl

/-- A halted axle is in BRAKE. -/
theorem Drc.halt_state (d : Drc) (i : AxleId) : (d.halt.axles.get i).state = .brake := by cases i <;> rfl

@[simp] theorem State.answerDeferredHello_lmp (s : State) : s.answerDeferredHello.lmp = s.lmp := by
  unfold State.answerDeferredHello; split <;> rfl

@[simp] theorem State.endStart_lmp (s : State) : s.endStart.lmp = s.lmp := by simp [State.endStart]

@[simp] theorem State.setMode_lmp (s : State) (m : VehicleMode) : (s.setMode m).lmp = s.lmp := by
  unfold State.setMode
  by_cases h : s.mdc.mode = m
  · simp [h]
  · simp only [h, if_false]; split <;> simp

@[simp] theorem State.answerDeferredHello_sst (s : State) : s.answerDeferredHello.sst = s.sst := by
  unfold State.answerDeferredHello; split <;> rfl

@[simp] theorem State.endStart_sst (s : State) : s.endStart.sst = s.sst := by simp [State.endStart]

@[simp] theorem State.setMode_sst (s : State) (m : VehicleMode) : (s.setMode m).sst = s.sst := by
  unfold State.setMode
  by_cases h : s.mdc.mode = m
  · simp [h]
  · simp only [h, if_false]; split <;> simp

@[simp] theorem State.answerDeferredHello_mode (s : State) : s.answerDeferredHello.mdc.mode = s.mdc.mode := by
  unfold State.answerDeferredHello; split <;> rfl

/-- After a change of mode the part is in that mode. -/
@[simp] theorem State.setMode_mode (s : State) (m : VehicleMode) : (s.setMode m).mdc.mode = m := by
  unfold State.setMode State.endStart
  split
  · assumption
  · simp only []; split <;> simp [Mdc.enter]

/-- A change to a mode other than RUN leaves no winch moving (R157). -/
theorem State.winchModeChange_still (s : State) {m : VehicleMode} (h : m ≠ .run) :
    (s.winchModeChange m).wnc.state.moves = false := by
  have still : ∀ (w : Wnc) (ws : WorkingSet), (w.endByLoad ws true).state.moves = false := by
    intro w ws
    unfold Wnc.endByLoad Wnc.endMovement Wnc.byLoad
    split <;> rfl
  have engaged : ∀ (t : State) (c : EngageCause), t.wnc.state.moves = false →
      (t.forcedEngage c).wnc.state.moves = false := by
    intro t c ht
    unfold State.forcedEngage
    split
    · rfl
    · exact ht
  unfold State.winchModeChange
  simp only [h, if_false]
  cases hm : s.wnc.state.moves <;> simp <;> split <;>
    first | (apply engaged; simp [still, hm]) | simp [still, hm]

/-! ## Admitting a request -/

/-- A state ready to serve hands an admitted request over at once, with its slot reserved (R5, R6). -/
theorem State.enqueue_ready {s : State} (h : s.Ready) (q : RawRequest) :
    s.enqueue q = ((s.setLink { s.link with slots := s.link.slots + 1 }).serve q).holdAutoPark := by
  obtain ⟨_, hr, hf, hw, hp⟩ := h
  have hp' : ([] : List RawRequest).length + s.link.slots < 4 := by simpa using hp
  unfold State.enqueue
  rw [hr, hw]
  simp only [Bool.false_eq_true, if_false, hp', if_true, List.nil_append]
  unfold State.dispatchAll State.dispatchUpTo State.dispatchUpTo State.dispatchOne
  simp [hf, hr, State.setLink]
  rw [← hw]

/-- With four places taken a request is dropped (R5). -/
theorem State.enqueue_full {s : State} (hr : s.link.resetting = false)
    (hp : 4 ≤ s.link.waiting.length + s.link.slots) (q : RawRequest) : s.enqueue q = s.drop .queueFull := by
  unfold State.enqueue
  simp [hr, Nat.not_lt.mpr hp]

/-- Once a RESET is accepted no request is admitted (R14). -/
@[simp] theorem State.enqueue_resetting {s : State} (h : s.link.resetting = true) (q : RawRequest) :
    s.enqueue q = s := by simp [State.enqueue, h]

/-- Once a RESET is accepted no frame is judged, so none is dropped (R14). -/
@[simp] theorem State.judgeKind_resetting {s : State} (h : s.link.resetting = true) (kind tag : Byte)
    (payload : List Byte) : s.judgeKind kind tag payload = s := by simp [State.judgeKind, h]

/-- Once a RESET is accepted no CONTROL frame is taken (R14). -/
@[simp] theorem State.takeControl_resetting {s : State} (h : s.link.resetting = true) (f : ControlFrame) :
    s.takeControl f = s := by simp [State.takeControl, h]

/-! ## CAU outside its window (R74, R75) -/

/-- A recomputation does what R75 says. -/
theorem State.recomputeCau_recomputes (s : State) : s.recomputes s.recomputeCau := by
  unfold State.recomputeCau
  refine ⟨fun h => by simp [h], fun h => ?_⟩
  simp only [h, if_true, State.setCau_cau]
  have rule (c : Cau) (k : Consumer) : ((s.setCau (c.writeCeilings s.ws)).grantRule k) := by
    cases k <;> rfl
  unfold Cau.recompute
  cases ha : slotAllowed s.pkm.level with
  | true =>
    refine ⟨rfl, rfl, rfl, rfl, fun k => ⟨?_, rule _ k, ?_, ?_, ?_, ?_, ?_⟩⟩ <;>
      cases k <;> first | rfl | exact fun e => absurd e.2 (by decide) | exact fun _ => ⟨rfl, rfl⟩
  | false =>
    simp only [Bool.false_eq_true, if_false]
    cases hh : s.cau.holder with
    | none =>
      have noop : (s.cau.rescale s.ws s.pkm.level).release false = s.cau.rescale s.ws s.pkm.level := by
        simp [Cau.release, Cau.rescale, hh]
      rw [noop]
      refine ⟨rfl, rfl, hh, rfl, fun k => ⟨?_, rule _ k, ?_, ?_, ?_, ?_, ?_⟩⟩ <;>
        cases k <;> first | rfl | exact fun e => absurd e.1 (by decide) | exact fun _ => ⟨rfl, rfl⟩
    | some j =>
      have gives : (s.cau.rescale s.ws s.pkm.level).release false =
          let c := s.cau.rescale s.ws s.pkm.level
          { c with
            holder := none
            records := c.records.put j { c.records.get j with hold := 0, lapse := 0 } } := by
        simp [Cau.release, Cau.rescale, hh]
      rw [gives]
      refine ⟨rfl, rfl, rfl, rfl, fun k => ⟨?_, rule _ k, ?_, ?_, ?_, ?_, ?_⟩⟩ <;>
        cases j <;> cases k <;>
          first
            | rfl
            | exact fun e => absurd e.1 (by decide)
            | exact fun e => absurd ⟨rfl, trivial⟩ e
            | exact fun _ => ⟨rfl, rfl⟩

/-! ## The working set is replaced (R182) -/

/-- An ON edge leaves the link, the budget, the pack record, the modes and the settings. -/
theorem State.onEdge_rest (s : State) (g : GenId) :
    (s.onEdge g).link = s.link ∧ (s.onEdge g).cau = s.cau ∧ (s.onEdge g).pkm = s.pkm ∧ (s.onEdge g).mdc = s.mdc ∧
      (s.onEdge g).sst = s.sst := ⟨rfl, rfl, rfl, rfl, rfl⟩

/-- Restarting the generators leaves the same. -/
theorem State.restartGens_rest (s : State) (old : WorkingSet) :
    (s.restartGens old).link = s.link ∧ (s.restartGens old).cau = s.cau ∧ (s.restartGens old).pkm = s.pkm ∧
      (s.restartGens old).mdc = s.mdc ∧ (s.restartGens old).sst = s.sst := by
  unfold State.restartGens
  generalize genIds = gs
  induction gs generalizing s with
  | nil => exact ⟨rfl, rfl, rfl, rfl, rfl⟩
  | cons g rest ih =>
    simp only [List.foldl_cons]
    split
    · obtain ⟨a1, a2, a3, a4, a5⟩ := ih (s.onEdge g)
      exact ⟨a1, a2, a3, a4, a5⟩
    · exact ih s

/-- A re-derivation raises at most a LAMP notice; budget, pack record and modes stand (R175). -/
theorem State.rederiveLamps_rest (s : State) (loaded : WorkingSet) :
    ((s.rederiveLamps loaded).link = s.link ∨
        ∃ b n, n.kind = NoticeKind.lamp ∧ (s.rederiveLamps loaded).link = s.link.raise b n) ∧
      (s.rederiveLamps loaded).cau = s.cau ∧ (s.rederiveLamps loaded).pkm = s.pkm ∧
      (s.rederiveLamps loaded).mdc = s.mdc ∧ (s.rederiveLamps loaded).ws = rederive s.ws loaded := by
  obtain ⟨r1, r2, r3, r4, r5⟩ := (s.remap (rederive s.ws loaded)).restartGens_rest s.ws
  have working : ((s.remap (rederive s.ws loaded)).restartGens s.ws).ws = rederive s.ws loaded := by
    unfold State.ws at r5 ⊢
    rw [r5]
    rfl
  unfold State.rederiveLamps
  split
  · exact ⟨.inl r1, r2, r3, r4, working⟩
  · refine ⟨.inr ?_, r2, r3, r4, working⟩
    unfold State.lampNotice
    rw [State.raise_link, r1]
    exact ⟨_, _, by rfl, rfl⟩

/-- Where the working set is replaced CAU recomputes (R75), no notice outside the new NOTICE_MASK is pending and the
others stand but for LAMP's (R10), and PKM restarts its counts exactly where CELL_COUNT changed (R66). -/
theorem State.replaceWorking_spec (s : State) (w : WorkingSet) :
    s.recomputes (s.replaceWorking w) ∧ (s.replaceWorking w).noticesFollowMask ∧
      (∀ k, k ≠ .lamp → (s.replaceWorking w).ws.notices k = true → s.link.tx ≠ none →
        (s.replaceWorking w).link.notices.get k = s.link.notices.get k) ∧
      ((rederive s.ws w).int Item.cellCount ≠ s.ws.int Item.cellCount → s.countsRestart (s.replaceWorking w)) ∧
      ((rederive s.ws w).int Item.cellCount = s.ws.int Item.cellCount → (s.replaceWorking w).pkm = s.pkm) := by
  obtain ⟨hl, hc, hp, hm, hw⟩ := s.rederiveLamps_rest w
  have whole : s.replaceWorking w =
      let u := (s.rederiveLamps w).pruneNotices.recomputeCau
      if u.ws.int Item.cellCount = s.ws.int Item.cellCount then u else u.setPkm u.pkm.restartCounts := rfl
  generalize s.rederiveLamps w = r at hl hc hp hm hw whole
  generalize s.replaceWorking w = t at whole ⊢
  have same : r.pruneNotices.recomputeCau.link = r.pruneNotices.link ∧ r.pruneNotices.recomputeCau.ws = r.ws ∧
      r.pruneNotices.recomputeCau.pkm = r.pkm := by
    unfold State.recomputeCau
    split <;> exact ⟨rfl, rfl, rfl⟩
  dsimp only at whole
  rw [same.2.1, hw] at whole
  have link : t.link = r.pruneNotices.link := by rw [whole]; split <;> exact same.1
  have ws : t.ws = r.ws := by rw [whole]; split <;> exact same.2.1
  have cau : t.cau = r.pruneNotices.recomputeCau.cau := by rw [whole]; split <;> rfl
  have kept : ∀ k, t.link.notices.get k = if t.ws.notices k then r.link.notices.get k else none := by
    intro k
    rw [link, ws]
    simp only [State.pruneNotices, State.setLink_link]
    exact NoticeSet.get_keep _ _ _
  refine ⟨?_, fun k hk => by simp [kept, hk], fun k hk hin htx => ?_, fun h => ?_, fun h => ?_⟩
  · have done := r.pruneNotices.recomputeCau_recomputes
    unfold State.recomputes State.grantRule at done ⊢
    rw [show r.pruneNotices.mdc = s.mdc from hm, show r.pruneNotices.cau = s.cau from hc,
      show r.pruneNotices.pkm = s.pkm from hp, same.2.1, ← cau, ← ws] at done
    exact done
  · rw [kept, if_pos hin]
    obtain hl | ⟨b, n, hn, hl⟩ := hl
    · rw [hl]
    · obtain ⟨f, hf⟩ := Option.ne_none_iff_exists'.mp htx
      rw [hl]
      cases b with
      | false => rfl
      | true => rw [Link.raise_busy hf]; exact NoticeSet.get_put_other _ (by rw [hn]; exact hk)
  · rw [if_neg h] at whole
    unfold State.countsRestart
    rw [whole]
    simp only [State.setPkm_pkm, same.2.2, hp]
    rfl
  · rw [if_pos h] at whole
    rw [whole, same.2.2, hp]

/-! ## A corner of a search ends (R119, R120) -/

/-- A corner that is not FAILED comes to STEADY from commanded angle 0, ACTIVE, or HELD in mode NONE and while a load
runs (R120, R109). -/
theorem Corner.steady_spec {k : Corner} (h : k.state ≠ .failed) (m : SteerMode) (loading : Bool) :
    (k.steady m loading).state = (if m = .none ∨ loading = true then .held else .active) ∧
      (k.steady m loading).commanded = 0 ∧ (k.steady m loading).target = 0 := by
  unfold Corner.steady
  rw [if_neg h]
  by_cases hm : m = .none
  · simp [hm, Corner.parkAt]
  · cases loading <;> simp [hm, Corner.activate, Corner.parkAt]

/-- A running corner that ends leaves the search as R119 and R120 say. -/
theorem State.endCorner_ends (s : State) (i : CornerId) (f : ResultEntry → ResultEntry) :
    s.cornerEnds (s.endCorner i f) i ∧
      (s.endCorner i f).tse.results.get i = f (s.tse.results.get i) := by
  unfold State.endCorner State.cornerEnds
  cases hl : s.tse.list with
  | cons a rest =>
    refine ⟨⟨?_, ?_, ?_, ?_, fun _ => ⟨?_, ?_, ?_, ?_, ?_, ?_, ?_, ?_⟩, fun e => by cases e⟩, ?_⟩ <;>
      simp only [State.setStc_tse, State.setTse_tse, Tse.setResult, hl, List.isEmpty_cons, Bool.false_eq_true, if_false,
        State.setStc_stc, State.setStc_link, State.setTse_link, Stc.put]
    · intro j hj; cases i <;> cases j <;> first | rfl | exact absurd rfl hj
    · cases i <;> rfl
    · cases i <;> rfl
    · cases i <;> rfl
    · intro j hj; cases i <;> cases j <;> first | exact ⟨rfl, rfl⟩ | exact absurd rfl hj
    · cases i <;> rfl
  | nil =>
    simp only [State.setStc_tse, State.setTse_tse, Tse.setResult, hl, List.isEmpty_nil, if_true, State.endSearch,
      State.trimNotice, State.raise_tse, State.raise_stc, State.setStc_stc, State.setTse_stc, Stc.returnToSteady]
    refine ⟨⟨trivial, trivial, trivial, ?_, fun e => absurd rfl e, fun _ => ⟨trivial, trivial, trivial, fun h => ?_, ?_⟩⟩,
      ?_⟩
    · intro j hj; cases i <;> cases j <;> first | rfl | exact absurd rfl hj
    · exact State.raise_noticed _ h
    · intro j hj
      have held : ((s.stc.corners.get i).parkAt .held).state ≠ .failed := by simp [Corner.parkAt]
      cases i <;> cases j <;> first | exact Corner.steady_spec hj _ _ | exact Corner.steady_spec held _ _
    · cases i <;> rfl

/-- A running corner that ends changes the steering, the search and, by its notice, the link. -/
theorem State.endCorner_changes (s : State) (i : CornerId) (f : ResultEntry → ResultEntry) :
    s.changesOnly (s.endCorner i f) [.output, .stc, .tse] ∧ (s.endCorner i f).mdc = s.mdc := by
  unfold State.endCorner State.endSearch State.trimNotice
  dsimp only
  split <;> refine ⟨⟨rfl, rfl, rfl, fun p hp => ?_⟩, rfl⟩ <;> cases p <;>
    simp_all [State.sameIn, State.raise_link]

/-! ## The trim search, one operation after another (R116 to R121) -/

/-- With both axles in BRAKE the head of the list begins its search (R116). -/
theorem State.beginCorner_begins {s : State} {i : CornerId} {rest : List CornerId} (none_runs : s.tse.corner = none)
    (listed : s.tse.list = i :: rest) (braked : s.drc.bothBrake = true) (search : s.stc.machine = .search) :
    s.searchBegins s.beginCorner i rest := by
  unfold State.beginCorner
  rw [none_runs, listed]
  simp only [braked, if_true]
  refine ⟨rfl, ?_, fun j hj => ?_, ?_, ?_, ?_, search, rfl⟩
  · cases i <;> rfl
  · cases i <;> cases j <;> first | rfl | exact absurd rfl hj
  · cases i <;> rfl
  · cases i <;> rfl
  · cases i <;> rfl

/-- Without both axles in BRAKE the search waits (R116). -/
theorem State.beginCorner_waits {s : State} (unbraked : s.drc.bothBrake = false) : s.beginCorner = s := by
  unfold State.beginCorner
  split <;> simp [unbraked]

/-- A probe step is what R118 says. -/
theorem State.probeStep_steps {s : State} (i : CornerId) (search : s.stc.machine = .search) :
    s.searchSteps (s.probeStep i) i s.tse.lastClear s.tse.last0 := by
  refine ⟨rfl, ?_, fun j hj => ?_, ?_, ?_, search, rfl⟩
  · cases i <;> rfl
  · cases i <;> cases j <;> first | rfl | exact absurd rfl hj
  · cases i <;> rfl
  · cases i <;> rfl

/-- The end of a corner, of a search and of an aborted one leaves the working set as it stands (R119, R121). -/
theorem State.endSearch_ws (s : State) (c : EndCause) : (s.endSearch c).ws = s.ws := by
  simp [State.endSearch, State.trimNotice, State.ws]

theorem State.endCorner_ws (s : State) (i : CornerId) (f : ResultEntry → ResultEntry) :
    (s.endCorner i f).ws = s.ws := by
  unfold State.endCorner
  dsimp only
  split
  · exact State.endSearch_ws _ _
  · rfl

/-- The wait of a running corner is judged as R117 says. -/
theorem State.judgeWait_judges {s : State} (i : CornerId) (search : s.stc.machine = .search) :
    s.waitJudged (s.judgeWait i) i (s.stc.corners.get i).sense := by
  unfold State.judgeWait
  refine ⟨fun one => ?_, fun zero => ?_⟩
  · rw [if_pos one]
    have ends := State.endCorner_ends (s.setTse { s.tse with frames := 10 }) i
      fun e => { e with result := .startHigh, newTrim := none, steps := 0 }
    exact ⟨ends.2, ends.1, State.endCorner_ws _ _ _⟩
  · rw [zero, if_neg Bool.false_ne_true]
    exact State.probeStep_steps (s := s.setTse { s.tse with lastClear := false, last0 := s.tse.probe }) i search

@[simp] theorem WorkingSet.int_setItem_self (w : WorkingSet) (i : Fin 78) (v : Int) : (w.setItem i v).int i = v := by
  simp [WorkingSet.int, WorkingSet.setItem]

theorem WorkingSet.int_setItem_of_ne (w : WorkingSet) {i j : Fin 78} (v : Int) (ne : j ≠ i) :
    (w.setItem i v).int j = w.int j := by
  have : i.val ≠ j.val := fun e => ne (Fin.ext e.symm)
  simp [WorkingSet.int, WorkingSet.setItem, Vector.getElem_set_ne, this]

/-- The edge ends the corner as R119 says. -/
theorem State.edgeFound_ends (s : State) (i : CornerId) :
    let found := (s.tse.results.get i).oldTrim + s.tse.last0 + s.tse.step / 2
    (-200 ≤ found → found ≤ 200 →
      (s.edgeFound i).tse.results.get i = { s.tse.results.get i with result := .found, newTrim := some found } ∧
      (s.edgeFound i).ws.trim i = found ∧
      (∀ item, item ≠ trimItem i → (s.edgeFound i).ws.int item = s.ws.int item) ∧
      (s.edgeFound i).ws = { s.ws with items := (s.edgeFound i).ws.items } ∧ s.cornerEnds (s.edgeFound i) i) ∧
    (found < -200 ∨ 200 < found →
      (s.edgeFound i).tse.results.get i = { s.tse.results.get i with result := .outOfRange, newTrim := none } ∧
      s.cornerEnds (s.edgeFound i) i ∧ (s.edgeFound i).ws = s.ws) := by
  intro found
  unfold State.edgeFound
  refine ⟨fun low high => ?_, fun out => ?_⟩
  · have inside : -200 ≤ found ∧ found ≤ 200 := ⟨low, high⟩
    rw [if_pos inside]
    have ends := State.endCorner_ends
      (s.setSst { s.sst with working := s.ws.setItem (trimItem i) found }) i
      fun e => { e with result := .found, newTrim := some found }
    have ws := State.endCorner_ws
      (s.setSst { s.sst with working := s.ws.setItem (trimItem i) found }) i
      fun e => { e with result := .found, newTrim := some found }
    refine ⟨ends.2, ?_, fun item other => ?_, ?_, ?_⟩
    · rw [ws]; exact WorkingSet.int_setItem_self _ _ _
    · rw [ws]; exact WorkingSet.int_setItem_of_ne _ _ other
    · rw [ws]; rfl
    · have same : (s.ws.setItem (trimItem i) found).notices .trim = s.ws.notices .trim := by
        have other : Item.noticeMask ≠ trimItem i := by cases i <;> decide
        simp only [WorkingSet.notices, WorkingSet.nat, WorkingSet.int_setItem_of_ne _ _ other]
      obtain ⟨⟨c, p, l, r, left, done⟩, -⟩ := ends
      exact ⟨c, p, l, r, left, fun e => ⟨(done e).1, (done e).2.1, (done e).2.2.1,
        fun h => (done e).2.2.2.1 (same.trans h), (done e).2.2.2.2⟩⟩
  · have outside : ¬(-200 ≤ found ∧ found ≤ 200) := by omega
    rw [if_neg outside]
    have ends := State.endCorner_ends s i fun e => { e with result := .outOfRange, newTrim := none }
    exact ⟨ends.2, ends.1, State.endCorner_ws _ _ _⟩

/-- A corner ends alike whatever readings its search has just taken. -/
theorem State.endCorner_ends_of {s : State} {x : Tse} (list : x.list = s.tse.list) (results : x.results = s.tse.results)
    (running : x.running = s.tse.running) (cause : x.endCause = s.tse.endCause) (i : CornerId)
    (f : ResultEntry → ResultEntry) :
    ((s.setTse x).endCorner i f).tse.results.get i = f (s.tse.results.get i) ∧
      s.cornerEnds ((s.setTse x).endCorner i f) i ∧ ((s.setTse x).endCorner i f).ws = s.ws := by
  have ends := State.endCorner_ends (s.setTse x) i f
  unfold State.cornerEnds at ends ⊢
  simp only [State.setTse_tse, list, results, running, cause] at ends
  exact ⟨ends.2, ends.1, State.endCorner_ws _ _ _⟩

/-- Four marks in corner order, each at its own entry alone, mark every entry once. -/
theorem foldl_cornerIds_results {step : Tse → CornerId → Tse}
    {g : Option CornerId → List CornerId → CornerId → ResultEntry → ResultEntry}
    (keeps : ∀ t j, (step t j).corner = t.corner ∧ (step t j).list = t.list)
    (own : ∀ t j, (step t j).results.get j = g t.corner t.list j (t.results.get j))
    (others : ∀ t j i, i ≠ j → (step t j).results.get i = t.results.get i) (t : Tse) (i : CornerId) :
    (cornerIds.foldl step t).results.get i = g t.corner t.list i (t.results.get i) := by
  cases i <;> simp [cornerIds, List.foldl, others, own, keeps]

/-- An aborted search is as R121 says. -/
theorem State.abortSearch_aborted (s : State) (cause : EndCause) :
    s.searchAborted (s.abortSearch cause) cause := by
  have mark : ∀ i, (s.abortSearch cause).tse.results.get i =
      if s.tse.corner = some i then { s.tse.results.get i with result := .aborted }
      else if i ∈ s.tse.list then { s.tse.results.get i with result := .aborted, steps := 0 }
      else s.tse.results.get i := by
    intro i
    have marked := foldl_cornerIds_results
      (step := fun t i => if t.corner = some i then t.setResult i fun e => { e with result := .aborted }
        else if i ∈ t.list then t.setResult i fun e => { e with result := .aborted, steps := 0 } else t)
      (g := fun c l i e => if c = some i then { e with result := .aborted }
        else if i ∈ l then { e with result := .aborted, steps := 0 } else e)
      (fun t j => by split_ifs <;> exact ⟨rfl, rfl⟩)
      (fun t j => by split_ifs <;> first | rfl | (cases j <;> rfl))
      (fun t j i ne => by
        split_ifs <;> first | rfl | (cases i <;> cases j <;> first | rfl | exact absurd rfl ne))
      s.tse i
    exact marked
  refine ⟨?_, ?_, ?_, ?_, fun i h => ?_, fun i h l => ?_, fun i h l => ?_, ?_, ?_⟩
  · simp [State.abortSearch, State.endSearch, State.trimNotice]
  · simp [State.abortSearch, State.endSearch, State.trimNotice]
  · simp [State.abortSearch, State.endSearch, State.trimNotice]
  · simp [State.abortSearch, State.endSearch, State.trimNotice]
  · rw [mark, if_pos h]
  · rw [mark, if_neg h, if_pos l]
  · rw [mark, if_neg h, if_neg l]
  · exact fun h => State.raise_noticed _ h
  · exact State.endSearch_ws _ _

/-! ## The image (R178) -/

/-- A completed write's image has its check matching. -/
@[simp] theorem Image.of_valid (w : WorkingSet) : (Image.of w).valid = true := by simp [Image.of, Image.valid]

@[simp] theorem Image.of_content (w : WorkingSet) : (Image.of w).content = w := rfl

/-- A write under way leaves an image whose check fails. -/
@[simp] theorem Image.spoil_valid (i : Image) : i.spoil.valid = false := by
  have differs : ∀ h : Half, h ≠ ~~~h := by
    intro h e
    have := congrArg (fun x : Half => x.getLsbD 0) e
    simp at this
  simp [Image.spoil, Image.valid, differs]

@[simp] theorem Image.spoil_content (i : Image) : i.spoil.content = i.content := rfl

/-! ## A new channel map (R165) -/

@[simp] theorem State.remap_ws (s : State) (w : WorkingSet) : (s.remap w).ws = w := rfl

@[simp] theorem State.remap_pending (s : State) (w : WorkingSet) : (s.remap w).pending = s.pending := rfl

@[simp] theorem State.remap_powered (s : State) (w : WorkingSet) : (s.remap w).powered = s.powered := rfl

@[simp] theorem State.remap_storeLock (s : State) (w : WorkingSet) : (s.remap w).storeLock = s.storeLock := rfl

@[simp] theorem State.remap_link (s : State) (w : WorkingSet) : (s.remap w).link = s.link := rfl

@[simp] theorem State.remap_intent (s : State) (w : WorkingSet) : (s.remap w).intent = s.intent := rfl

@[simp] theorem State.remap_mdc (s : State) (w : WorkingSet) : (s.remap w).mdc = s.mdc := rfl

@[simp] theorem State.remap_pkm (s : State) (w : WorkingSet) : (s.remap w).pkm = s.pkm := rfl

@[simp] theorem State.remap_cau (s : State) (w : WorkingSet) : (s.remap w).cau = s.cau := rfl

@[simp] theorem State.remap_stc (s : State) (w : WorkingSet) : (s.remap w).stc = s.stc := rfl

@[simp] theorem State.remap_tse (s : State) (w : WorkingSet) : (s.remap w).tse = s.tse := rfl

@[simp] theorem State.remap_drc (s : State) (w : WorkingSet) : (s.remap w).drc = s.drc := rfl

@[simp] theorem State.remap_wnc (s : State) (w : WorkingSet) : (s.remap w).wnc = s.wnc := rfl

/-- A channel's record after a remap: as it stood where the channel carries the same function, else vacated. -/
theorem State.remap_channel (s : State) (w : WorkingSet) (ch : ChannelId) :
    (s.remap w).lmp.channels[ch] =
      if s.ws.carried ch = w.carried ch then s.lmp.channels[ch] else s.lmp.channels[ch].vacate := by
  simp [State.remap, State.setLmp, Lmp.remapped, Lmp.mapChannels]

/-- Only the channels of LMP change at a remap. -/
theorem State.remap_lmp (s : State) (w : WorkingSet) :
    (s.remap w).lmp = { s.lmp with channels := (s.remap w).lmp.channels } := rfl

/-! ## Corners: what each operation makes of a record -/

@[simp] theorem Corner.aim_state (k : Corner) (a : Int) : (k.aim a).state = k.state := by
  unfold Corner.aim; split
  · rfl
  · split <;> rfl

@[simp] theorem Corner.aim_commanded (k : Corner) (a : Int) : (k.aim a).commanded = k.commanded := by
  unfold Corner.aim; split
  · rfl
  · split <;> rfl

/-- A target given at step 5 (R92, R93), by the corner's state. -/
theorem Corner.aim_target (k : Corner) (a : Int) :
    (k.aim a).target =
      if k.state = .active ∨ k.state = .rest then a
      else if k.state = .held then k.commanded
      else if k.state = .failed then 0
      else k.target := by
  cases h : k.state <;> simp [Corner.aim, Corner.follows, h]

/-- A corner that becomes ACTIVE keeps its angle; under a load it is HELD there instead (R93, R109). -/
theorem Corner.activate_spec (k : Corner) (loading : Bool) :
    (k.activate loading).state = (if loading then .held else .active) ∧
      (k.activate loading).commanded = k.commanded ∧
      (k.activate loading).target = (if loading then k.commanded else k.target) ∧
      (k.activate loading).loadHeld = loading ∧ (k.activate loading).clearing = false := by
  cases loading <;> exact ⟨rfl, rfl, rfl, rfl, rfl⟩

/-- The beginning of a load (R109): an ACTIVE corner is HELD where it stands, with that angle as its target (R93). -/
theorem Corner.holdForLoad_active {k : Corner} (h : k.state = .active) :
    k.holdForLoad = { k with state := .held, target := k.commanded, openCount := 0, loadHeld := true } :=
  if_pos h

/-- A corner that is not ACTIVE stays as it is. -/
theorem Corner.holdForLoad_other {k : Corner} (h : k.state ≠ .active) : k.holdForLoad = k := if_neg h

/-- The end of a load (R109): a corner that it held is ACTIVE, with target 0 in a transition (R93). -/
theorem Corner.releaseLoad_held (m : SteerMachine) {k : Corner} (h : k.loadHeld = true) :
    k.releaseLoad m =
      { k with
        state := .active, loadHeld := false
        target := if m = .aligning ∨ m = .settling then 0 else k.target } :=
  if_pos h

/-- A corner that no load holds stays as it is. -/
theorem Corner.releaseLoad_other (m : SteerMachine) {k : Corner} (h : k.loadHeld = false) : k.releaseLoad m = k := by
  simp [Corner.releaseLoad, h]

/-! ## Corners: which states the operations give, and that a load holds only HELD corners (R89, R109) -/

@[simp] theorem Corner.parkAt_state (k : Corner) (c : CornerState) : (k.parkAt c).state = c := rfl

@[simp] theorem Corner.parkAt_loadHeld (k : Corner) (c : CornerState) : (k.parkAt c).loadHeld = false := rfl

@[simp] theorem Corner.fail_state (k : Corner) (why : FaultKind) : (k.fail why).state = .failed := rfl

@[simp] theorem Corner.fail_loadHeld (k : Corner) (why : FaultKind) : (k.fail why).loadHeld = false := rfl

/-- A corner that becomes ACTIVE, or that a load holds instead, keeps the rule of loads. -/
theorem Corner.activate_keeps (k : Corner) (loading : Bool) :
    (k.activate loading).state.powered = true ∧
      ((k.activate loading).loadHeld = true → (k.activate loading).state = .held) := by
  cases loading <;> simp [Corner.activate, CornerState.powered]

/-- On arrival in STEADY every corner is ACTIVE, HELD or FAILED (R91, R120). -/
theorem Corner.steady_keeps {k : Corner} (h : k.loadHeld = true → k.state = .held) (m : SteerMode)
    (loading : Bool) :
    (k.steady m loading).state.powered = true ∧
      ((k.steady m loading).loadHeld = true → (k.steady m loading).state = .held) := by
  unfold Corner.steady
  split
  · rename_i hf; exact ⟨by rw [hf]; rfl, h⟩
  · split
    · exact ⟨rfl, fun _ => rfl⟩
    · exact Corner.activate_keeps _ _

/-- A stall of a corner that no load holds leaves it in REST or FAILED, held by none (R97, R98). -/
theorem Corner.stall_keeps {k : Corner} (h : k.loadHeld = false) (now : Nat) :
    (k.stall now).state.powered = true ∧ (k.stall now).loadHeld = false := by
  unfold Corner.stall
  simp only []
  split
  · exact ⟨rfl, h⟩
  · exact ⟨rfl, rfl⟩

/-- Step 6 of an ACTIVE corner leaves it ACTIVE, in REST or FAILED, held by no load. -/
theorem Corner.work_keeps {k : Corner} (hs : k.state = .active) (h : k.loadHeld = false) (w : WorkingSet)
    (step now : Nat) :
    (k.work w step now).state.powered = true ∧ (k.work w step now).loadHeld = false := by
  have open_ : ∀ b : Corner, b.state.powered = true → b.loadHeld = false →
      b.runOpen.state.powered = true ∧ b.runOpen.loadHeld = false := by
    intro b hb hl
    unfold Corner.runOpen
    split
    · split
      · exact ⟨rfl, rfl⟩
      · exact ⟨hb, hl⟩
    · exact ⟨hb, hl⟩
  have stall_ : ∀ b : Corner, b.state.powered = true → b.loadHeld = false →
      (b.runStall w now).state.powered = true ∧ (b.runStall w now).loadHeld = false := by
    intro b hb hl
    unfold Corner.runStall
    split
    · split
      · exact Corner.stall_keeps hl now
      · exact ⟨hb, hl⟩
    · exact ⟨hb, hl⟩
  have hp : (k.slew w step).state.powered = true ∧ (k.slew w step).loadHeld = false := by
    unfold Corner.slew
    split <;> exact ⟨by simp [hs, CornerState.powered], h⟩
  have hr := stall_ _ hp.1 hp.2
  unfold Corner.work
  simp only []
  split
  · exact open_ _ hr.1 hr.2
  · exact hr

/-- Step 6 of a corner outside SEARCH keeps it ACTIVE, HELD, in REST or FAILED, and HELD where a load holds it. -/
theorem Corner.frame_keeps {k : Corner} (hp : k.state.powered = true) (h : k.loadHeld = true → k.state = .held)
    (w : WorkingSet) (mode : SteerMode) (loading : Bool) (step now : Nat) :
    (k.frame w mode loading step now).state.powered = true ∧
      ((k.frame w mode loading step now).loadHeld = true →
        (k.frame w mode loading step now).state = .held) := by
  have counted : (k.countDown mode loading).state.powered = true ∧
      ((k.countDown mode loading).loadHeld = true → (k.countDown mode loading).state = .held) := by
    unfold Corner.countDown Corner.endClearing
    split
    · split
      · exact Corner.activate_keeps _ _
      · exact ⟨hp, h⟩
    · split
      · split
        · split
          · exact ⟨hp, h⟩
          · exact Corner.activate_keeps _ _
        · exact ⟨hp, h⟩
      · exact ⟨hp, h⟩
  unfold Corner.frame
  simp only []
  split
  · rename_i ha
    have hl : (k.countDown mode loading).loadHeld = false := by
      by_contra hc
      have := counted.2 (by simpa using hc)
      rw [ha] at this
      cases this
    have hw := Corner.work_keeps ha hl w step now
    exact ⟨hw.1, fun e => by rw [hw.2] at e; cases e⟩
  · exact counted

/-! ## Lamps: the lit set, the generators, the channels -/

/-- The lit set as a check finds it (R171); nothing else of LMP changes there. -/
theorem State.findLit_lmp (s : State) : s.findLit.lmp = { s.lmp with lit := Vector.ofFn s.shines } := rfl

/-- After step 3 a function is lit exactly as R171 says. -/
theorem State.findLit_lit (s : State) (f : FunctionId) : s.findLit.lit f = s.shines f := by
  simp [State.lit, State.findLit]

/-- A generator after step 4 (R167). -/
theorem State.runGens_gen (s : State) (g : GenId) :
    s.runGens.lmp.gens.get g =
      if s.genNamed g then
        (if (s.lmp.gens.get g).running then s.lmp.gens.get g else { running := true, on := true, ms := 0 })
      else genStopped := by
  cases g <;> rfl

/-- The generator a channel blinks on is that of the lit function it carries (R171). -/
theorem State.blinker_eq_some (s : State) (ch : ChannelId) (g : GenId) :
    s.blinker ch = some g ↔
      ∃ f, s.ws.carried ch = some f ∧ s.lmp.lit[f] = true ∧ (s.ws.functions[f]).generator = .pg g := by
  unfold State.blinker State.lit
  cases hc : s.ws.carried ch with
  | none => simp
  | some f =>
    simp only [Option.some.injEq, exists_eq_left']
    cases (s.ws.functions[f]).generator with
    | steady => simp
    | pg h => cases s.lmp.lit[f] <;> simp

/-- Step 4 starts a channel's generator exactly when its lit function names one that does not run (R167). -/
theorem State.startsUnder_iff (s : State) (ch : ChannelId) :
    s.startsUnder ch = true ↔ ∃ g, s.blinker ch = some g ∧ (s.lmp.gens.get g).running = false := by
  unfold State.startsUnder
  cases hb : s.blinker ch with
  | none => simp
  | some g =>
    obtain ⟨f, -, lit, gen⟩ := (State.blinker_eq_some s ch g).mp hb
    have named : s.genNamed g = true := by
      simp only [State.genNamed, List.any_eq_true]
      exact ⟨f, by fin_cases f <;> decide, by simp [State.lit, lit]; exact gen⟩
    simp [State.startsGen, named]

/-- A channel after step 4 (R167): lit by the start of its generator, else as before. -/
theorem State.runGens_channel (s : State) (ch : ChannelId) :
    s.runGens.lmp.channels[ch] =
      if s.startsUnder ch then (s.lmp.channels[ch]).onEdge else s.lmp.channels[ch] := by
  simp [State.runGens, State.setLmp, Lmp.mapChannels]

/-- After step 5 a generator's edges act on the channels that carry a lit function with it (R164, R171, log 24). -/
theorem State.setChannels_drivenBy (s : State) (g : GenId) (ch : ChannelId) :
    s.setChannels.drivenBy g ch = decide (s.blinker ch = some g) := by
  simp [State.drivenBy, State.setChannels, State.setLmp, Lmp.mapChannels]

/-- The channels that a check may examine have failed or carry a function as it begins (R172). -/
theorem WorkingSet.mem_examinable (w : WorkingSet) (ch : ChannelId) :
    ch ∈ w.examinable ↔ w.failed[ch] = true ∨ (w.carried ch).isSome = true := by
  have mem : ch ∈ channelIds := by fin_cases ch <;> decide
  simp only [WorkingSet.examinable, WorkingSet.spare, List.mem_filter, mem, true_and]
  cases w.failed[ch] <;> cases w.carried ch <;> simp

/-! ## The channel map: moving a function (R165, R166) -/

/-- A search by a narrower test finds what the wider one found, where that passes it. -/
theorem find?_narrower {α : Type} {p q : α → Bool} {l : List α} (imp : ∀ x, q x = true → p x = true) {r : Option α}
    (found : l.find? p = r) (kept : ∀ x, r = some x → q x = true) : l.find? q = r := by
  induction l with
  | nil => exact found
  | cons a l ih =>
    rw [List.find?_cons] at found ⊢
    cases hp : p a with
    | true =>
      rw [hp] at found
      rw [kept a found.symm]
      exact found
    | false =>
      rw [hp] at found
      have hq : q a = false := by
        cases h : q a with
        | false => rfl
        | true => rw [imp a h] at hp; cases hp
      rw [hq]
      exact ih found

/-- A channel carries a function only if the map gives that function the channel. -/
theorem WorkingSet.map_of_carried {w : WorkingSet} {c : ChannelId} {f : FunctionId} (h : w.carried c = some f) :
    w.map[f] = some c := by
  simpa using List.find?_some h

/-- A function that moves away from a channel is no longer what the channel carries. -/
theorem WorkingSet.carried_mapTo_left (w : WorkingSet) (f : FunctionId) {dest : Option ChannelId} {c : ChannelId}
    (h : dest ≠ some c) : (w.mapTo f dest).carried c ≠ some f := by
  intro e
  have m := WorkingSet.map_of_carried e
  rw [show (w.mapTo f dest).map[f] = dest by simp [WorkingSet.mapTo]] at m
  exact h m

/-- Where a function moves, every channel but the two carries what it carried. -/
theorem WorkingSet.carried_mapTo_other {w : WorkingSet} {f : FunctionId} {dest : Option ChannelId} {c : ChannelId}
    (ht : dest ≠ some c) (hc : w.carried c ≠ some f) : (w.mapTo f dest).carried c = w.carried c := by
  have other : ∀ g : FunctionId, g ≠ f → (w.mapTo f dest).map[g] = w.map[g] := fun g h =>
    Vector.getElem_set_ne f.isLt g.isLt fun e => h (Fin.ext e.symm)
  refine find?_narrower (p := fun g => decide (w.map[g] = some c)) ?_ rfl ?_
  · intro g hg
    by_cases e : g = f
    · subst e
      exact absurd (show dest = some c by simpa [WorkingSet.mapTo] using hg) ht
    · rw [← other g e]; exact hg
  · intro g hg
    have e : g ≠ f := fun e => hc (e ▸ hg)
    rw [other g e]
    exact decide_eq_true (WorkingSet.map_of_carried hg)

/-- A channel whose function changes at a remap is dark from that moment (R165). -/
theorem State.remap_darkened (s : State) {w : WorkingSet} {c : ChannelId} (h : s.ws.carried c ≠ w.carried c) :
    (s.remap w).darkened c := by
  unfold State.darkened
  simp only [State.remap_channel, if_neg h]
  exact ⟨rfl, rfl, rfl, fun _ => rfl⟩

/-! ## The channel map: giving a spare -/

@[simp] theorem WorkingSet.giveSpare_failed (w : WorkingSet) (f : FunctionId) :
    (w.giveSpare f).failed = w.failed := by
  unfold WorkingSet.giveSpare; split
  · split <;> rfl
  · rfl

@[simp] theorem WorkingSet.giveSpare_functions (w : WorkingSet) (f : FunctionId) :
    (w.giveSpare f).functions = w.functions := by
  unfold WorkingSet.giveSpare; split
  · split <;> rfl
  · rfl

@[simp] theorem WorkingSet.giveSpare_items (w : WorkingSet) (f : FunctionId) : (w.giveSpare f).items = w.items := by
  unfold WorkingSet.giveSpare; split
  · split <;> rfl
  · rfl

@[simp] theorem WorkingSet.giveSpare_gens (w : WorkingSet) (f : FunctionId) : (w.giveSpare f).gens = w.gens := by
  unfold WorkingSet.giveSpare; split
  · split <;> rfl
  · rfl

/-- A function that is given a spare leaves every other function's channel (R173, R174, R175). -/
theorem WorkingSet.giveSpare_map_other (w : WorkingSet) {f g : FunctionId} (h : g ≠ f) :
    (w.giveSpare f).map[g] = w.map[g] := by
  have moved : ∀ c : Option ChannelId, (w.mapTo f c).map[g] = w.map[g] := fun c =>
    Vector.getElem_set_ne f.isLt g.isLt fun e => h (Fin.ext e.symm)
  unfold WorkingSet.giveSpare; split
  · split
    · exact moved _
    · rfl
  · rfl

/-- The function's own channel: the lowest spare where its record allows a remap and there is one. -/
theorem WorkingSet.giveSpare_map_self (w : WorkingSet) (f : FunctionId) :
    (w.giveSpare f).map[f] = if (w.functions[f]).remap then w.lowestSpare.or w.map[f] else w.map[f] := by
  unfold WorkingSet.giveSpare
  cases (w.functions[f]).remap with
  | false => rfl
  | true => cases h : w.lowestSpare <;> simp [WorkingSet.mapTo]

end Sys2Proof.Machine
end

