-- ==== Sys2Proof/Laws/Modes.lean ====
section
/-! SUPPORT. What a change of the vehicle mode and a change of the protection level do, said once: notices that stay
raised, the Mode Controller's state, the winch, CAU, the Settings Store. -/
namespace Sys2Proof.Machine

/-! ## A change of the vehicle mode (R28, R29, R33, R157) -/

/-- The deferred HELLO's reply leaves a raised notice raised. -/
theorem State.noticed_endStart {s : State} {n : Notice} (h : s.noticed n) : s.endStart.noticed n := by
  unfold State.endStart State.answerDeferredHello
  split
  · exact State.noticed_of_link rfl (State.noticed_answer (s := (s.setMdc { s.mdc with startDone := true }).window) _ _
      (State.noticed_of_link rfl h))
  · exact State.noticed_of_link rfl h

/-- The start sequence ends at this change of the mode (R33). -/
def State.startEnds (s : State) (m : VehicleMode) : Bool :=
  !s.mdc.startDone && (decide (m = .ready) || decide (m = .shutdown))

/-- The state after a change of the mode, the end of the start sequence apart. -/
def State.modeEntered (s : State) (m : VehicleMode) : State :=
  (((s.setMdc (s.mdc.enter s.ws m)).raise (.mode ⟨m, s.mdc.mode, s.mdc.wakeSet, s.mdc.wakeFirst⟩)).axleModeChange
    s.mdc.mode).winchModeChange m

/-- A change to another mode enters it, and ends the start sequence where it is to end. -/
theorem State.setMode_eq {s : State} {m : VehicleMode} (h : s.mdc.mode ≠ m) :
    s.setMode m = if s.startEnds m then (s.modeEntered m).endStart else s.modeEntered m := by
  unfold State.setMode
  rw [if_neg h]
  have same : (s.modeEntered m).mdc.startDone = s.mdc.startDone := by simp [State.modeEntered, Mdc.enter]
  unfold State.startEnds
  rw [← same]
  rfl

@[simp] theorem State.modeEntered_mdc (s : State) (m : VehicleMode) : (s.modeEntered m).mdc = s.mdc.enter s.ws m := by
  simp [State.modeEntered]

@[simp] theorem State.modeEntered_cau (s : State) (m : VehicleMode) : (s.modeEntered m).cau = s.cau := by
  simp [State.modeEntered]

@[simp] theorem State.modeEntered_pkm (s : State) (m : VehicleMode) : (s.modeEntered m).pkm = s.pkm := by
  simp [State.modeEntered]

@[simp] theorem State.modeEntered_sst (s : State) (m : VehicleMode) : (s.modeEntered m).sst = s.sst := by
  simp [State.modeEntered]

@[simp] theorem State.endStart_wnc (s : State) : s.endStart.wnc = s.wnc := by
  unfold State.endStart State.answerDeferredHello
  split <;> rfl

/-- The end of the start sequence: it has ended, no HELLO is deferred, and nothing else of MDC's state moves (R33). -/
@[simp] theorem State.endStart_mdc (s : State) :
    s.endStart.mdc = { s.mdc with startDone := true, deferredHello := none } := by
  unfold State.endStart State.answerDeferredHello
  split
  · rfl
  · rename_i h
    simp only [State.window_mdc, State.setMdc_mdc] at h ⊢
    rw [h]

/-- A deferred HELLO is answered as the start sequence ends, with the fields as they then stand (R30, R33). -/
theorem State.endStart_answers {s : State} {tag : Byte} (h : s.mdc.deferredHello = some tag) :
    replyFrame 0x01 tag .ok s.endStart.helloBody ∈ s.endStart.link.outgoing := by
  unfold State.endStart State.answerDeferredHello
  have deferred : (s.setMdc { s.mdc with startDone := true }).window.mdc.deferredHello = some tag := h
  split
  · rename_i other e
    rw [deferred] at e
    obtain rfl := Option.some.inj e
    simp only [State.setMdc_link]
    have sent := State.ok_sent (s.setMdc { s.mdc with startDone := true }).window ⟨0x01, tag, []⟩
      (s.setMdc { s.mdc with startDone := true }).window.helloBody
    unfold State.sent at sent
    rw [sent]
    exact List.mem_append_right _ (List.mem_singleton.mpr rfl)
  · rename_i e
    rw [deferred] at e
    cases e

/-- CAU's first window runs as the start sequence ends (R69). -/
@[simp] theorem State.endStart_cau (s : State) : s.endStart.cau = s.window.cau := by
  unfold State.endStart State.answerDeferredHello
  split <;> rfl

/-- Releasing the slot leaves the budget and the level it was computed for. -/
theorem Cau.release_budget (c : Cau) (lower : Bool) :
    (c.release lower).budget = c.budget ∧ (c.release lower).budgetLevel = c.budgetLevel := by
  unfold Cau.release
  split <;> exact ⟨rfl, rfl⟩

/-- So does the release test of a window. -/
theorem Cau.releaseTest_budget (c : Cau) (w : WorkingSet) (run : Bool) (inSurge : Consumer → Bool) :
    (c.releaseTest w run inSurge).budget = c.budget ∧
      (c.releaseTest w run inSurge).budgetLevel = c.budgetLevel := by
  unfold Cau.releaseTest
  split
  · exact ⟨rfl, rfl⟩
  · dsimp only
    split_ifs <;> first | exact ⟨rfl, rfl⟩ | exact Cau.release_budget _ _

/-- So does its arbitration. -/
theorem Cau.arbitrate_budget (c : Cau) (run : Bool) (level : Level) (inSurge : Consumer → Bool) :
    (c.arbitrate run level inSurge).budget = c.budget ∧
      (c.arbitrate run level inSurge).budgetLevel = c.budgetLevel := by
  unfold Cau.arbitrate
  split
  · split <;> exact ⟨rfl, rfl⟩
  · exact ⟨rfl, rfl⟩

/-- So does the calm count. -/
theorem Cau.countCalm_budget (c : Cau) :
    c.countCalm.budget = c.budget ∧ c.countCalm.budgetLevel = c.budgetLevel := by
  unfold Cau.countCalm
  split
  · dsimp only
    split <;> exact ⟨rfl, rfl⟩
  · exact ⟨rfl, rfl⟩

/-- A window leaves budget and ceilings for the level as it stands (R69, R70, R73). -/
theorem State.window_level (s : State) :
    s.window.cau.budgetLevel = s.pkm.level ∧ s.window.cau.budget = budgetFor s.ws s.pkm.level ∧
      ∀ k, s.window.grantRule k := by
  refine ⟨?_, ?_, fun k => by cases k <;> rfl⟩ <;> unfold State.window <;>
    simp only [State.setCau_cau, Cau.writeCeilings, Cau.countCalm_budget, Cau.arbitrate_budget, Cau.countQuiet,
      Cau.releaseTest_budget] <;> rfl

/-- The winch at a change of the mode (R157, R159). -/
theorem State.winchModeChange_wnc (s : State) (m : VehicleMode) :
    (s.winchModeChange m).wnc =
      if m ≠ .run ∧ s.wnc.state.moves = true then s.wnc.endByLoad s.ws true
      else if m = .shutdown ∧ s.wnc.state.solenoid = true then s.wnc.engage
      else s.wnc := by
  have still : (s.wnc.endByLoad s.ws true).state.solenoid = false := by
    unfold Wnc.endByLoad Wnc.endMovement Wnc.byLoad
    split <;> rfl
  unfold State.winchModeChange State.forcedEngage
  by_cases run : m = .run
  · simp [run]
  · cases moves : s.wnc.state.moves <;> cases powered : s.wnc.state.solenoid <;> by_cases cut : m = .shutdown <;>
      simp [run, powered, cut, still, State.winchNotice]

/-- A notice that was raised is so after the winch has acted, unless the winch's own replaced it. -/
theorem State.noticed_winchModeChange {s : State} {n : Notice} (m : VehicleMode) (other : n.kind ≠ .winch)
    (h : s.noticed n) : (s.winchModeChange m).noticed n := by
  have engages : ∀ t : State, t.noticed n → ∀ c, (t.forcedEngage c).noticed n := by
    intro t ht c
    unfold State.forcedEngage
    split
    · exact State.noticed_raise other (State.noticed_of_link rfl ht)
    · exact ht
  have ended : ∀ w : Wnc, (s.setWnc w).noticed n := fun w => State.noticed_of_link rfl h
  unfold State.winchModeChange
  split
  · exact h
  · dsimp only
    split <;> split <;> first | exact engages _ (ended _) _ | exact engages _ h _ | exact ended _

/-- At SHUTDOWN a powered solenoid's forced engage is told (R159, R161). -/
theorem State.winchModeChange_noticed {s : State} (powered : s.wnc.state.solenoid = true)
    (inMask : s.ws.notices .winch = true) :
    (s.winchModeChange .shutdown).noticed
      (.winch ⟨.forcedEngage, some .shutdown, .clutchEngaging, .moving, s.wnc.line, s.wnc.load⟩) := by
  have still : s.wnc.state.moves = false := by
    cases h : s.wnc.state <;> simp_all [WinchState.moves, WinchState.solenoid]
  unfold State.winchModeChange State.forcedEngage
  simp only [reduceCtorEq, if_false, if_true, still, Bool.false_eq_true, powered]
  exact State.raise_noticed _ inMask

/-- A change to the same mode does not occur (R28). -/
theorem State.setMode_of_eq {s : State} {m : VehicleMode} (h : s.mdc.mode = m) : s.setMode m = s := by
  unfold State.setMode
  rw [if_pos h]

/-- The Mode Controller's state after a change of the mode (R28 to R33). -/
theorem State.setMode_mdc (s : State) (m : VehicleMode) :
    (s.setMode m).mdc =
      if s.mdc.mode = m then s.mdc
      else if s.startEnds m then { s.mdc.enter s.ws m with startDone := true, deferredHello := none }
      else s.mdc.enter s.ws m := by
  by_cases h : s.mdc.mode = m
  · rw [State.setMode_of_eq h, if_pos h]
  · rw [State.setMode_eq h, if_neg h]
    split <;> simp

/-- The winch after a change to another mode (R157, R159). -/
theorem State.setMode_wnc {s : State} {m : VehicleMode} (h : s.mdc.mode ≠ m) :
    (s.setMode m).wnc =
      if m ≠ .run ∧ s.wnc.state.moves = true then s.wnc.endByLoad s.ws true
      else if m = .shutdown ∧ s.wnc.state.solenoid = true then s.wnc.engage
      else s.wnc := by
  have entered := State.winchModeChange_wnc (((s.setMdc (s.mdc.enter s.ws m)).raise
    (.mode ⟨m, s.mdc.mode, s.mdc.wakeSet, s.mdc.wakeFirst⟩)).axleModeChange s.mdc.mode) m
  simp only [State.ws, State.axleModeChange_wnc, State.axleModeChange_sst, State.raise_wnc, State.raise_sst,
    State.setMdc_wnc, State.setMdc_sst] at entered
  rw [State.setMode_eq h]
  split
  · rw [State.endStart_wnc]; exact entered
  · exact entered

/-- What was told before the end of the start sequence, or where it does not end, is told after the change. -/
theorem State.setMode_noticed_of_entered {s : State} {m : VehicleMode} {n : Notice} (h : s.mdc.mode ≠ m)
    (told : (s.modeEntered m).noticed n) : (s.setMode m).noticed n := by
  rw [State.setMode_eq h]
  split
  · exact State.noticed_endStart told
  · exact told

/-- A raised notice that is neither MODE nor WINCH stays raised through a change of the mode. -/
theorem State.noticed_setMode {s : State} {n : Notice} (m : VehicleMode) (mode : n.kind ≠ .mode)
    (winch : n.kind ≠ .winch) (h : s.noticed n) : (s.setMode m).noticed n := by
  by_cases same : s.mdc.mode = m
  · rwa [State.setMode_of_eq same]
  · refine State.setMode_noticed_of_entered same (State.noticed_winchModeChange m winch ?_)
    exact State.noticed_of_link (State.axleModeChange_link _ _)
      (State.noticed_raise mode (State.noticed_of_link rfl h))

/-- What the other blocks do at a change of the mode (R29, R131, R157, R159). -/
theorem State.setMode_followed (s : State) (m : VehicleMode) : s.modeFollowed (s.setMode m) := by
  by_cases same : s.mdc.mode = m
  · rw [State.setMode_of_eq same]
    refine ⟨?_, ?_, fun h => absurd rfl h⟩
    · simp [State.axlesFollowMode]
    · simp [State.winchFollowsMode]
  refine ⟨?_, ⟨?_, ?_⟩, fun _ inMask => ?_⟩
  · unfold State.axlesFollowMode
    rw [State.setMode_drc, State.setMode_mode]
  · rw [State.setMode_wnc same]
    simp only [State.setMode_mode]
    have solenoid : s.wnc.state.solenoid = true ↔ s.wnc.state = .clutchReleasing ∨ s.wnc.state = .freespool := by
      cases s.wnc.state <;> simp [WinchState.solenoid]
    have moved : ¬m = s.mdc.mode := fun e => same e.symm
    by_cases run : m = .run
    · simp [run]
    · simp only [solenoid, ne_eq, run, not_false_eq_true, true_and, moved]
      rfl
  · rintro ⟨-, cut, frees⟩ inMask
    rw [State.setMode_mode] at cut
    subst cut
    refine State.setMode_noticed_of_entered same ?_
    have told := State.winchModeChange_noticed
      (s := ((s.setMdc (s.mdc.enter s.ws .shutdown)).raise
        (.mode ⟨.shutdown, s.mdc.mode, s.mdc.wakeSet, s.mdc.wakeFirst⟩)).axleModeChange s.mdc.mode)
    simp only [State.axleModeChange_wnc, State.raise_wnc, State.setMdc_wnc] at told
    refine told ?_ ?_
    · obtain e | e := frees <;> rw [e] <;> rfl
    · simpa [State.ws] using inMask
  · refine State.setMode_noticed_of_entered same (State.noticed_winchModeChange m (by simp [Notice.kind]) ?_)
    refine State.noticed_of_link (State.axleModeChange_link _ _) ?_
    have record : (s.setMode m).mdc.wakeSet = s.mdc.wakeSet ∧ (s.setMode m).mdc.wakeFirst = s.mdc.wakeFirst := by
      rw [State.setMode_mdc, if_neg same]
      split <;> exact ⟨rfl, rfl⟩
    have inMask : s.sst.working.notices .mode = true := by simpa [State.ws] using inMask
    rw [State.setMode_mode, record.1, record.2]
    exact State.raise_noticed _ inMask

/-- What follows the mode is judged by the modes, the axles, the winch and the settings before. -/
theorem State.modeFollowed_from {s b t : State} (mode : b.mdc.mode = s.mdc.mode) (drc : b.drc = s.drc)
    (wnc : b.wnc = s.wnc) (ws : b.ws = s.ws) (h : b.modeFollowed t) : s.modeFollowed t := by
  simpa only [State.modeFollowed, State.axlesFollowMode, State.winchFollowsMode, State.modeNoticed, mode, drc, wnc, ws]
    using h

/-- Holding the auto-park timer leaves what follows the mode. -/
theorem State.modeFollowed_held {s t : State} (h : s.modeFollowed t) : s.modeFollowed t.holdAutoPark := by
  simpa only [State.modeFollowed, State.axlesFollowMode, State.winchFollowsMode, State.modeNoticed, State.noticed,
    State.ws, State.holdAutoPark_mdc_mode, State.holdAutoPark_drc, State.holdAutoPark_wnc, State.holdAutoPark_link,
    State.holdAutoPark_sst, State.holdAutoPark_mdc_wakeSet, State.holdAutoPark_mdc_wakeFirst] using h

/-! ## Frames, one operation after another -/

/-- What changes nothing outside a list of parts, and what follows it, change nothing outside it together. -/
theorem State.changesOnly_trans {s u t : State} {parts : List Part} (first : s.changesOnly u parts)
    (after : u.changesOnly t parts) : s.changesOnly t parts := by
  refine ⟨after.1.trans first.1, after.2.1.trans first.2.1, after.2.2.1.trans first.2.2.1, fun p hp => ?_⟩
  have a := first.2.2.2 p hp
  have b := after.2.2.2 p hp
  cases p
  case timers => unfold State.sameIn at a b ⊢; rw [b, a]
  case store => unfold State.sameIn at a b ⊢; rw [b, a]
  all_goals simp_all [State.sameIn]

/-- What changes nothing outside a list of parts changes nothing outside a longer one. -/
theorem State.changesOnly_mono {s t : State} {parts more : List Part} (h : s.changesOnly t parts)
    (sub : ∀ p ∈ parts, p ∈ more) : s.changesOnly t more :=
  ⟨h.1, h.2.1, h.2.2.1, fun p hp => h.2.2.2 p fun inside => hp (sub p inside)⟩

/-- A raised notice changes the way out alone. -/
theorem State.raise_changes (s : State) (n : Notice) : s.changesOnly (s.raise n) [.output] := by
  refine ⟨rfl, rfl, rfl, fun p hp => ?_⟩
  cases p <;> simp_all [State.sameIn, State.raise_link]

/-- So does a reply. -/
theorem State.answer_changes (s : State) (q : RawRequest) (p : List Byte) : s.changesOnly (s.answer q p) [.output] := by
  refine ⟨rfl, rfl, rfl, fun p hp => ?_⟩
  cases p <;> simp_all [State.sameIn, State.answer_link]

/-- The winch's act at a change of the mode changes the winch and the way out. -/
theorem State.winchModeChange_changes (s : State) (m : VehicleMode) :
    s.changesOnly (s.winchModeChange m) [.output, .wnc] := by
  have own : ∀ (u : State) (w : Wnc), u.changesOnly (u.setWnc w) [.output, .wnc] := by
    intro u w
    refine ⟨rfl, rfl, rfl, fun p hp => ?_⟩
    cases p <;> simp_all [State.sameIn]
  have engages : ∀ (u : State) (c : EngageCause), u.changesOnly (u.forcedEngage c) [.output, .wnc] := by
    intro u c
    unfold State.forcedEngage
    split
    · exact State.changesOnly_trans (own u _) (State.changesOnly_mono (State.raise_changes _ _) (by simp))
    · exact own u u.wnc
  unfold State.winchModeChange
  split
  · exact own s s.wnc
  · dsimp only
    split <;> split
    · exact State.changesOnly_trans (own s _) (engages _ _)
    · exact engages s _
    · exact own s _
    · exact own s s.wnc

/-- A change of the mode changes MDC, the axles, the winch, the way out, and CAU where the start sequence ends. -/
theorem State.setMode_changes (s : State) (m : VehicleMode) :
    s.changesOnly (s.setMode m) [.output, .mode, .timers, .cau, .drc, .wnc] := by
  have mdc : ∀ (u : State) (d : Mdc), u.changesOnly (u.setMdc d) [.output, .mode, .timers, .cau, .drc, .wnc] := by
    intro u d
    refine ⟨rfl, rfl, rfl, fun p hp => ?_⟩
    cases p <;> simp_all [State.sameIn]
  have axles : ∀ u : State, u.changesOnly (u.axleModeChange s.mdc.mode) [.output, .mode, .timers, .cau, .drc, .wnc] := by
    intro u
    unfold State.axleModeChange
    split <;> refine ⟨rfl, rfl, rfl, fun p hp => ?_⟩ <;> cases p <;> simp_all [State.sameIn]
  have ends : ∀ u : State, u.changesOnly u.endStart [.output, .mode, .timers, .cau, .drc, .wnc] := by
    intro u
    have window : u.changesOnly (u.setMdc { u.mdc with startDone := true }).window
        [.output, .mode, .timers, .cau, .drc, .wnc] := by
      refine ⟨rfl, rfl, rfl, fun p hp => ?_⟩
      cases p <;> simp_all [State.sameIn]
    unfold State.endStart State.answerDeferredHello
    split
    · exact State.changesOnly_trans window (State.changesOnly_trans
        (State.changesOnly_mono (State.answer_changes _ _ _) (by simp)) (mdc _ _))
    · exact window
  have entered : s.changesOnly (s.modeEntered m) [.output, .mode, .timers, .cau, .drc, .wnc] :=
    State.changesOnly_trans (State.changesOnly_trans (State.changesOnly_trans (mdc s _)
      (State.changesOnly_mono (State.raise_changes _ _) (by simp))) (axles _))
      (State.changesOnly_mono (State.winchModeChange_changes _ m) (by simp))
  by_cases same : s.mdc.mode = m
  · rw [State.setMode_of_eq same]
    exact mdc s s.mdc
  · rw [State.setMode_eq same]
    split
    · exact State.changesOnly_trans entered (ends _)
    · exact entered

/-! ## MDC at a change of the level (R44, R47) -/

/-- The mode after a change of the level (R44, R47). -/
def State.levelMode (s : State) (new : Level) : VehicleMode :=
  if new = .cutoff then (if cutoffEnds s.mdc.mode then .shutdown else s.mdc.mode)
  else if s.mdc.mode = .park ∧ s.ws.honours .pack = true then .centering
  else s.mdc.mode

/-- The wake record at a change of the level, before the mode changes (R44). -/
def State.levelRecord (s : State) (new : Level) : Mdc :=
  let d := if s.ws.honours .pack then s.mdc.recordCause .pack else s.mdc
  if new ≠ .cutoff ∧ s.mdc.mode = .park ∧ s.ws.honours .pack = true then { d with wakeCentering := true } else d

theorem Mdc.recordCause_mode (d : Mdc) (c : WakeCause) : (d.recordCause c).mode = d.mode := by
  unfold Mdc.recordCause
  (repeat' split) <;> rfl

theorem State.levelRecord_mode (s : State) (new : Level) : (s.levelRecord new).mode = s.mdc.mode := by
  unfold State.levelRecord
  dsimp only
  (repeat' split) <;> simp [Mdc.recordCause_mode]

/-- MDC's whole act at a change of the level: the record, then the change of the mode. -/
theorem State.modeOnLevel_eq (s : State) (new : Level) :
    s.modeOnLevel new = (s.setMdc (s.levelRecord new)).setMode (s.levelMode new) := by
  have stays : ∀ d : Mdc, d.mode = s.mdc.mode → (s.setMdc d).setMode s.mdc.mode = s.setMdc d :=
    fun d h => State.setMode_of_eq h
  have idle : ∀ m, s.mdc.mode = m → s.setMode m = s := fun m => State.setMode_of_eq
  have self : s.setMdc s.mdc = s := rfl
  unfold State.modeOnLevel State.levelMode State.levelRecord State.wake
  by_cases cut : new = .cutoff <;> cases honoured : s.ws.honours .pack <;> by_cases parked : s.mdc.mode = .park <;>
    cases ends : cutoffEnds s.mdc.mode <;>
    simp_all [cutoffEnds, Mdc.recordCause_mode]

/-! ## A change of the level (R63) -/

/-- A change of the level before MDC acts: PKM, CAU, and at CUTOFF the Settings Store (R63, log 53). -/
def State.levelEntered (s : State) (new : Level) (cause : LevelCause) : State :=
  let u := (s.enterLevel new cause).recomputeCau
  if new = .cutoff then u.abandonWrite else u

theorem State.setLevel_eq (s : State) (new : Level) (cause : LevelCause) :
    s.setLevel new cause = (s.levelEntered new cause).modeOnLevel new := rfl

/-- An abandoned write leaves all but the Settings Store and the link (R181). -/
theorem State.abandonWrite_rest (s : State) :
    s.abandonWrite.pending = s.pending ∧ s.abandonWrite.powered = s.powered ∧
      s.abandonWrite.storeLock = s.storeLock ∧ s.abandonWrite.intent = s.intent ∧ s.abandonWrite.mdc = s.mdc ∧
      s.abandonWrite.pkm = s.pkm ∧ s.abandonWrite.cau = s.cau ∧ s.abandonWrite.stc = s.stc ∧
      s.abandonWrite.tse = s.tse ∧ s.abandonWrite.drc = s.drc ∧ s.abandonWrite.wnc = s.wnc ∧
      s.abandonWrite.lmp = s.lmp ∧ s.abandonWrite.ws = s.ws := by
  unfold State.abandonWrite
  split <;> exact ⟨rfl, rfl, rfl, rfl, rfl, rfl, rfl, rfl, rfl, rfl, rfl, rfl, rfl⟩

/-- So does a change of the level before MDC acts, but for PKM and CAU. -/
theorem State.levelEntered_rest (s : State) (new : Level) (cause : LevelCause) :
    let e := s.levelEntered new cause
    e.pending = s.pending ∧ e.powered = s.powered ∧ e.storeLock = s.storeLock ∧ e.intent = s.intent ∧ e.mdc = s.mdc ∧
      e.pkm = { s.pkm with level := new, recovery := 0, lastCause := some cause } ∧
      e.cau = (s.enterLevel new cause).recomputeCau.cau ∧ e.stc = s.stc ∧ e.tse = s.tse ∧ e.drc = s.drc ∧
      e.wnc = s.wnc ∧ e.lmp = s.lmp ∧ e.ws = s.ws := by
  have kept : ∀ u : State, u = (s.enterLevel new cause).recomputeCau →
      u.pending = s.pending ∧ u.powered = s.powered ∧ u.storeLock = s.storeLock ∧ u.intent = s.intent ∧
      u.mdc = s.mdc ∧ u.pkm = { s.pkm with level := new, recovery := 0, lastCause := some cause } ∧
      u.cau = (s.enterLevel new cause).recomputeCau.cau ∧ u.stc = s.stc ∧ u.tse = s.tse ∧ u.drc = s.drc ∧
      u.wnc = s.wnc ∧ u.lmp = s.lmp ∧ u.ws = s.ws := by
    rintro u rfl
    simp [State.enterLevel, State.ws]
  dsimp only
  unfold State.levelEntered
  dsimp only
  split
  · obtain ⟨a1, a2, a3, a4, a5, a6, a7, a8, a9, a10, a11, a12, a13⟩ :=
      (s.enterLevel new cause).recomputeCau.abandonWrite_rest
    rw [a1, a2, a3, a4, a5, a6, a7, a8, a9, a10, a11, a12, a13]
    exact kept _ rfl
  · exact kept _ rfl

/-- MDC's state after a change of the level, the auto-park timer apart (R44, R47). -/
theorem State.modeOnLevel_mdc (s : State) (new : Level) :
    let honoured := (s.ws.nat Item.wakeMask).testBit 3 = true
    let ends := new = .cutoff ∧ (s.mdc.mode = .centering ∨ s.mdc.mode = .ready ∨ s.mdc.mode = .run ∨
      s.mdc.mode = .failsafe ∨ s.mdc.mode = .park)
    let wakes := new ≠ .cutoff ∧ s.mdc.mode = .park ∧ honoured
    let changes := ends ∨ wakes
    let recorded := honoured ∧ (s.mdc.mode = .park ∨ s.mdc.mode = .centering ∧ s.mdc.wakeCentering = true)
    (s.modeOnLevel new).mdc = { s.mdc with
      mode := if ends then .shutdown else if wakes then .centering else s.mdc.mode
      stageMs := if changes then 0 else s.mdc.stageMs
      silenceMs := if changes then 0 else s.mdc.silenceMs
      autoParkMs := if changes then 0 else s.mdc.autoParkMs
      parkTimer := if changes then none else s.mdc.parkTimer
      wakeSet := if recorded then { s.mdc.wakeSet with pack := true } else s.mdc.wakeSet
      wakeFirst := if honoured ∧ s.mdc.mode = .park then some .pack else s.mdc.wakeFirst
      wakeCentering := if changes then decide wakes else s.mdc.wakeCentering
      startDone := s.mdc.startDone || decide ends
      deferredHello := if ends ∧ s.mdc.startDone = false then none else s.mdc.deferredHello } := by
  have mask : s.ws.honours .pack = (s.ws.nat Item.wakeMask).testBit 3 := rfl
  rw [State.modeOnLevel_eq, State.setMode_mdc]
  unfold State.levelMode State.levelRecord State.startEnds
  rw [mask]
  generalize (s.ws.nat Item.wakeMask).testBit 3 = honoured
  simp only [State.setMdc_mdc]
  generalize s.mdc = d
  obtain ⟨mode, _, _, _, _, _, _, _, _, _, _, _, wakeCentering, _, _, startDone, _⟩ := d
  by_cases cut : new = .cutoff <;> cases honoured <;> cases mode <;> cases startDone <;> cases wakeCentering <;>
    simp [cut, cutoffEnds, Mdc.recordCause, Mdc.enter, WakeSet.add]

/-- Holding the auto-park timer leaves whether it runs (R41). -/
@[simp] theorem State.holdAutoPark_autoParkRuns (s : State) : s.holdAutoPark.autoParkRuns = s.autoParkRuns := by
  unfold State.holdAutoPark
  split <;> rfl

/-- The auto-park timer runs in RUN alone (R41). -/
theorem State.autoParkRuns_run {s : State} (h : s.autoParkRuns = true) : s.mdc.mode = .run := by
  simp only [State.autoParkRuns, Bool.and_eq_true, decide_eq_true_eq] at h
  exact h.1.1.1

/-- The Settings Store after a change of the level, before MDC acts (R181). -/
theorem State.levelEntered_sst (s : State) (new : Level) (cause : LevelCause) :
    (s.levelEntered new cause).sst =
      if new = .cutoff ∧ s.sst.store = .writing then
        { s.sst with store := .invalid, snapshot := none, writeMs := 0, image := s.sst.image.spoil }
      else s.sst := by
  have same : (s.enterLevel new cause).recomputeCau.sst = s.sst := by simp [State.enterLevel]
  unfold State.levelEntered State.abandonWrite
  dsimp only
  rw [same]
  by_cases cut : new = .cutoff <;> by_cases writing : s.sst.store = .writing <;> simp [cut, writing, State.enterLevel]

/-- An abandoned write is told (R181, R183). -/
theorem State.levelEntered_noticed {s : State} (cause : LevelCause) (writing : s.sst.store = .writing)
    (inMask : s.ws.notices .store = true) :
    (s.levelEntered .cutoff cause).noticed (.store ⟨.abandoned, .invalid⟩) := by
  have same : (s.enterLevel .cutoff cause).recomputeCau.sst = s.sst := by simp [State.enterLevel]
  unfold State.levelEntered State.abandonWrite
  simp only [if_true]
  rw [same, if_pos writing]
  exact State.raise_noticed _ inMask

/-- CAU after a change of the level, before MDC acts: recomputed for the new level, and as it stood before the end of the
start sequence (R74; log 12). -/
theorem State.levelEntered_cau (s : State) (new : Level) (cause : LevelCause) :
    (s.setPkm (s.levelEntered new cause).pkm).recomputes (s.levelEntered new cause) := by
  obtain ⟨-, -, -, -, -, pkm, cau, -, -, -, -, -, ws⟩ := s.levelEntered_rest new cause
  have done := (s.enterLevel new cause).recomputeCau_recomputes
  unfold State.recomputes State.grantRule at done ⊢
  rw [← cau] at done
  have ws' : (s.enterLevel new cause).recomputeCau.ws = s.ws := by simp [State.enterLevel, State.ws]
  rw [ws'] at done
  rw [pkm, ws]
  exact done

/-- CAU after a change of the mode: its first window where the start sequence ends, else as it stood (R69). -/
theorem State.setMode_cau {s : State} {m : VehicleMode} (h : s.mdc.mode ≠ m) :
    (s.setMode m).cau = if s.startEnds m then (s.modeEntered m).window.cau else s.cau := by
  rw [State.setMode_eq h]
  split <;> simp

/-- A write of MDC's state changes the mode and the timers alone. -/
theorem State.setMdc_changes (s : State) (d : Mdc) : s.changesOnly (s.setMdc d) [.mode, .timers] := by
  refine ⟨rfl, rfl, rfl, fun p hp => ?_⟩
  cases p <;> simp_all [State.sameIn]

/-- Holding the auto-park timer changes MDC's timers alone. -/
theorem State.holdAutoPark_changes (s : State) : s.changesOnly s.holdAutoPark [.mode, .timers] := by
  unfold State.holdAutoPark
  split
  · exact State.setMdc_changes s s.mdc
  · exact State.setMdc_changes s _

/-- A change of the level before MDC acts changes PKM, CAU, the Settings Store and the way out. -/
theorem State.levelEntered_changes (s : State) (new : Level) (cause : LevelCause) :
    s.changesOnly (s.levelEntered new cause) [.output, .pkm, .cau, .store] := by
  have pkm : ∀ (u : State) (p : Pkm), u.changesOnly (u.setPkm p) [.output, .pkm, .cau, .store] := by
    intro u p
    refine ⟨rfl, rfl, rfl, fun p hp => ?_⟩
    cases p <;> simp_all [State.sameIn]
  have cau : ∀ u : State, u.changesOnly u.recomputeCau [.output, .pkm, .cau, .store] := by
    intro u
    have set : ∀ c, u.changesOnly (u.setCau c) [.output, .pkm, .cau, .store] := fun c => by
      refine ⟨rfl, rfl, rfl, fun p hp => ?_⟩
      cases p <;> simp_all [State.sameIn]
    unfold State.recomputeCau
    split
    · exact set _
    · exact set u.cau
  have abandons : ∀ u : State, u.changesOnly u.abandonWrite [.output, .pkm, .cau, .store] := by
    intro u
    have store : u.changesOnly (u.setSst { u.sst with
        store := .invalid, snapshot := none, writeMs := 0, image := u.sst.image.spoil })
        [.output, .pkm, .cau, .store] := by
      refine ⟨rfl, rfl, rfl, fun p hp => ?_⟩
      cases p <;> simp_all [State.sameIn]
    unfold State.abandonWrite
    split
    · exact State.changesOnly_trans store (State.changesOnly_mono (State.raise_changes _ _) (by simp))
    · exact pkm u u.pkm
  have entered : s.changesOnly (s.enterLevel new cause).recomputeCau [.output, .pkm, .cau, .store] :=
    State.changesOnly_trans (State.changesOnly_trans (pkm s _)
      (State.changesOnly_mono (State.raise_changes _ _) (by simp))) (cau _)
  unfold State.levelEntered
  dsimp only
  split
  · exact State.changesOnly_trans entered (abandons _)
  · exact entered

/-- A change of the level does, with the auto-park timer held after it, what R63 has its readers do. -/
theorem State.setLevel_followed (s : State) (new : Level) (cause : LevelCause) :
    s.followsLevel (s.setLevel new cause).holdAutoPark := by
  obtain ⟨-, -, -, -, mdc, pkm, -, -, -, drc, wnc, -, ws⟩ := s.levelEntered_rest new cause
  have sst := s.levelEntered_sst new cause
  have recomputed := s.levelEntered_cau new cause
  have told : new = .cutoff → s.sst.store = .writing → s.ws.notices .store = true →
      (s.levelEntered new cause).noticed (.store ⟨.abandoned, .invalid⟩) := by
    rintro rfl
    exact State.levelEntered_noticed cause
  have frame := s.levelEntered_changes new cause
  rw [State.setLevel_eq]
  have record := (s.levelEntered new cause).modeOnLevel_mdc new
  rw [State.modeOnLevel_eq] at record ⊢
  generalize s.levelEntered new cause = e at *
  generalize levelled : (e.setMdc (e.levelRecord new)) = b at *
  have base : b.mdc.mode = s.mdc.mode := by
    rw [← levelled, State.setMdc_mdc, State.levelRecord_mode, mdc]
  have deferred : b.mdc.deferredHello = s.mdc.deferredHello ∧ b.mdc.startDone = s.mdc.startDone := by
    rw [← levelled, State.setMdc_mdc, ← mdc]
    unfold State.levelRecord Mdc.recordCause
    dsimp only
    (repeat' split) <;> exact ⟨rfl, rfl⟩
  have b_drc : b.drc = s.drc := by rw [← levelled]; exact drc
  have b_wnc : b.wnc = s.wnc := by rw [← levelled]; exact wnc
  have b_ws : b.ws = s.ws := by rw [← levelled]; exact ws
  have b_pkm : b.pkm.level = new := by rw [← levelled]; simp [pkm]
  have b_sst : b.sst = e.sst := by rw [← levelled]; rfl
  have b_cau : b.cau = e.cau := by rw [← levelled]; rfl
  have b_link : b.link = e.link := by rw [← levelled]; rfl
  have mode : e.levelMode new = (if new = .cutoff then (if cutoffEnds s.mdc.mode then .shutdown else s.mdc.mode)
      else if s.mdc.mode = .park ∧ s.ws.honours .pack = true then .centering else s.mdc.mode) := by
    unfold State.levelMode
    rw [mdc, ws]
  have followed : s.modeFollowed (b.setMode (e.levelMode new)) :=
    State.modeFollowed_from base b_drc b_wnc b_ws (State.setMode_followed _ _)
  have changes : s.changesOnly (b.setMode (e.levelMode new)).holdAutoPark
      [.output, .mode, .timers, .pkm, .cau, .drc, .wnc, .store] := by
    have recorded : e.changesOnly b [.mode, .timers] := by rw [← levelled]; exact State.setMdc_changes _ _
    exact State.changesOnly_trans (State.changesOnly_mono frame (by simp))
      (State.changesOnly_trans (State.changesOnly_mono recorded (by simp))
      (State.changesOnly_trans (State.changesOnly_mono (State.setMode_changes b _) (by simp))
        (State.changesOnly_mono (State.holdAutoPark_changes _) (by simp))))
  have endsOnly : ∀ m, b.startEnds m = true ↔ s.mdc.startDone = false ∧ (m = .ready ∨ m = .shutdown) := by
    intro m
    simp [State.startEnds, deferred.2]
  unfold State.followsLevel State.storeFollowsLevel
  simp only [State.holdAutoPark_pkm, State.setMode_pkm, b_pkm, State.holdAutoPark_sst, State.setMode_sst, b_sst,
    State.holdAutoPark_link, State.holdAutoPark_autoParkRuns, State.holdAutoPark_cau]
  refine ⟨?_, ?_, ?_, ?_, ?_, ⟨?_, ?_⟩, State.modeFollowed_held followed, changes⟩
  · have honours : (e.ws.nat Item.wakeMask).testBit 3 = (s.ws.nat Item.wakeMask).testBit 3 := by rw [ws]
    rw [mdc, honours] at record
    unfold State.holdAutoPark
    split
    · rename_i runs
      have run := State.autoParkRuns_run runs
      rw [record] at run ⊢
      dsimp only at run
      split_ifs at run with ends wakes
      simp [ends, wakes]
    · rw [State.setMdc_mdc, record]
  · intro ends notDone tag asked
    have still : b.mdc.mode ≠ .shutdown := by rw [base]; rcases ends.2 with h | h | h | h | h <;> simp [h]
    have down : e.levelMode new = .shutdown := by
      rw [mode, if_pos ends.1]; rcases ends.2 with h | h | h | h | h <;> simp [h, cutoffEnds]
    have answered := State.endStart_answers (s := b.modeEntered .shutdown) (tag := tag)
      (by rw [State.modeEntered_mdc]; exact deferred.1.trans asked)
    have turned : b.setMode (e.levelMode new) = (b.modeEntered .shutdown).endStart := by
      rw [down, State.setMode_eq still, if_pos ((endsOnly _).mpr ⟨notDone, .inr rfl⟩)]
    rw [← turned] at answered
    rwa [show (b.setMode (e.levelMode new)).holdAutoPark.helloBody = (b.setMode (e.levelMode new)).helloBody by
      simp [State.helloBody, State.ws]]
  · intro done
    have same : (b.setMode (e.levelMode new)).cau = e.cau := by
      by_cases still : b.mdc.mode = e.levelMode new
      · rw [State.setMode_of_eq still, b_cau]
      · rw [State.setMode_cau still, if_neg (by rw [endsOnly]; simp [done]), b_cau]
    have b_pkm' : b.pkm = e.pkm := by rw [← levelled]; rfl
    rw [b_pkm']
    simpa only [State.recomputes, State.grantRule, State.ws, State.holdAutoPark_cau, State.holdAutoPark_sst,
      State.setMode_sst, b_sst, same] using recomputed
  · intro notDone stays
    have unended : b.startEnds (e.levelMode new) = true → b.mdc.mode = e.levelMode new := by
      rw [endsOnly, base, mode]
      rintro ⟨-, h⟩
      by_cases cut : new = .cutoff
      · have keeps : ¬cutoffEnds s.mdc.mode = true := fun yes => stays ⟨cut, by
          cases now : s.mdc.mode <;> simp_all [cutoffEnds]⟩
        rw [if_pos cut, if_neg keeps]
      · rw [if_neg cut] at h ⊢
        split at h
        · simp at h
        · rename_i asleep
          rw [if_neg asleep]
    have cau : b.cau = s.cau := b_cau.trans (recomputed.1 notDone)
    rw [← cau]
    by_cases still : b.mdc.mode = e.levelMode new
    · rw [State.setMode_of_eq still]
    · rw [State.setMode_cau still, if_neg (fun h => still (unended h))]
  · intro notDone ends
    have still : b.mdc.mode ≠ .shutdown := by rw [base]; rcases ends.2 with h | h | h | h | h <;> simp [h]
    have down : e.levelMode new = .shutdown := by
      rw [mode, if_pos ends.1]; rcases ends.2 with h | h | h | h | h <;> simp [h, cutoffEnds]
    have window := (b.modeEntered .shutdown).window_level
    have entered : (b.setMode (e.levelMode new)).cau = (b.modeEntered .shutdown).window.cau := by
      rw [down, State.setMode_cau still, if_pos ((endsOnly _).mpr ⟨notDone, .inr rfl⟩)]
    have level : (b.modeEntered .shutdown).pkm.level = .cutoff := by rw [State.modeEntered_pkm, b_pkm, ends.1]
    have settings : (b.modeEntered .shutdown).window.sst = e.sst := by simp [b_sst]
    rw [level] at window
    simp only [State.grantRule, State.ws, settings] at window
    simp only [State.grantRule, State.ws, State.holdAutoPark_cau, State.holdAutoPark_sst, State.setMode_sst, b_sst, entered]
    exact ⟨window.1, window.2.1.trans rfl, window.2.2⟩
  · simp only [sst]
    split <;> rfl
  · rintro ⟨cut, writing⟩
    refine ⟨?_, fun inMask => ?_⟩
    · rw [sst, if_pos ⟨cut, writing⟩]
      exact Image.spoil_valid _
    · exact State.noticed_of_link (State.holdAutoPark_link _) (State.noticed_setMode _ (by simp [Notice.kind])
        (by simp [Notice.kind]) (State.noticed_of_link b_link (told cut writing inMask)))

/-! ## Step 4 of a sample (R57, R59) -/

/-- PKM after a change of the level (R59, R64). -/
theorem State.setLevel_pkm (s : State) (new : Level) (cause : LevelCause) :
    (s.setLevel new cause).pkm = { s.pkm with level := new, recovery := 0, lastCause := some cause } := by
  rw [State.setLevel_eq, State.modeOnLevel_eq, State.setMode_pkm, State.setMdc_pkm]
  exact (s.levelEntered_rest new cause).2.2.2.2.2.1

/-- What a change of the level brings is judged without PKM's own state before it. -/
theorem State.followsLevel_of_setPkm {s t : State} {p : Pkm} (h : (s.setPkm p).followsLevel t) : s.followsLevel t := by
  obtain ⟨mdc, hello, cau, before, ends, store, mode, pending, powered, lock, rest⟩ := h
  refine ⟨mdc, hello, cau, before, ends, store, mode, pending, powered, lock, fun part hp => ?_⟩
  have same := rest part hp
  cases part <;> first | exact same | simp at hp

/-- A rise takes the level up, and its readers act (R57, R63). -/
theorem State.rise_followed {s t : State} (h : s.rise = some t) :
    s.pkm.level.code < t.pkm.level.code ∧ s.followsLevel t.holdAutoPark := by
  unfold State.rise at h
  dsimp only at h
  split at h
  · rename_i above
    obtain ⟨k, -, rfl⟩ := Option.map_eq_some_iff.mp h
    exact ⟨by rw [State.setLevel_pkm]; exact above, State.setLevel_followed _ _ _⟩
  · cases h

/-- Step 4 of a sample leaves the level and changes PKM alone, or changes the level and its readers act (R57, R59). -/
theorem State.settleLevel_cases (s : State) (r : Sample) :
    (∃ p, p.level = s.pkm.level ∧ s.settleLevel r = s.setPkm p) ∨
      ((s.settleLevel r).pkm.level ≠ s.pkm.level ∧ s.followsLevel (s.settleLevel r).holdAutoPark) := by
  unfold State.settleLevel
  split
  · rename_i t e
    obtain ⟨above, followed⟩ := State.rise_followed e
    exact .inr ⟨fun same => by rw [same] at above; omega, followed⟩
  · unfold State.fall
    split
    · rename_i between
      split
      · exact .inl ⟨_, by rfl, rfl⟩
      · split
        · refine .inr ⟨?_, State.setLevel_followed _ _ _⟩
          unfold State.stepDown
          rw [State.setLevel_pkm]
          obtain l | l := between <;> simp [l, Level.below]
        · exact .inl ⟨_, by rfl, rfl⟩
    · exact .inl ⟨_, by rfl, rfl⟩

end Sys2Proof.Machine
end

