-- ==== Sys2Proof/Tests/Slice0.lean ====
section
/-! SUPPORT. The writer's own checks: what WellFormed refuses, figures of the spec's examples, one step of a few
commands, and for every statement with hypotheses a state and operands that meet them. -/
namespace Sys2Proof.Machine.Tests

/-! ## Ill-formed commands -/

theorem test_undefinedRequest_of_a_defined_kind_is_illFormed :
    (Instr.undefinedRequest 0x01 7).wellFormed = false := by decide

theorem test_undefinedRequest_outside_the_request_range_is_illFormed :
    (Instr.undefinedRequest 0x40 7).wellFormed = false ∧ (Instr.undefinedRequest 0x00 7).wellFormed = false := by
  decide

theorem test_counts_beyond_s16_are_illFormed :
    (Instr.driveUpdate ⟨⟨32768, 0⟩, ⟨0, 0⟩⟩).wellFormed = false ∧
      (Instr.driveUpdate ⟨⟨0, -32769⟩, ⟨0, 0⟩⟩).wellFormed = false ∧
      (Instr.winchUpdate ⟨40000, false, 0, 0⟩).wellFormed = false := by decide

theorem test_wellFormed_at_the_edges :
    (Instr.driveUpdate ⟨⟨32767, -32768⟩, ⟨0, 0⟩⟩).wellFormed = true ∧
      (Instr.undefinedRequest 0x3F 7).wellFormed = true := by decide

theorem test_no_word_spells_a_command : decodeTableWord 8 0xD7 = none := by decide

/-! ## States -/

/-- A part after its start sequence, in a mode, its link idle, its steering STEADY. -/
def up (m : VehicleMode) : State :=
  (State.reset.setMdc { State.reset.mdc with mode := m, startDone := true }).setStc
    { State.reset.stc with machine := .steady }

/-- A part in a mode of its start sequence. -/
def starting (m : VehicleMode) : State := State.reset.setMdc { State.reset.mdc with mode := m }

/-- What a step answered, for reading a field of it. -/
def nextOr (s : State) : Host.Outcome State Fault Refusal → State
  | .next t => t
  | .fault _ => s
  | .refused _ => s

/-- A command, run. -/
def run (i : Instr) (s : State) : State := nextOr s (exec i s)

/-- `Ready`, as a test. -/
def isReady (s : State) : Bool :=
  s.powered && !s.link.resetting && !s.link.held && s.link.waiting.isEmpty && decide (s.link.slots < 4)

/-- `Serving`, as a test. -/
def isServing (s : State) : Bool := isReady s && s.mdc.startDone

theorem test_isReady_is_Ready (s : State) (h : isReady s = true) : s.Ready := by
  simp only [isReady, Bool.and_eq_true, Bool.not_eq_true', List.isEmpty_iff, decide_eq_true_eq] at h
  exact ⟨h.1.1.1.1, h.1.1.1.2, h.1.1.2, h.1.2, h.2⟩

theorem test_isServing_is_Serving (s : State) (h : isServing s = true) : s.Serving := by
  simp only [isServing, Bool.and_eq_true] at h
  exact ⟨test_isReady_is_Ready s h.1, h.2⟩

/-! ## Figures of the spec -/

theorem test_crc_check_value :
    crc [0x31, 0x32, 0x33, 0x34, 0x35, 0x36, 0x37, 0x38, 0x39] = 0x29B1 := by decide +kernel

theorem test_itemDefaults_are_the_tables : ∀ r ∈ itemTable, itemDefaults[r.id]? = some r.default := by
  decide +kernel

theorem test_defaults_keep_the_orderings : WorkingSet.defaults.ordered = true := by decide

theorem test_budget_at_each_level :
    budgetFor WorkingSet.defaults .normal = 40000 ∧ budgetFor WorkingSet.defaults .caution = 30000 ∧
      budgetFor WorkingSet.defaults .limit = 16000 ∧ budgetFor WorkingSet.defaults .cutoff = 0 := by decide

theorem test_one_count_is_62_mm_s : speedOf 1 800 = 62 ∧ speedOf (-1) 800 = -62 ∧ speedOf 4 800 = 250 := by decide

/-! ## One step each -/

theorem test_sync_byte_begins_a_frame : (run (.byteReceived 0xD7) State.reset).link.rx = .length := by decide

theorem test_gap_expiry_drops :
    (run .gapTimerExpiry (State.reset.setRx .length)).link.lastDrop = some .gap := by decide

theorem test_hello_begins_loading :
    (run (.hello 9) State.reset).mdc.mode = .loading ∧ (run (.hello 9) State.reset).link.slots = 1 := by decide

theorem test_getPack_in_start_is_notStarted :
    (run (.getPack 9) State.reset).link.tx = some ⟨0x90, 9, [1]⟩ := by decide

theorem test_undefined_kind_is_unknown :
    (run (.undefinedRequest 0x3F 9) State.reset).link.tx = some ⟨0xBF, 9, [5]⟩ := by decide

theorem test_wake_out_of_park : (run (.wake 3) (up .park)).mdc.mode = .centering := by decide

theorem test_silence_is_failsafe : (run .silenceTimerExpiry (up .run)).mdc.mode = .failsafe := by decide

theorem test_resume_without_frames_is_refused :
    (run (.resume 4) (up .failsafe)).link.tx = some ⟨0x84, 4, [3, 2]⟩ := by decide

theorem test_clearWinch_not_jammed : (run (.clearWinch 5) (up .run)).link.tx = some ⟨0xA6, 5, [3, 6]⟩ := by decide

theorem test_get_silence : (run (.get 6 1) (up .run)).link.tx = some ⟨0xB1, 6, [0, 1, 250, 0, 0, 0]⟩ := by decide

theorem test_set_out_of_range : (run (.set 6 1 49) (up .run)).link.tx = some ⟨0xB0, 6, [4]⟩ := by decide

theorem test_set_silence : (run (.set 6 1 300) (up .run)).ws.int Item.silenceMs = 300 := by decide

theorem test_save_under_a_high_pin_is_notAllowed :
    (run (.storeSave 7 true) (up .ready)).link.tx = some ⟨0xB2, 7, [8]⟩ := by decide

theorem test_save_takes_a_snapshot : (run (.storeSave 7 false) (up .ready)).sst.store = .writing := by decide

theorem test_short_trip_needs_a_driving_output :
    (run (.shortTrip 0) (up .run)).lmp.channels[(0 : Fin 12)].output = .off := by decide

theorem test_brown_out_then_nothing :
    (run (.byteReceived 0xD7) (run .brownOut State.reset)).link.rx = .hunt := by decide

theorem test_first_window_at_normal :
    (run .allotmentWindow (up .run)).cau.budget = 40000 := by decide

/-! ## Every statement's hypotheses are met -/

theorem test_witness_StepRunsTheFrontCommand :
    (State.reset.setPending [.frameSent, .brownOut]).pending = .frameSent :: [.brownOut] := rfl

/-- Every timer one millisecond short of its figure, in RUN. -/
def due : State :=
  (((((up .run).setMdc { (up .run).mdc with silenceMs := 249, autoParkMs := 119999 }).setLink
    { State.reset.link with rx := .length, gapMs := 4, held := true, loadMs := 19 }).setWnc
    { State.reset.wnc with clutchMs := 1 }).setLmp
    { State.reset.lmp with gens := ⟨⟨true, false, 699⟩, ⟨true, true, 399⟩, ⟨true, true, 249⟩, ⟨true, true, 0⟩⟩ })

theorem test_witness_IdleStep :
    due.pending = [] ∧ due.powered = true ∧ due.link.rx ≠ .hunt ∧ 5 ≤ due.link.gapMs + 1 ∧ due.mdc.mode = .run ∧
      due.ws.nat Item.silenceMs ≤ due.mdc.silenceMs + 1 ∧ due.autoParkRuns = true ∧
      due.ws.nat Item.autoParkS * 1000 ≤ due.mdc.autoParkMs + 1 ∧ due.wnc.clutchMs = 0 + 1 ∧
      due.link.held = true ∧ 20 ≤ due.link.loadMs + 1 := by decide

theorem test_witness_IdleStep_generators :
    (due.lmp.gens.get .pg0).running = true ∧ (due.ws.gens.get .pg0).period ≤ (due.lmp.gens.get .pg0).ms + 1 ∧
      (due.lmp.gens.get .pg2).running = true ∧
      (due.lmp.gens.get .pg2).ms + 1 < (due.ws.gens.get .pg2).period ∧ (due.lmp.gens.get .pg2).on = true ∧
      (due.ws.gens.get .pg2).duty ≠ .full ∧
      (due.ws.gens.get .pg2).onTime ≤ (due.lmp.gens.get .pg2).ms + 1 := by decide

theorem test_witness_IdleStep_other_modes :
    (starting .loading).mdc.mode = .loading ∧ (starting .centering).mdc.mode = .centering ∧
      (up .park).autoParkRuns = false ∧
      ((up .park).setMdc { (up .park).mdc with parkTimer := some 1 }).mdc.parkTimer = some (0 + 1) ∧
      (run (.storeSave 7 false) (up .ready)).sst.store = .writing := by decide

theorem test_witness_PowerOnAndBrownOut :
    (run .brownOut State.reset).powered = false ∧ Instr.frameSent ≠ .powerOnReset ∧ Instr.frameSent ≠ .brownOut := by
  decide

/-- A receiver in a state. -/
def receiving (rx : Receiver) : State := State.reset.setRx rx

theorem test_witness_ReceiverTakesEachByte (rx : Receiver) :
    (receiving rx).powered = true ∧ (receiving rx).link.resetting = false ∧ (receiving rx).link.rx = rx :=
  ⟨rfl, rfl, rfl⟩

theorem test_witness_ReceiverTakesEachByte_lengths : (60 : Byte).toNat ≤ 60 ∧ 60 < (61 : Byte).toNat := by decide

theorem test_witness_DroppedFrames :
    (receiving (.check 0 0x10 7 [] (some 0))).link.rx = .check 0 0x10 7 [] (some 0) ∧
      crc [0, 0x10, 7] ≠ joinHalf 0 0 ∧ (receiving .length).link.rx ≠ .hunt ∧
      ((receiving .length).setLink { (receiving .length).link with tx := some ⟨0x90, 1, [0]⟩ }).link.tx =
        some ⟨0x90, 1, [0]⟩ ∧ (receiving .hunt).link.rx = .hunt := by
  decide +kernel

theorem test_a_drop_is_counted_while_a_frame_is_sent :
    let s := (receiving (.check 0 0x10 7 [] (some 0))).setLink
      { (receiving (.check 0 0x10 7 [] (some 0))).link with tx := some ⟨0x90, 1, [0]⟩, dropCount := 254 }
    (run (.byteReceived 0) s).link.dropCount = 255 ∧
      (run (.byteReceived 0) s).link.notices.link = some ⟨255, .crc⟩ := by decide +kernel

theorem test_witness_FrameReceivedByteByByte :
    State.reset.powered = true ∧ State.reset.link.resetting = false ∧ State.reset.link.rx = .hunt ∧
      State.reset.link.gapMs = 0 ∧ State.reset.holdAutoPark = State.reset ∧
      (⟨0x3F, 1, List.replicate 60 0⟩ : TxFrame).payload.length ≤ 60 := by decide

/-- A link that sends a frame, with replies and a notice behind it. -/
def sending (f : TxFrame) (replies : List TxFrame) (link : Option LinkNotice) (resetting : Bool) : State :=
  (up .run).setLink { State.reset.link with
    tx := some f, replies := replies, slots := 1, notices := { noticesEmpty with link := link }
    resetting := resetting }

theorem test_witness_FrameSent :
    (sending ⟨0x90, 1, [0]⟩ [⟨0x90, 2, [0]⟩] none false).link.tx = some ⟨0x90, 1, [0]⟩ ∧
      (sending ⟨0x90, 1, [0]⟩ [⟨0x90, 2, [0]⟩] none false).link.replies = [⟨0x90, 2, [0]⟩] ∧
      (sending ⟨0x90, 1, [0]⟩ [] (some ⟨1, .gap⟩) false).link.notices.lowest = some (.link ⟨1, .gap⟩) ∧
      (sending ⟨0xC1, 0, []⟩ [] none false).link.replies = [] ∧
      (sending ⟨0xC1, 0, []⟩ [] none false).link.notices.lowest = none := by decide

theorem test_witness_FrameSent_while_a_reset_waits :
    let s := sending ⟨0x90, 1, [0]⟩ [replyFrame 0x02 5 .ok []] none true
    s.powered = true ∧ s.link.resetting = true ∧ s.link.tx = some ⟨0x90, 1, [0]⟩ ∧
      (run .frameSent s).link.tx = some (replyFrame 0x02 5 .ok []) ∧ (run .frameSent s).link.resetting = true := by
  decide

theorem test_another_reply_is_no_reset_reply (tag : Byte) : (⟨0x90, 1, [0]⟩ : TxFrame) ≠ replyFrame 0x02 tag .ok [] := by
  intro h
  have kinds : (0x90 : Byte) = 0x02 + 0x80 := congrArg TxFrame.kind h
  exact absurd kinds (by decide)

theorem test_taking_the_link_notice_restarts_the_drop_count :
    let s (k : Option ModeNotice) :=
      let u := sending ⟨0x90, 1, [0]⟩ [] (some ⟨7, .gap⟩) false
      u.setLink { u.link with dropCount := 7, notices := { u.link.notices with mode := k } }
    (run .frameSent (s none)).link.dropCount = 0 ∧ (run .frameSent (s none)).link.notices.link = none ∧
      (run .frameSent (s (some ⟨.run, .ready, wakeEmpty, none⟩))).link.dropCount = 7 ∧
      (run .frameSent (s (some ⟨.run, .ready, wakeEmpty, none⟩))).link.notices.link = some ⟨7, .gap⟩ := by decide

theorem test_witness_ResetIsTaken :
    (sending (replyFrame 0x02 5 .ok []) [] none true).powered = true ∧
      (sending (replyFrame 0x02 5 .ok []) [] none true).link.resetting = true ∧
      (sending (replyFrame 0x02 5 .ok []) [] none true).link.tx = some (replyFrame 0x02 5 .ok []) := by decide

theorem test_witness_AdmissionCountsPlaces :
    let full := State.reset.setLink { State.reset.link with slots := 4 }
    full.powered = true ∧ full.link.resetting = false ∧
      requestOf (.storeSave 7 true) = some ⟨0x32, 7, []⟩ ∧ requestOf (.set 7 1 300) = some ⟨0x30, 7, [1, 44, 1, 0, 0]⟩ ∧
      4 ≤ full.link.waiting.length + full.link.slots ∧ due.powered = true ∧
      due.link.waiting.length + due.link.slots < 4 ∧ due.link.held = true ∧ due.link.resetting = false := by decide

theorem test_witness_UndefinedKind :
    isReady State.reset = true ∧ (Instr.undefinedRequest 0x3F 9).wellFormed = true := by decide

theorem test_witness_EarlyRequests :
    isReady (starting .packCheck) = true ∧ (starting .packCheck).mdc.startDone = false ∧
      (∃ r, parseRequest 0x30 [1, 44, 1, 0, 0] = some r ∧ r.early = false) ∧
      (∃ r, parseRequest 0x11 [] = some r ∧ r.early = false) := by
  refine ⟨by decide, by decide, ⟨_, rfl, by decide⟩, ⟨_, rfl, by decide⟩⟩

theorem test_witness_BadEncodings :
    isReady (up .run) = true ∧ 2 ≤ (2 : Byte).toNat ∧ 5 ≤ (⟨600, 2, 5, 80, 1⟩ : FunctionFields).generator.toNat ∧
      2 ≤ (⟨600, 2, 4, 80, 2⟩ : FunctionFields).remap.toNat ∧ 4 ≤ (4 : Byte).toNat := by decide

theorem test_witness_served_statements :
    isServing (up .run) = true ∧ 10 ≤ (10 : Byte).toNat ∧ isServing (up .start) = true := by decide

/-! ### Driver intent -/

/-- A CONTROL frame with one throttle and one light code. -/
def control (throttle : Half) (light : Byte) : ControlFrame := ⟨throttle, 0, 0, 0, 0, 0, light, 0⟩

/-- What an accepted frame of that shape carries. -/
def carries (throttle : Int) : ControlValues := ⟨⟨throttle, 0, 0, 0⟩, .front, .both, .off, .off⟩

theorem test_witness_ControlFrame :
    (up .run).powered = true ∧ (up .run).link.resetting = false ∧ 1000 < (control 1001 0).throttle.toInt ∧
      3 < (control 0 4).lightSel.toNat ∧ (up .run).mdc.startDone = true ∧
      controlValues (control 1000 3) = some ⟨⟨1000, 0, 0, 0⟩, .front, .both, .full, .off⟩ := by decide

theorem test_witness_ControlFrame_ignored :
    State.reset.powered = true ∧ State.reset.link.resetting = false ∧ State.reset.mdc.startDone = false ∧
      controlValues (control 30 0) = some (carries 30) := by decide

theorem test_witness_ControlFrame_report :
    (carries 30).axes.throttle.natAbs ≤ (up .ready).ws.nat Item.axisDeadband ∧
      (carries 30).axes.winch.natAbs ≤ (up .ready).ws.nat Item.axisDeadband ∧
      controlValues (control 31 0) = some (carries 31) ∧
      ¬(carries 31).axes.throttle.natAbs ≤ (up .ready).ws.nat Item.axisDeadband ∧
      (up .ready).mdc.mode = .ready ∧ (up .failsafe).mdc.mode = .failsafe ∧ (up .ready).ws.notices .mode = true ∧
      ((up .run).setWnc { wncReset with state := .assist }).wnc.state = .assist := by decide

theorem test_witness_ControlFrame_queue : (up .run).intent.light.Sound := trivial

theorem test_witness_SwitchSeesACode :
    Switch.Sound (⟨some .rear, some .crab, [.front, .crab]⟩ : Switch SteerSel) ∧
      Switch.Sound (⟨some .rear, some .crab, [.crab]⟩ : Switch SteerSel) ∧
      Switch.Sound (⟨some .rear, some .crab, []⟩ : Switch SteerSel) :=
  ⟨⟨by decide, rfl⟩, rfl, trivial⟩

/-! ### Vehicle modes -/

theorem test_witness_HelloStartsOrAnswers :
    isReady State.reset = true ∧ State.reset.mdc.mode = .start ∧ State.reset.ws.notices .mode = true ∧
      State.reset.wnc.state.moves = false ∧ isReady (starting .loading) = true ∧ isReady (up .shutdown) = true := by
  decide

theorem test_witness_ResetRequest :
    isReady (run (.storeSave 7 false) (up .ready)) = true ∧
      (run (.storeSave 7 false) (up .ready)).sst.store = .writing ∧ isReady (up .run) = true ∧
      (up .run).sst.store ≠ .writing := by decide

theorem test_witness_ResetRequest_behind_a_load :
    let s := (up .ready).setLink
      { State.reset.link with held := true, slots := 1, waiting := [⟨0x02, 5, []⟩, ⟨0x03, 6, []⟩] }
    s.powered = true ∧ s.link.resetting = false ∧ s.link.held = true ∧
      s.link.waiting = ⟨0x02, 5, []⟩ :: [⟨0x03, 6, []⟩] ∧ s.sst.store ≠ .writing := by decide

theorem test_after_a_reset_request_no_frame_is_dropped :
    let t := run (.reset 5) (up .run)
    (run (.undefinedRequest 0x50 9) (up .run)).link.lastDrop = some .malformed ∧ t.link.resetting = true ∧
      (run (.undefinedRequest 0x50 9) t).link = t.link ∧ (run (.controlFrame ⟨1001, 0, 0, 0, 0, 0, 0, 0⟩) t).link = t.link ∧
      requestOf (.storeSave 9 true) = some ⟨0x32, 9, []⟩ ∧ (run (.storeSave 9 true) t).link = t.link := by decide

theorem test_witness_Resume :
    isServing ((up .failsafe).setMdc { (up .failsafe).mdc with resumeCount := 2 }) = true ∧
      (up .failsafe).mdc.mode = .failsafe ∧ (up .failsafe).mdc.resumeCount < 2 ∧
      isServing (up .run) = true ∧ (up .run).mdc.mode ≠ .failsafe := by decide

theorem test_witness_Park :
    isServing (up .run) = true ∧ (up .run).mdc.mode = .run ∧ (up .run).parkFailure = none ∧
      ((up .run).setStc State.reset.stc).parkFailure = some 6 ∧ isServing (up .park) = true ∧
      (up .park).mdc.mode ≠ .ready := by decide

theorem test_witness_WakeCauses :
    isServing (up .park) = true ∧ (up .park).mdc.mode = .park ∧
      isServing (run (.wake 1) (up .park)) = true ∧ (run (.wake 1) (up .park)).mdc.mode = .centering ∧
      (run (.wake 1) (up .park)).mdc.wakeCentering = true ∧ isServing (up .run) = true ∧
      ((up .park).setMdc { (up .park).mdc with parkTimer := some 0 }).mdc.parkTimer = some 0 ∧
      (up .park).ws.nat Item.motionWakeCounts ≤
        ((up .park).setMdc { (up .park).mdc with motionCount := 20 }).mdc.motionCount := by decide

theorem test_witness_WakeCauses_stick :
    (up .park).powered = true ∧ (up .park).link.resetting = false ∧ (up .park).mdc.startDone = true ∧
      (up .park).mdc.mode = .park ∧ controlValues (control 31 0) = some (carries 31) ∧
      anyNonNeutral (up .park).ws (carries 31).axes = true ∧
      anyNonNeutral (up .park).ws (carries 30).axes = false ∧ (up .park).ws.nat Item.wakeMask = 14 := by decide

theorem test_witness_WakeCauses_pack :
    let s := (up .park).setPkm { State.reset.pkm with level := .limit, recovery := 199 }
    s.powered = true ∧ s.mdc.mode = .park ∧ s.pkm.level = .limit ∧ 199 ≤ s.pkm.recovery := by decide

/-- A part in the CENTERING after a wake, one clear sample short of a step down. -/
def waking : State :=
  ((up .centering).setMdc { (up .centering).mdc with wakeCentering := true }).setPkm
    { State.reset.pkm with level := .limit, recovery := 199 }

theorem test_witness_WakeCauses_in_centering :
    waking.powered = true ∧ waking.mdc.mode = .centering ∧ waking.mdc.wakeCentering = true ∧
      waking.link.resetting = false ∧ waking.mdc.startDone = true ∧ waking.pkm.level = .limit ∧
      199 ≤ waking.pkm.recovery ∧ (run (.controlFrame (control 31 0)) waking).mdc.wakeSet.stick = true ∧
      (run .levelStepDown waking).mdc.wakeSet.pack = true := by decide

/-- A part in PARK whose confirm counts stand one short of the default figure. -/
def parkedRising : State := (up .park).setPkm { State.reset.pkm with counts := PerCond.ofFn fun _ => 19 }

theorem test_witness_WakeCauses_rise :
    parkedRising.powered = true ∧ parkedRising.mdc.startDone = true ∧ parkedRising.mdc.mode = .park ∧
      Condition.uvLimit ≠ .reserve ∧ parkedRising.cau.holder = none ∧ parkedRising.pkm.level ≠ .cutoff ∧
      confirmFigure parkedRising.ws .uvLimit ≤ parkedRising.pkm.counts.get .uvLimit + 1 ∧
      parkedRising.pkm.level.code < (conditionLevel .uvLimit).code ∧
      (run (.levelRise .uvLimit) parkedRising).mdc.mode = .centering ∧
      (run (.levelRise .uvCutoff) parkedRising).mdc.mode = .shutdown := by decide

theorem test_witness_WakeCauses_rise_none_confirmed : ∀ j, parkedRising.pkm.confirmed.get j = false := by
  intro j; cases j <;> rfl

/-- A part in a mode with the winch in a state, its duty and demand not 0. -/
def withWinch (m : VehicleMode) (w : WinchState) : State :=
  (up m).setWnc { State.reset.wnc with state := w, duty := 200, demand := 100 }

theorem test_witness_ModeFollowed_ends_a_movement :
    ∀ i ∈ [Instr.wake 7, .controlFrame (control 31 0)],
      isServing (withWinch .park .paying) = true ∧ (withWinch .park .paying).wnc.state.moves = true ∧
      (run i (withWinch .park .paying)).mdc.mode = .centering ∧
      (run i (withWinch .park .paying)).wnc =
        { (withWinch .park .paying).wnc with state := .stopped, duty := 0, demand := 0, rearm := true } := by decide

theorem test_witness_WakeCauses_frame_that_does_not_wake :
    let s := (withWinch .park .assist).setWorking
      ((withWinch .park .assist).ws.setItem ⟨Item.wakeMask, by decide⟩ 0)
    s.mdc.mode = .park ∧ (s.ws.nat Item.wakeMask).testBit 1 = false ∧
      s.ws.nat Item.axisDeadband < (carries 31).axes.throttle.natAbs ∧
      (run (.controlFrame (control 31 0)) s).mdc.mode = .park ∧
      (run (.controlFrame (control 31 0)) s).wnc.state = .stopped := by decide

theorem test_witness_StartSequence_ends_a_movement :
    let s := (starting .loading).setWnc { State.reset.wnc with state := .paying, duty := 200, demand := 100 }
    s.powered = true ∧ s.mdc.mode = .loading ∧ s.wnc.state.moves = true := by decide

theorem test_witness_StartSequence :
    (starting .loading).powered = true ∧ (starting .loading).mdc.mode = .loading ∧
      (starting .packCheck).mdc.mode = .packCheck ∧
      (starting .packCheck).ws.nat Item.confirmSamples ≤
        ((starting .packCheck).setMdc { (starting .packCheck).mdc with packCheckCount := 19 }).mdc.packCheckCount + 1 ∧
      ((starting .centering).setMdc { (starting .centering).mdc with deferredHello := some 3 }).mdc.deferredHello =
        some 3 ∧ (starting .centering).mdc.startDone = false := by decide

/-- Settings in which function 3 is on channel 11 instead of channel 3. -/
def remapped : WorkingSet := WorkingSet.defaults.mapTo 3 (some 11)

theorem test_a_cutoff_in_centering_answers_the_hello :
    let s := ((starting .centering).setMdc { (starting .centering).mdc with deferredHello := some 3 }).setPkm
      { State.reset.pkm with counts := PerCond.ofFn fun _ => 19 }
    let t := run (.packSample ⟨2000, 2000, 2000, 2000, 0, 20⟩) s
    s.pkm.level ≠ .cutoff ∧ s.mdc.startDone = false ∧ t.pkm.level = .cutoff ∧ t.mdc.mode = .shutdown ∧
      t.mdc.deferredHello = none ∧ t.helloBody.getLast? = some (BitVec.ofNat 8 (VehicleMode.code .shutdown)) := by
  decide

theorem test_witness_StartSequence_images (w : WorkingSet) :
    (Image.of w).content.check = (Image.of w).check ∧ (Image.of w).spoil.content.check ≠ (Image.of w).spoil.check :=
  ⟨rfl, of_decide_eq_false (Image.spoil_valid _)⟩

theorem test_witness_StartSequence_maps :
    (Image.of remapped).content.carried 3 ≠ (starting .loading).ws.carried 3 ∧
      (Image.of remapped).content.carried 11 ≠ (starting .loading).ws.carried 11 ∧
      (Image.of remapped).content.carried 4 = (starting .loading).ws.carried 4 := by decide

theorem test_witness_TimersLeaveRun :
    (up .run).powered = true ∧ (up .run).mdc.mode = .run ∧ (up .run).autoParkRuns = true ∧
      ((up .run).setWnc { wncReset with state := .reeling }).wnc.state.moves = true := by decide

/-! ### Pack and allotment -/

/-- A part in SHUTDOWN at a level, with three cells read. -/
def cut (l : Level) (mv : Int) : State :=
  (up .shutdown).setPkm { State.reset.pkm with level := l, sample := some ⟨[3800, mv, 3800], 0, 20⟩ }

theorem test_witness_ClearCutoff_levels :
    isServing (cut .limit 3800) = true ∧ (cut .limit 3800).pkm.level ≠ .cutoff ∧
      (cut .cutoff 3399).pkm.level = .cutoff ∧
      (∃ c ∈ [3800, 3399, 3800], c < (cut .cutoff 3399).ws.int Item.cellLimitMv + 50) := by decide

theorem test_clearCutoff_raises_cleared :
    (cut .cutoff 3800).ws.notices .pack = true ∧ (run (.clearCutoff 7) (cut .cutoff 3800)).link.tx =
      some (Notice.pack ⟨.cutoff, .limit, .cleared, 0⟩).frame := by decide

theorem test_witness_ClearCutoff_high_and_fit :
    (∀ c ∈ [3800, 4301, 3800], (cut .cutoff 4301).ws.int Item.cellLimitMv + 50 ≤ c) ∧
      (∃ c ∈ [3800, 4301, 3800], (cut .cutoff 4301).ws.int Item.cellOverMv < c) ∧
      (cut .cutoff 4300).mdc.mode = .shutdown ∧
      (∀ c ∈ [3800, 4300, 3800], (cut .cutoff 4300).ws.int Item.cellLimitMv + 50 ≤ c ∧
        c ≤ (cut .cutoff 4300).ws.int Item.cellOverMv) := by decide

theorem test_witness_PackSample :
    State.reset.powered = true ∧ State.reset.mdc.mode = .start ∧ (up .run).mdc.mode ≠ .start ∧
      (up .run).mdc.mode ≠ .loading ∧ (up .run).pkm.usedMah < 65535 ∧
      (run (.packSample ⟨3800, 3800, 3800, 3800, 100, 20⟩) (up .run)).pkm.usedMah < 65535 ∧
      (cut .cutoff 3800).pkm.level = .cutoff := by decide

theorem test_witness_PackSample_in_packCheck :
    let s (n : Nat) := (starting .packCheck).setMdc { (starting .packCheck).mdc with packCheckCount := n }
    (s 18).mdc.mode = .packCheck ∧
      (run (.packSample ⟨3800, 3800, 3800, 3800, 0, 20⟩) (s 18)).mdc.mode = .packCheck ∧
      (run (.packSample ⟨3800, 3800, 3800, 3800, 0, 20⟩) (s 19)).mdc.mode = .centering := by decide

/-- Cells that neither raise the level from NORMAL nor hold one, and cells below the cutoff threshold. -/
def fit : PackReading := ⟨3800, 3800, 3800, 3800, 0, 20⟩
def empty : PackReading := ⟨3800, 3800, 3199, 3800, 0, 20⟩

theorem test_witness_PackSample_level_stands :
    ∀ m ∈ [VehicleMode.ready, .run, .failsafe, .park], sampling m = true ∧ m ≠ .packCheck ∧
      (run (.packSample fit) (up m)).pkm.level = (up m).pkm.level ∧ (run (.packSample fit) (up m)).mdc.mode = m := by
  decide

/-- A part in PACK_CHECK with a HELLO deferred, `n` samples counted, at a level, a write in flight. -/
def inPackCheck (n : Nat) (level : Level) : State :=
  (((starting .packCheck).setMdc { (starting .packCheck).mdc with packCheckCount := n, deferredHello := some 3 }).setPkm
    { State.reset.pkm with level := level, counts := PerCond.ofFn fun _ => 19 }).setSst
    { State.reset.sst with store := .writing }

theorem test_witness_PackSample_ends_the_stage :
    (inPackCheck 19 .cutoff).stageEnds ∧ (inPackCheck 19 .cutoff).mdc.deferredHello = some 3 ∧
      (run (.packSample fit) (inPackCheck 19 .cutoff)).pkm.level = .cutoff ∧
      (run (.packSample fit) (inPackCheck 19 .cutoff)).mdc.startDone = true ∧
      (run (.packSample fit) (inPackCheck 19 .cutoff)).sst = (inPackCheck 19 .cutoff).sst ∧
      (run (.packSample empty) (inPackCheck 19 .normal)).pkm.level = .cutoff ∧
      (run (.packSample empty) (inPackCheck 19 .normal)).sst.store = .invalid ∧
      (run (.packSample fit) (inPackCheck 19 .normal)).pkm.level ≠ .cutoff := by
  refine ⟨⟨rfl, by decide⟩, ?_⟩
  decide

theorem test_witness_PackSample_counts_in_the_stage :
    ¬(inPackCheck 18 .normal).stageEnds ∧
      (run (.packSample fit) (inPackCheck 18 .normal)).pkm.level = (inPackCheck 18 .normal).pkm.level ∧
      (run (.packSample fit) (inPackCheck 18 .normal)).mdc = (inPackCheck 18 .normal).counted.mdc :=
  ⟨fun ⟨_, ends⟩ => absurd ends (by decide), by decide⟩

/-- A part in RUN whose confirm counts stand one short of the default figure. -/
def rising : State :=
  (up .run).setPkm { State.reset.pkm with counts := PerCond.ofFn fun _ => 19 }

theorem test_witness_LevelRises :
    rising.powered = true ∧ sampling rising.mdc.mode = true ∧ Condition.uvCutoff ≠ .reserve ∧
      rising.cau.holder = none ∧ rising.pkm.level ≠ .cutoff ∧
      confirmFigure rising.ws .uvCutoff ≤ rising.pkm.counts.get .uvCutoff + 1 ∧
      rising.pkm.level.code < (conditionLevel .uvCutoff).code ∧ rising.ws.notices .pack = true := by decide

theorem test_witness_LevelRises_at_a_sample :
    let t := run (.packSample ⟨3800, 3800, 3199, 3800, 0, 20⟩) rising
    rising.pkm.level.code < (highestLevel t.pkm.confirmed).code ∧ t.pkm.level = .cutoff ∧
      (highestLevel (run (.packSample ⟨3800, 3800, 3800, 3800, 0, 20⟩) rising).pkm.confirmed).code ≤
        rising.pkm.level.code := by decide

/-- A part in a mode, its confirm counts one short of the default figure, the winch in a state, a write in flight. -/
def risingIn (m : VehicleMode) (w : WinchState) : State :=
  (((up m).setPkm { State.reset.pkm with counts := PerCond.ofFn fun _ => 19 }).setWnc
    { State.reset.wnc with state := w, duty := 200, demand := 100 }).setSst { State.reset.sst with store := .writing }

theorem test_witness_LevelRises_to_cutoff_in_every_mode :
    ∀ m ∈ [VehicleMode.centering, .ready, .run, .failsafe, .park],
      (risingIn m .stopped).mdc.mode ≠ .packCheck ∧
      (run (.packSample empty) (risingIn m .stopped)).pkm.level = .cutoff ∧
      (run (.packSample empty) (risingIn m .stopped)).mdc.mode = .shutdown ∧
      (run (.levelRise .uvCutoff) (risingIn m .stopped)).mdc.mode = .shutdown := by decide

theorem test_witness_LevelRises_winch :
    (∀ w ∈ [WinchState.clutchReleasing, .freespool],
      (run (.packSample empty) (risingIn .run w)).wnc =
        { (risingIn .run w).wnc with state := .clutchEngaging, clutch := .moving, clutchMs := 150 } ∧
      (run (.packSample empty) (risingIn .run w)).link.notices.get .winch =
        some (.winch ⟨.forcedEngage, some .shutdown, .clutchEngaging, .moving, none, 0⟩)) ∧
      (risingIn .run .paying).wnc.state.moves = true ∧
      (run (.packSample empty) (risingIn .run .paying)).wnc =
        { (risingIn .run .paying).wnc with state := .stopped, duty := 0, demand := 0, rearm := true } := by decide

theorem test_witness_LevelRises_store :
    (risingIn .ready .stopped).sst.store = .writing ∧
      (run (.packSample empty) (risingIn .ready .stopped)).sst.store = .invalid ∧
      (run (.packSample empty) (risingIn .ready .stopped)).link.notices.get .store =
        some (.store ⟨.abandoned, .invalid⟩) := by decide

theorem test_witness_LevelRises_before_the_start_ends :
    (inPackCheck 5 .normal).mdc.mode = .packCheck ∧ (run (.packSample empty) (inPackCheck 5 .normal)).pkm.level = .cutoff ∧
      (run (.packSample empty) (inPackCheck 5 .normal)).mdc = { (inPackCheck 5 .normal).mdc with packCheckCount := 6 } ∧
      (run (.packSample empty) (inPackCheck 5 .normal)).cau = (inPackCheck 5 .normal).cau := by decide

theorem test_witness_LevelFalls_at_a_sample :
    let s := (up .run).setPkm { State.reset.pkm with level := .limit, recovery := 199 }
    (∀ j, conditionLevel j = .limit →
        presentForRecovery s.ws s.cau 0 (sampleOf s.ws ⟨3800, 3800, 3800, 3800, 0, 20⟩) j = false) ∧
      presentForRecovery s.ws s.cau 0 (sampleOf s.ws ⟨3800, 3800, 3399, 3800, 0, 20⟩) .uvLimit = true ∧
      (highestLevel s.pkm.confirmed).code ≤ s.pkm.level.code ∧
      (run (.packSample ⟨3800, 3800, 3800, 3800, 0, 20⟩) s).pkm.level = .caution := by
  refine ⟨fun j => ?_, by decide, by decide, by decide⟩
  cases j <;> decide

theorem test_witness_LevelRises_none_confirmed : ∀ j, rising.pkm.confirmed.get j = false := by
  intro j; cases j <;> rfl

theorem test_witness_LevelFalls :
    ((up .run).setPkm { State.reset.pkm with level := .limit, recovery := 199 }).pkm.level = .limit ∧
      199 ≤ ((up .run).setPkm { State.reset.pkm with level := .limit, recovery := 199 }).pkm.recovery := by decide

theorem test_witness_WindowComputes (l : Level) :
    ((up .run).setPkm { State.reset.pkm with level := l }).powered = true ∧
      ((up .run).setPkm { State.reset.pkm with level := l }).mdc.startDone = true ∧
      ((up .run).setPkm { State.reset.pkm with level := l }).pkm.level = l := ⟨rfl, rfl, rfl⟩

theorem test_witness_ScaledBases :
    ∀ k, (⟨1500, 2000, 2000, 2000, 600⟩ : PerConsumer Nat).get k ≤
      (⟨6000, 8000, 12000, 12000, 2000⟩ : PerConsumer Nat).get k := by
  intro k; cases k <;> decide

theorem test_witness_ScaledBases_floors_fit :
    (⟨1500, 2000, 2000, 2000, 600⟩ : PerConsumer Nat).sum ≤ 8100 := by decide

/-- A part in RUN with STEER's record and the slot as given. -/
def contest (steer : Allot) (holder : Option Consumer) (calm : Nat) : State :=
  (up .run).setCau
    { State.reset.cau with records := State.reset.cau.records.put .steer steer, holder := holder, calm := calm }

/-- A STEADY part in RUN in which a consumer has its surge state, wishes and has a quiet count. -/
def wishing (k : Consumer) (quiet : Nat) (lowered : Bool) : State :=
  ((up .run).setCau { State.reset.cau with
    records := State.reset.cau.records.put k { allotReset with wish := true, quiet := quiet, lowered := lowered } })

theorem test_witness_SurgeSlot_taken :
    let s := wishing .steer 8 true
    s.powered = true ∧ s.mdc.startDone = true ∧ s.mdc.mode = .run ∧ s.cau.holder = none ∧ s.pkm.level = .normal ∧
      s.mayTakeSlot .steer ∧ (∀ k : Consumer, k.code < Consumer.steer.code → ¬s.mayTakeSlot k) := by
  refine ⟨rfl, rfl, rfl, rfl, rfl, ⟨rfl, by decide, by decide⟩, fun k h => ?_⟩
  cases k <;> exact absurd h (by decide)

theorem test_witness_SurgeSlot_takers :
    ((wishing .winch 7 false).setWnc { wncReset with state := .reeling }).mayTakeSlot .winch ∧
      ((wishing .driveF 9 false).setDrc
        { drcReset with axles := ⟨{ axleReset with state := .drive }, axleReset⟩ }).mayTakeSlot .driveF ∧
      ((wishing .driveR 255 true).setDrc
        { drcReset with axles := ⟨axleReset, { axleReset with state := .drive }⟩ }).mayTakeSlot .driveR :=
  ⟨⟨rfl, by decide, by decide⟩, ⟨rfl, by decide, by decide⟩, ⟨rfl, by decide, by decide⟩⟩

theorem test_witness_SurgeSlot_forced :
    let s := contest ⟨0, 0, true, false, 0, 23, 0⟩ (some .driveF) 0
    s.cau.holder = some .driveF ∧ (s.cau.records.get .driveF).hold + 1 < s.ws.nat Item.surgeHold ∧
      (s.cau.records.get .driveF).lapse = 0 ∧ s.inSurgeState .driveF = false := by decide

theorem test_witness_SurgeSlot_kept :
    let s := contest ⟨0, 0, false, false, 0, 23, 0⟩ (some .steer) 0
    s.cau.holder = some .steer ∧ ¬s.ws.nat Item.surgeHold ≤ (s.cau.records.get .steer).hold + 1 ∧
      ¬((s.cau.records.get .steer).wish = false ∧ 1 ≤ (s.cau.records.get .steer).lapse) ∧
      ¬(s.mdc.mode ≠ .run ∨ s.inSurgeState .steer = false) := by decide

theorem test_witness_SurgeSlot_counts_at_rest : ∀ k,
    ((contest ⟨0, 0, true, false, 0, 24, 0⟩ (some .steer) 0).cau.records.get k).quiet = 0 := by
  intro k; cases k <;> rfl

theorem test_window_ends_a_hold :
    (run .allotmentWindow (contest ⟨0, 0, true, false, 0, 24, 0⟩ (some .steer) 0)).cau.holder = none ∧
      (run .allotmentWindow (contest ⟨0, 0, false, false, 0, 3, 1⟩ (some .steer) 0)).cau.records.steer.lowered =
        true ∧
      (run .allotmentWindow (contest ⟨0, 0, true, false, 0, 23, 0⟩ (some .steer) 0)).cau.holder = some .steer ∧
      (run .allotmentWindow (contest allotReset none 1)).cau.calm = 2 := by decide

theorem test_witness_SurgeSlot_given_up :
    (contest ⟨0, 0, false, false, 0, 24, 1⟩ (some .steer) 0).cau.holder = some .steer ∧
      (contest ⟨0, 0, false, false, 0, 24, 1⟩ (some .steer) 0).ws.nat Item.surgeHold ≤
        ((contest ⟨0, 0, false, false, 0, 24, 1⟩ (some .steer) 0).cau.records.get .steer).hold + 1 ∧
      ((contest ⟨0, 0, false, false, 0, 24, 1⟩ (some .steer) 0).cau.records.get .steer).wish = false ∧
      ((contest ⟨0, 0, false, false, 0, 24, 1⟩ (some .steer) 0).cau.records.get .steer).lapse = 1 ∧
      (contest allotReset none 1).cau.holder = none ∧ (contest allotReset none 1).cau.calm = 1 := by decide

theorem test_witness_SurgeSlot_calm : ∀ k, ((contest allotReset none 1).cau.records.get k).wish = false := by
  intro k; cases k <;> rfl

/-! ### Steering and the trim search -/

/-- A part with one corner's record as given, frame 1500, and a steering machine. -/
def cornered (m : SteerMachine) (c : Corner) : State :=
  (up .run).setStc
    { (up .run).stc with machine := m, frameNo := 1500, corners := (up .run).stc.corners.put .fr c }

/-- An ACTIVE corner with given counts and stall history. -/
def active (stalls opens : Nat) (history : List Nat) : Corner :=
  { cornerReset with state := .active, stallCount := stalls, openCount := opens, history := history }

/-- A servo frame that reads one current at every corner. -/
def frame (mA : Nat) : Instr := .servoFrame ⟨⟨mA, mA, mA, mA⟩, ⟨true, true, true, true⟩⟩

/-- A part in RUN in COUNTER with a STEER_SEL queue, a steer axis of +500, every corner ACTIVE at an angle, a steering
grant and a machine as given. -/
def steering (m : SteerMachine) (angle : Int) (queue : List SteerSel) (grant : Nat) : State :=
  let s := (up .run).setStc { (up .run).stc with
    machine := m, mode := .counter, pending := if m = .aligning ∨ m = .settling then some .crab else none
    corners := PerCorner.ofFn fun _ => { cornerReset with state := .active, commanded := angle } }
  (s.setIntent { intentReset with axes := ⟨0, 500, 0, 0⟩, steer := { switchReset SteerSel with queue := queue } }).setCau
    { cauReset with records := cauReset.records.put .steer { allotReset with granted := grant, scaled := 1500 } }

theorem test_witness_ServoFrame_sound (m : SteerMachine) (angle : Int) (queue : List SteerSel) (grant : Nat)
    (h : m ≠ .search) : (steering m angle queue grant).SteeringSound := by
  refine ⟨⟨fun e => absurd e h, fun e => nomatch e⟩, fun i => ?_, fun _ => ⟨rfl, rfl⟩, ?_, fun _ i => ?_, fun i => ?_⟩
  · cases i <;> exact ⟨fun e => (nomatch e), fun e => nomatch e⟩
  · cases m <;> simp [steering]
  · cases i <;> rfl
  · cases i <;> exact fun e => nomatch e

/-- The front left corner FAILED, the machine about to settle. -/
def settlingWithAFailure : State :=
  let s := steering .settling 0 [] 6000
  s.setStc { s.stc with settleMs := 50, corners := s.stc.corners.put .fl { cornerReset with state := .failed } }

theorem test_witness_ServoFrame_failed :
    settlingWithAFailure.SteeringSound ∧ settlingWithAFailure.stc.machine ≠ .search ∧
      settlingWithAFailure.stc.corners.fl.state = .failed ∧
      (run (frame 300) settlingWithAFailure).stc.machine = .steady ∧
      (run (frame 300) settlingWithAFailure).stc.corners.fl.state = .failed := by
  refine ⟨⟨?_, fun i => ?_, fun _ => ⟨rfl, rfl⟩, ?_, fun _ i => ?_, fun i => ?_⟩, ?_⟩
  · decide
  · cases i <;> exact ⟨fun e => (nomatch e), fun e => nomatch e⟩
  · decide
  · cases i <;> rfl
  · cases i <;> exact fun e => nomatch e
  · decide

theorem test_witness_ServoFrame_modes (m : VehicleMode) :
    let s := (steering .steady 0 [] 6000).setMdc { (up .run).mdc with mode := m }
    s.powered = true ∧ s.mdc.mode = m ∧ s.stc.machine ≠ .search ∧ s.tse.running = false ∧
      (s.stc.corners.get .fl).state ≠ .failed :=
  ⟨rfl, rfl, (by decide : SteerMachine.steady ≠ .search), rfl, (by decide : CornerState.active ≠ .failed)⟩

theorem test_witness_ServoFrame_arrives : (steering .centering 0 [] 6000).steeringArrives ∧
    (steering .centering 0 [] 6000).frameMachine.1 = .steady ∧
    (run (frame 300) (steering .centering 0 [] 6000)).stc.machine = .steady ∧
    (run (frame 300) (steering .centering 0 [] 6000)).stc.corners.fl.state = .active :=
  ⟨⟨.inr (.inl rfl), .inr rfl⟩, rfl, by decide, by decide⟩

theorem test_witness_ServoFrame :
    (steering .steady 145 [] 6000).powered = true ∧ (steering .steady 145 [] 6000).mdc.mode = .run ∧
      (steering .steady 145 [] 6000).stc.machine = .steady ∧ (steering .steady 145 [] 6000).tse.running = false ∧
      (run (frame 300) (steering .steady 145 [] 6000)).stc.corners.fr.state = .active := by decide

theorem test_servoFrame_slews_to_the_goal :
    (steering .steady 145 [] 6000).frameGoal .steady .fl = 150 ∧
      (steering .steady 145 [] 6000).frameGoal .steady .rr = -150 ∧
      (run (frame 300) (steering .steady 145 [] 6000)).stc.corners.fl.commanded = 150 ∧
      (run (frame 300) (steering .steady 145 [] 6000)).stc.corners.rr.commanded = 133 ∧
      (run (frame 2501) (steering .steady 145 [] 6000)).stc.corners.rr.commanded = 145 ∧
      (run (frame 300) (steering .steady 145 [] 1499)).stc.corners.rr.commanded = 145 := by decide

theorem test_servoFrame_writes_the_wish :
    (run (frame 300) (steering .steady 145 [] 6000)).cau.records.steer.wish = true ∧
      (run (frame 300) (steering .settling 0 [] 6000)).cau.records.steer.wish = false := by decide

theorem test_witness_Transitions_codes :
    (steering .steady 0 [.rear] 6000).frameMachine = (.aligning, some .rear, false) ∧
      (steering .steady 0 [.counter] 6000).frameMachine = (.steady, none, false) ∧
      (steering .aligning 0 [.counter] 6000).frameMachine = (.steady, none, false) ∧
      (steering .aligning 0 [.rear] 6000).frameMachine = (.aligning, some .rear, false) ∧
      (steering .settling 0 [.rear] 6000).frameMachine = (.settling, some .rear, false) ∧
      (steering .settling 0 [] 6000).frameMachine = (.settling, some .crab, false) := by decide

/-- The same with its rear-right corner FAILED. -/
def limping (m : SteerMachine) (queue : List SteerSel) : State :=
  let s := steering m 0 queue 6000
  s.setStc (s.stc.put .rr { cornerReset with state := .failed })

theorem test_witness_Transitions_refused :
    (limping .steady [.rear]).frameMachine = (.steady, none, true) ∧
      (run (frame 300) (limping .steady [.rear])).stc.failedSet = (limping .steady [.rear]).stc.failedSet ∧
      (limping .steady [.rear]).ws.notices .steer = true ∧
      (run (frame 300) (limping .steady [.rear])).stc.mode = .counter := by decide

theorem test_witness_Transitions_frames :
    (run (frame 300) (steering .aligning 12 [] 6000)).stc.machine = .settling ∧
      (run (frame 300) (steering .aligning 13 [] 6000)).stc.machine = .aligning ∧
      (run (frame 300) (steering .aligning 13 [] 6000)).stc.alignMs = 10 ∧
      (run (frame 300) (steering .settling 0 [] 6000)).stc.settleMs = 10 ∧
      (run (frame 300) ((steering .settling 0 [] 6000).setStc
        { (steering .settling 0 [] 6000).stc with settleMs := 50 })).stc.mode = .crab := by decide

theorem test_witness_Transitions_abandoned :
    let s := (steering .aligning 12 [] 6000).setMdc { (up .run).mdc with mode := .shutdown }
    s.mdc.mode ≠ .ready ∧ s.mdc.mode ≠ .run ∧ s.mdc.mode ≠ .failsafe ∧ s.stc.machine = .aligning ∧
      s.stc.pending = some .crab ∧ s.tse.running = false ∧ (run (frame 300) s).stc.mode = .crab := by decide

theorem test_a_load_aims_the_corners_it_holds :
    let c := (active 0 0 []).holdForLoad
    c.state = .held ∧ c.target = c.commanded ∧
      ({ active 0 0 [] with commanded := 40 }.holdForLoad).target = 40 ∧
      (({ active 0 0 [] with commanded := 40 }.holdForLoad).releaseLoad .aligning).target = 0 := by decide

theorem test_witness_CornerEvents_stalls :
    ((cornered .steady (active 29 0 [400, 501])).stc.corners.get .fr).state = .active ∧
      ((cornered .steady (active 29 0 [400, 501])).stc.corners.get .fr).stallCount = 29 ∧
      (recentStalls 1500 [400, 501]).length < 2 ∧ 2 ≤ (recentStalls 1500 [500, 501]).length := by decide

theorem test_witness_CornerEvents_others :
    ((cornered .steady (active 0 19 [])).stc.corners.get .fr).openCount = 19 ∧
      ((cornered .steady { active 0 0 [] with state := .rest, stateTimer := 10 }).stc.corners.get .fr).state =
        .rest ∧
      ((cornered .steady { active 0 0 [] with state := .rest, stateTimer := 10 }).stc.corners.get .fr).stateTimer ≤
        10 ∧ (cornered .steady (active 0 0 [])).link.held = false ∧
      ((cornered .steady { active 0 0 [] with state := .held, clearing := true }).stc.corners.get .fr).clearing =
        true := by decide

theorem test_witness_CornerEvents_failures (m : SteerMachine) :
    let s := (steering m 0 [] 6000).setStc
      ((steering m 0 [] 6000).stc.put .rr { active 29 19 [500, 501] with commanded := 0 })
    (s.stc.corners.get .rr).state = .active ∧ (s.stc.corners.get .rr).openCount = 19 ∧ s.stc.machine = m ∧
      s.stc.mode = .counter ∧ s.ws.notices .steer = true :=
  ⟨rfl, rfl, rfl, rfl, (by decide : WorkingSet.defaults.notices .steer = true)⟩

/-- The rear-right corner with counts and history as given, at an angle. -/
def counting (m : SteerMachine) (stalls opens : Nat) (history : List Nat) (angle : Int) : State :=
  let s := steering m 0 [] 6000
  s.setStc { (s.stc.put .rr { active stalls opens history with commanded := angle }) with frameNo := 1500 }

theorem test_witness_CornerEvents_frames (m : SteerMachine) (stalls opens : Nat) (history : List Nat) (angle : Int)
    (h : m ≠ .search) : (counting m stalls opens history angle).SteeringSound := by
  refine ⟨⟨fun e => absurd e h, fun e => nomatch e⟩, fun i => ?_, fun _ => ⟨rfl, rfl⟩, ?_, fun _ i => ?_, fun i => ?_⟩
  · cases i <;> exact ⟨fun e => (nomatch e), fun e => nomatch e⟩
  · cases m <;> simp [counting, steering, Stc.put]
  · cases i <;> rfl
  · cases i <;> exact fun e => nomatch e

/-- What a frame with one current leaves of the rear-right corner. -/
def rearRight (mA : Nat) (s : State) : Corner := (run (frame mA) s).stc.corners.rr

theorem test_frames_stall_rest_and_fail_a_corner :
    (rearRight 2501 (counting .steady 28 0 [] 0)).stallCount = 29 ∧
      (rearRight 2501 (counting .steady 29 0 [501] 0)).state = .rest ∧
      (rearRight 2501 (counting .steady 29 0 [501] 0)).stateTimer = 500 ∧
      (rearRight 2501 (counting .steady 29 0 [501, 502] 0)).fault = .stall ∧
      (rearRight 2501 (counting .steady 29 0 [500, 502] 0)).state = .rest ∧
      (rearRight 19 (counting .steady 0 19 [] 0)).fault = .open ∧
      (rearRight 20 (counting .steady 0 19 [] 0)).openCount = 0 := by decide

theorem test_a_frames_failure_forces_a_transition :
    let t := run (frame 19) (counting .steady 0 19 [] 0)
    (counting .steady 0 19 [] 0).ws.notices .steer = true ∧ t.stc.pending = some .front ∧
      t.link.tx = some (Notice.steer ⟨.failed, .counter, ⟨false, false, false, true⟩⟩).frame := by decide

theorem test_a_frames_align_timeout_fails_and_falls_back :
    let s := (counting .aligning 0 0 [] 40).setStc { (counting .aligning 0 0 [] 40).stc with alignMs := 1490 }
    let t := run (frame 300) s
    (s.ws.nat Item.alignTimeoutMs = 1500) ∧ t.stc.corners.rr.fault = .align ∧ t.stc.machine = .settling ∧
      t.stc.pending = some .front ∧ t.stc.alignMs = 0 := by decide

/-- A settle about to end, out of one mode into another. -/
def settlingTo (old new : SteerMode) (k : Corner) : State :=
  let s := counting .settling 0 0 [] 0
  s.setStc { s.stc with
    mode := old, pending := some new, settleMs := 50, corners := ⟨k, k, k, { cornerReset with state := .failed }⟩ }

theorem test_a_settle_holds_into_none_and_releases_out_of_it :
    let into := settlingTo .front .none (active 0 0 [])
    let out := settlingTo .none .front { cornerReset with state := .held }
    (run (frame 300) into).stc.corners.fl.state = .held ∧ (run .settleEnd into).stc.corners.fl.state = .held ∧
      (run (frame 300) out).stc.corners.fl.state = .active ∧ (run .settleEnd out).stc.corners.fl.state = .active ∧
      (run .settleEnd out).stc.corners.rr.state = .failed ∧
      (run .settleEnd out).link.tx = some (Notice.steer ⟨.switched, .front, ⟨false, false, false, true⟩⟩).frame := by
  decide

theorem test_alignTimeout_falls_back :
    let s := (counting .aligning 0 0 [] 40).setStc { (counting .aligning 0 0 [] 40).stc with alignMs := 1490 }
    s.stc.pending = some .crab ∧ (s.stc.corners.get .rr).state ≠ .failed ∧ (s.stc.corners.get .rr).commanded ≠ 0 ∧
      (run .alignTimeout s).stc.pending = some .front ∧ (run .alignTimeout s).link.tx =
        some (Notice.steer ⟨.failed, .counter, ⟨false, false, false, true⟩⟩).frame := by decide

theorem test_a_failure_out_of_counter_makes_for_front :
    let s := (steering .steady 40 [] 6000).setStc ((steering .steady 40 [] 6000).stc.put .rr (active 0 19 []))
    (run (.cornerOpen .rr) s).stc.machine = .aligning ∧ (run (.cornerOpen .rr) s).stc.pending = some .front ∧
      (run (.cornerOpen .rr) s).stc.corners.fl.target = 0 := by decide

theorem test_witness_Transitions :
    (cornered .aligning (active 0 0 [])).stc.machine = .aligning ∧
      (cornered .aligning (active 0 0 [])).stc.starved = false ∧
      (up .run).ws.nat Item.alignTimeoutMs ≤ min 3000 (1490 + 10) ∧
      (up .run).ws.nat Item.alignTimeoutMs ≤
        ((up .run).setStc { (up .run).stc with alignMs := 1490 }).stc.alignMs + 10 ∧
      ((up .run).setStc { (up .run).stc with machine := .settling, pending := some .crab }).stc.pending =
        some .crab ∧
      (up .run).ws.nat Item.settleMs ≤
        ((up .run).setStc { (up .run).stc with settleMs := 50 }).stc.settleMs + 10 := by decide

theorem test_witness_ClearCorner :
    isServing (cornered .steady { active 0 0 [] with state := .failed }) = true ∧ 4 ≤ (4 : Byte).toNat ∧
      ((cornered .steady { active 0 0 [] with state := .failed }).stc.corners.get .fr).state = .failed ∧
      ((cornered .steady { active 0 0 [] with state := .failed }).stc.corners.get .fl).state ≠ .failed ∧
      (cornered .steady { active 0 0 [] with state := .failed }).stc.machine = .steady := by decide

theorem test_clearCorner_raises_cleared :
    let s := cornered .steady { active 0 0 [] with state := .failed }
    s.ws.notices .steer = true ∧ (run (.clearCorner 7 1) s).link.notices.steer =
      some ⟨.cleared, s.stc.mode, ⟨false, false, false, false⟩⟩ := by decide

theorem test_witness_ClearCorner_machines (m : SteerMachine) :
    let s := cornered m { active 0 0 [] with state := .failed }
    s.stc.machine = m ∧ (s.stc.corners.get .fr).state = .failed ∧ isServing s = true := ⟨rfl, rfl, rfl⟩

theorem test_witness_TrimSearch :
    isServing (up .ready) = true ∧ 16 ≤ (16 : Byte).toNat ∧ 0 < (15 : Byte).toNat ∧ (15 : Byte).toNat < 16 ∧
      (up .ready).tse.running = false ∧ (up .ready).sst.store ≠ .writing ∧ (up .ready).mdc.mode = .ready ∧
      (up .ready).stc.machine = .steady ∧ (up .ready).wnc.state = .stopped ∧
      (15 : Byte).toNat.testBit (cornerCode .fl) = true ∧
      ((up .ready).stc.corners.get .fl).state ≠ .failed := by decide

/-- What TRIM_SEARCH of every corner is answered. -/
def searchReply (s : State) : Option TxFrame := (run (.trimSearch 7 15) s).link.tx

theorem test_witness_TrimSearch_refusals :
    let stopped := (up .run).setDrc { drcReset with axles := ⟨{ axleReset with speed := 1 }, axleReset⟩ }
    let failed := (up .ready).setStc ((up .ready).stc.mapCorners fun k => { k with state := .failed })
    searchReply ((up .ready).setTse { tseReset with running := true }) = some ⟨0x9A, 7, [2]⟩ ∧
      searchReply (up .failsafe) = some ⟨0x9A, 7, [3, 1]⟩ ∧ stopped.drc.stationary = false ∧
      searchReply stopped = some ⟨0x9A, 7, [3, 2]⟩ ∧
      searchReply ((up .ready).setStc { (up .ready).stc with machine := .aligning }) = some ⟨0x9A, 7, [3, 3]⟩ ∧
      searchReply ((up .ready).setWnc { wncReset with state := .holding }) = some ⟨0x9A, 7, [3, 4]⟩ ∧
      (failed.stc.corners.get .fl).state = .failed ∧ (searchReply failed).map TxFrame.payload =
        some (u8 Status.faulted.code) := by decide

theorem test_witness_TrimSearch_in_run :
    (up .run).drc.stationary = true ∧ (up .run).mdc.mode = .run ∧
      searchReply (cornered .steady { cornerReset with state := .failed }) = some ⟨0x9A, 7, [0, 13, 2]⟩ ∧
      (run (.trimSearch 7 15) (cornered .steady (active 5 6 []))).stc.corners.fr.state = .held ∧
      (run (.trimSearch 7 15) (cornered .steady (active 5 6 []))).stc.corners.fr.stallCount = 0 := by decide

/-- A search at corner FR with its table as given, both axles in BRAKE. -/
def searching (corner : Option CornerId) (list : List CornerId) (phase : Phase) (frames : Nat) (sense : Bool) :
    State :=
  ((cornered .search { cornerReset with
      state := if corner = some .fr then .searching else .held, sense := sense, prevSense := sense }).setTse
    { tseReset with
      running := true, corner := corner, list := list, phase := phase, frames := frames, step := 2,
      firstSample := true, last0 := 198 }).setDrc
    { drcReset with axles := ⟨{ axleReset with state := .brake }, { axleReset with state := .brake }⟩ }

theorem test_witness_Search_begins :
    (searching none [.fr, .rr] .wait 0 false).powered = true ∧
      (searching none [.fr, .rr] .wait 0 false).stc.machine = .search ∧
      (searching none [.fr, .rr] .wait 0 false).stc.starved = false ∧
      (searching none [.fr, .rr] .wait 0 false).tse.corner = none ∧
      (searching none [.fr, .rr] .wait 0 false).tse.list = .fr :: [.rr] ∧
      (searching none [.fr, .rr] .wait 0 false).drc.axles.front.state = .brake ∧
      (searching none [.fr, .rr] .wait 0 false).drc.axles.rear.state = .brake := by decide

theorem test_witness_Search_steps :
    (searching (some .fr) [] .wait 9 false).tse.corner = some .fr ∧
      (searching (some .fr) [] .wait 9 false).tse.phase = .wait ∧
      (searching (some .fr) [] .wait 9 false).tse.frames = 9 ∧
      ((searching (some .fr) [] .wait 9 false).stc.corners.get .fr).sense = false := by decide

theorem test_witness_Search_frames (corner : Option CornerId) (list : List CornerId) (phase : Phase) (frames : Nat)
    (sense : Bool) (h : corner = none ∨ corner = some .fr) :
    let s := searching corner list phase frames sense
    s.SteeringSound ∧ s.powered = true ∧ s.stc.machine = .search ∧ s.mdc.mode = .run := by
  refine ⟨⟨⟨fun _ => rfl, fun _ => rfl⟩, fun i => ?_, fun e => (nomatch e), ?_, fun e => ?_, fun i => ?_⟩, rfl, rfl, rfl⟩
  · rcases h with rfl | rfl <;> cases i <;> simp [searching, cornered, State.setDrc, State.setTse, State.setStc,
      PerCorner.get, PerCorner.put, up, State.setMdc] <;> decide
  · constructor
    · exact fun e => nomatch e
    · rintro (e | e) <;> exact nomatch e
  · rcases e with e | e | e <;> exact nomatch e
  · cases i <;> exact fun e => nomatch e

/-- A search with a steering grant, its running corner at a frame that reads one sense. -/
def searchFrame (corner : Option CornerId) (phase : Phase) (frames grant : Nat) (sense : Bool) : State :=
  run (.servoFrame ⟨⟨0, 0, 0, 0⟩, ⟨sense, sense, sense, sense⟩⟩)
    ((searching corner [.rr] phase frames sense).setCau
      { cauReset with records := cauReset.records.put .steer { allotReset with granted := grant } })

theorem test_frames_search_a_corner :
    (searchFrame (some .fr) .wait 8 6000 false).tse.frames = 9 ∧
      (searchFrame (some .fr) .wait 9 6000 false).tse.phase = .step ∧
      (searchFrame (some .fr) .wait 9 1499 false).tse.frames = 9 ∧
      (searchFrame (some .fr) .step 2 6000 false).tse.firstSample = false ∧
      (searchFrame (some .fr) .step 3 6000 true).tse.corner = none ∧
      ((searchFrame (some .fr) .step 3 6000 true).tse.results.get .fr).result = .found ∧
      (searchFrame (some .fr) .step 4 6000 false).tse.frames = 1 ∧
      (searchFrame none .wait 0 6000 false).tse.corner = some .rr := by decide

theorem test_witness_Search_waits_for_the_brake :
    let s := (searching none [.fr] .wait 0 false).setDrc drcReset
    s.tse.corner = none ∧ s.tse.list = .fr :: [] ∧ s.drc.axles.front.state ≠ .brake ∧
      (run .searchCornerBegin s).tse.corner = none := by decide

theorem test_witness_Search_startHigh :
    let s := searching (some .fr) [] .wait 9 true
    (s.stc.corners.get .fr).sense = true ∧ ((run .searchWaitEnd s).tse.results.get .fr).result = .startHigh ∧
      (run .searchWaitEnd s).tse.endCause = .completed ∧ (run .searchWaitEnd s).stc.machine = .steady := by decide

/-- A step of corner FR about to be judged, its two samples, its last clear reading and its probe offset as given. -/
def judging (first sense lastClear : Bool) (probe : Int) (list : List CornerId) : State :=
  let s := searching (some .fr) list .step 3 sense
  s.setTse { s.tse with firstSample := first, lastClear := lastClear, probe := probe, span := 150 }

theorem test_witness_Search_edge :
    let s := judging true true false 10 []
    s.tse.corner = some .fr ∧ s.tse.phase = .step ∧ s.tse.frames = 3 ∧ s.tse.firstSample = true ∧
      (s.stc.corners.get .fr).sense = true ∧ s.tse.lastClear = false ∧ s.tse.list = [] ∧
      (s.tse.results.get .fr).oldTrim + s.tse.last0 + s.tse.step / 2 = 199 ∧
      (run .searchStepJudged s).ws.trim .fr = 199 ∧ s.ws.notices .trim = true ∧
      (run .searchStepJudged s).tse.running = false := by decide

theorem test_an_edge_with_corners_left_goes_on :
    let t := run .searchStepJudged (judging true true false 10 [.rr])
    (t.tse.results.get .fr).result = .found ∧ t.tse.running = true ∧ t.tse.corner = none ∧ t.tse.list = [.rr] ∧
      t.stc.machine = .search ∧ (t.stc.corners.get .fr).state = .held ∧ (t.stc.corners.get .fr).commanded = 0 := by
  decide

theorem test_witness_Search_outOfRange :
    let s := (judging true true false 10 []).setTse { (judging true true false 10 []).tse with last0 := 200 }
    200 < (s.tse.results.get .fr).oldTrim + s.tse.last0 + s.tse.step / 2 ∧
      ((run .searchStepJudged s).tse.results.get .fr).result = .outOfRange ∧
      (run .searchStepJudged s).ws.trim .fr = 0 := by decide

theorem test_witness_Search_noEdge_and_on :
    (judging false false false 149 []).tse.span < (judging false false false 149 []).tse.probe + 2 ∧
      ((run .searchStepJudged (judging false false false 149 [])).tse.results.get .fr).result = .noEdge ∧
      (judging false false false 148 []).tse.probe + 2 ≤ (judging false false false 148 []).tse.span ∧
      (run .searchStepJudged (judging false false false 148 [])).tse.last0 = 148 ∧
      (run .searchStepJudged (judging true false false 148 [])).tse.last0 = 198 ∧
      (run .searchStepJudged (judging true true true 148 [])).tse.lastClear = true := by decide

theorem test_witness_TrimAbort :
    isServing (up .ready) = true ∧ (up .ready).tse.running = false ∧
      isServing (searching (some .fr) [.rr] .wait 0 false) = true ∧
      (searching (some .fr) [.rr] .wait 0 false).tse.running = true ∧
      (searching (some .fr) [.rr] .wait 0 false).tse.corner = some .fr ∧
      .rr ∈ (searching (some .fr) [.rr] .wait 0 false).tse.list ∧
      .fl ∉ (searching (some .fr) [.rr] .wait 0 false).tse.list := by decide

theorem test_witness_TrimAbort_by_mode (m : VehicleMode) :
    let s := (searching (some .fr) [.rr] .step 2 false).setMdc { (up .run).mdc with mode := m }
    s.powered = true ∧ s.tse.running = true ∧ s.mdc.mode = m ∧ s.intent.steer.queue = [] ∧
      s.ws.notices .trim = true := ⟨rfl, rfl, rfl, rfl, (by decide : WorkingSet.defaults.notices .trim = true)⟩

theorem test_a_frame_in_failsafe_or_shutdown_aborts_the_search :
    let at_ (m : VehicleMode) := run (frame 300)
      ((searching (some .fr) [.rr] .step 2 false).setMdc { (up .run).mdc with mode := m })
    (at_ .failsafe).tse.endCause = .failsafe ∧ (at_ .failsafe).stc.machine = .steady ∧
      (at_ .failsafe).stc.corners.fr.state = .active ∧ (at_ .shutdown).tse.endCause = .shutdown ∧
      (at_ .shutdown).stc.machine = .unpowered ∧ ((at_ .shutdown).tse.results.get .rr).result = .aborted := by decide

/-! ### Drive and winch -/

/-- A part in RUN with a rear axle and a DRIVE_SEL queue as given, a DIG_REAR lock pending. -/
def driving (a : Axle) (queue : List DriveSel) : State :=
  ((up .run).setDrc { drcReset with lockPending := some .digRear, axles := ⟨axleReset, a⟩ }).setIntent
    { intentReset with drive := { (switchReset DriveSel) with queue := queue } }

theorem test_witness_DriveUpdate :
    (up .run).powered = true ∧ (up .park).mdc.mode ≠ .run ∧ (up .packCheck).mdc.mode = .packCheck ∧
      ((up .run).setWnc { wncReset with state := .assist }).wnc.state = .assist ∧
      ((up .run).setWnc { wncReset with state := .jammed }).wnc.state = .jammed ∧
      (up .run).intent.drive.queue = [] ∧ (up .park).mdc.mode = .park ∧
      (run (.driveUpdate ⟨⟨-20, 0⟩, ⟨0, 0⟩⟩) (up .park)).mdc.mode = .centering ∧
      (run (.driveUpdate ⟨⟨-10, 9⟩, ⟨0, 0⟩⟩) (up .park)).mdc.motionCount = 19 ∧ (driving axleReset [.digRear]).intent.drive.queue = .digRear :: [] ∧
      DriveSel.digRear.locks .rear = true ∧ (driving axleReset []).drc.mode.locks .rear = false ∧
      (up .run).ws.nat Item.lockSpeedMmS = 50 := by decide

theorem test_witness_DriveUpdate_rows :
    (run (.driveUpdate ⟨⟨0, 0⟩, ⟨0, 0⟩⟩) ((up .run).setStc { stcReset with machine := .search })).drc.axles.rear.state =
        .brake ∧
      (run (.driveUpdate ⟨⟨0, 0⟩, ⟨0, 0⟩⟩) (driving axleReset [.digRear])).drc.axles.rear.state = .locked ∧
      (run (.driveUpdate ⟨⟨0, 0⟩, ⟨0, 0⟩⟩) (driving axleReset [.rearOnly])).drc.axles.front.state = .coast ∧
      (run (.driveUpdate ⟨⟨0, 0⟩, ⟨0, 0⟩⟩) (((up .run).setWnc { wncReset with state := .jammed }).setDrc
        { drcReset with follow := .following })).drc.follow = .jamBrake ∧
      (run (.driveUpdate ⟨⟨0, 0⟩, ⟨0, 0⟩⟩) ((up .run).setWnc { wncReset with state := .assist })).drc.follow =
        .following ∧
      (run (.driveUpdate ⟨⟨1, 0⟩, ⟨0, 0⟩⟩) (driving axleReset [.digFront])).drc.lockPending = some .digFront := by
  decide

/-- A rear axle in RUN, one update short of a stall. -/
def stalling : State :=
  (driving { axleReset with state := .drive, ramped := 500, stallMs := 780 } []).setIntent
    { intentReset with axes := ⟨1000, 0, 0, 0⟩ }

theorem test_witness_DriveUpdate_stall :
    let t := run (.driveUpdate ⟨⟨0, 0⟩, ⟨0, 18001⟩⟩) stalling
    t.drc.axles.rear.state = .rest ∧ t.drc.axles.rear.restMs = 2000 ∧ t.drc.axles.rear.ramped = 300 ∧
      t.drc.axles.front.state = .drive ∧ t.drc.axles.front.ramped = 40 := by decide

theorem test_a_transition_cap_of_0_brakes_at_the_next_update :
    let s := (driving { axleReset with state := .drive, ramped := 500 } []).setStc
      { (up .run).stc with machine := .aligning }
    let u := s.setWorking (s.ws.setItem Item.transitionCap 0)
    let t := run (.driveUpdate ⟨⟨0, 0⟩, ⟨0, 0⟩⟩) u
    t.drc.axles.rear.state = .drive ∧ t.drc.axles.rear.ramped = 0 ∧ t.drc.axles.rear.brake = 0 ∧
      (run (.driveUpdate ⟨⟨0, 0⟩, ⟨0, 0⟩⟩) t).drc.axles.rear.state = .brake := by decide

theorem test_witness_Locks (m : VehicleMode) (c : DriveSel) :
    let s := (driving { axleReset with speed := -50 } [c]).setMdc { (up .run).mdc with mode := m }
    let p := s.setDrc { s.drc with lockPending := some c }
    p.powered = true ∧ p.mdc.mode = m ∧ p.stc.machine = .steady ∧ p.intent.drive.queue = c :: [] ∧
      p.drc.lockPending = some c ∧ (p.drc.axles.get .rear).speed.natAbs ≤ p.ws.nat Item.lockSpeedMmS ∧
      (p.drc.axles.get .front).speed.natAbs ≤ p.ws.nat Item.lockSpeedMmS := by
  exact ⟨rfl, rfl, rfl, rfl, rfl, (by decide : 50 ≤ WorkingSet.defaults.nat Item.lockSpeedMmS),
    (by decide : 0 ≤ WorkingSet.defaults.nat Item.lockSpeedMmS)⟩

/-- From DIG_REAR in RUN to a pending DIG_FRONT. -/
def relocking : State :=
  (driving axleReset [.digFront]).setDrc
    { drcReset with mode := .digRear, lockPending := some .digFront, axles :=
      ⟨{ axleReset with state := .drive }, { axleReset with state := .locked, brake := 100 }⟩ }

theorem test_witness_Locks_release :
    DriveSel.digFront.locks .front = true ∧ DriveSel.digFront.locks .rear = false ∧
      relocking.drc.mode.locks .rear = true ∧ DriveSel.digFront ≠ .rearOnly ∧ relocking.stc.machine ≠ .search ∧
      (run .pendingLockTaken relocking).drc.axles.front.state = .locked ∧
      (run .pendingLockTaken relocking).drc.axles.rear.state = .brake := by decide

theorem test_witness_StallsAndRests :
    ((driving { axleReset with state := .drive, stallMs := 780 } []).drc.axles.get .rear).state = .drive ∧
      ((driving { axleReset with state := .drive, stallMs := 780 } []).drc.axles.get .rear).stallMs = 780 ∧
      ((driving { axleReset with state := .rest, restMs := 20 } []).drc.axles.get .rear).state = .rest ∧
      0 < ((driving { axleReset with state := .rest, restMs := 20 } []).drc.axles.get .rear).restMs ∧
      ((driving { axleReset with state := .rest, restMs := 20 } []).drc.axles.get .rear).restMs ≤ 20 := by decide

/-- A part in RUN with a winch as given. -/
def winching (w : Wnc) : State := (up .run).setWnc w

/-- A winch state in RUN with a selection, an axis and a load, its line within reach. -/
def pulling (state : WinchState) (selection : WinchSel) (axis : Int) (load : Nat) : State :=
  (winching { wncReset with state := state, selection := selection, load := load, line := some ⟨100, 50⟩ }).setIntent
    { intentReset with axes := ⟨0, 0, axis, 0⟩ }

/-- A WINCH_UPDATE that reads one count, an open switch and a load. -/
def reading (load : Nat) : WinchReading := ⟨1, false, load, 0⟩

theorem test_witness_WinchUpdate_idle :
    (pulling .stopped .manual 31 10).mdc.mode = .run ∧ shaped WorkingSet.defaults 31 = 31 ∧
      shaped WorkingSet.defaults 30 = 0 ∧
      (run (.winchUpdate (reading 10)) (pulling .stopped .manual 31 10)).wnc.state = .reeling ∧
      (run (.winchUpdate (reading 10)) (pulling .stopped .assist 31 10)).wnc.state = .assist ∧
      (run (.winchUpdate (reading 10)) (pulling .stopped .manual (-31) 10)).wnc.state = .paying ∧
      (run (.winchUpdate (reading 11)) (pulling .stopped .manual 0 10)).wnc.state = .holding ∧
      (run (.winchUpdate (reading 351)) (pulling .stopped .manual 31 10)).wnc.state = .holding := by decide

theorem test_witness_WinchUpdate_reelStarts :
    (pulling .stopped .manual 31 10).reelStarts false .manual ∧
      (pulling .stopped .assist 31 10).reelStarts false .assist ∧
      ¬(pulling .stopped .manual 31 10).reelStarts true .manual :=
  ⟨⟨rfl, rfl, rfl, by decide⟩, ⟨rfl, rfl, rfl, by decide⟩, fun h => absurd h.2.1 (by decide)⟩

theorem test_witness_WinchUpdate_movementGoesOn :
    (pulling .reeling .manual 31 350).movementGoesOn (reading 350) ∧
      (pulling .paying .manual (-31) 0).movementGoesOn (reading 0) ∧
      (pulling .reeling .manual 31 350).wnc.selection ≠ .off := by
  refine ⟨⟨rfl, ?_, fun _ h => absurd h.1 (by decide)⟩, ⟨rfl, ?_, fun _ h => absurd h.1 (by decide)⟩, by decide⟩ <;>
    exact fun ⟨_, _, h, _⟩ => absurd h (List.cons_ne_nil _ _).symm

theorem test_witness_WinchUpdate_moving :
    (run (.winchUpdate (reading 350)) (pulling .reeling .manual 31 0)).wnc.state = .reeling ∧
      (run (.winchUpdate (reading 351)) (pulling .reeling .manual 31 0)).wnc.state = .holding ∧
      (run (.winchUpdate (reading 351)) (pulling .reeling .manual 31 0)).wnc.rearm = true ∧
      (run (.winchUpdate (reading 0)) (pulling .reeling .manual 0 0)).wnc.state = .stopped ∧
      (run (.winchUpdate (reading 0)) (pulling .paying .manual 31 0)).wnc.state = .reeling ∧
      (run (.winchUpdate ⟨0, false, 0, 0⟩)
        ((pulling .reeling .manual 31 0).setWnc { (pulling .reeling .manual 31 0).wnc with jamMs := 980 })).wnc.state =
          .jammed := by decide

/-- The same with the line paid out as given, and re-arm as given. -/
def paidOut (state : WinchState) (axis : Int) (spool : Nat) (rearm : Bool) : State :=
  (pulling state .manual axis 0).setWnc
    { (pulling state .manual axis 0).wnc with line := some ⟨spool, spool / 2⟩, rearm := rearm }

theorem test_witness_WinchUpdate_blocked :
    (run (.winchUpdate ⟨0, false, 0, 0⟩) (paidOut .stopped (-31) 11999 false)).wnc.state = .paying ∧
      (run (.winchUpdate ⟨0, false, 0, 0⟩) (paidOut .stopped (-31) 12000 false)).wnc.state = .stopped ∧
      (run (.winchUpdate ⟨0, false, 0, 0⟩) (paidOut .stopped (-31) 11999 true)).wnc.state = .stopped ∧
      (run (.winchUpdate ⟨1, false, 0, 0⟩) (paidOut .stopped 31 12000 true)).wnc.state = .stopped ∧
      (run (.winchUpdate ⟨0, false, 0, 0⟩) (paidOut .paying (-31) 12000 false)).wnc.rearm = true ∧
      (run (.winchUpdate ⟨0, false, 0, 0⟩) (paidOut .reeling (-31) 12000 false)).wnc.rearm = true ∧
      (run (.winchUpdate ⟨0, false, 0, 0⟩) (paidOut .reeling (-31) 11999 false)).wnc.state = .paying := by decide

theorem test_witness_WinchUpdate_line_and_code :
    ((winching { wncReset with state := .reeling, lineInPrev := true }).lineInCloses ⟨0, true, 10, 0⟩) ∧
      ((pulling .reeling .manual 31 0).setIntent
        { intentReset with winch := ⟨none, some .off, [.off]⟩ }).codeStops ∧
      (winching { wncReset with state := .reeling }).ws.notices .winch = true :=
  ⟨⟨rfl, rfl, rfl⟩, ⟨.off, [], rfl, by decide⟩, by decide⟩

theorem test_witness_WinchUpdate_forced_engage :
    (winching { wncReset with state := .freespool, clutch := .free }).grant .winch < 300 ∧
      ((winching { wncReset with state := .freespool, clutch := .free }).setDrc
        { drcReset with speed := 62 }).drc.braking = false ∧
      (run (.winchUpdate (reading 0)) (winching { wncReset with state := .freespool, clutch := .free })).wnc.state =
        .clutchEngaging := by decide

/-- A line-in switch about to close, the winch in a state. -/
def homing (state : WinchState) : State :=
  winching { wncReset with state := state, lineInPrev := true, load := 20 }

theorem test_every_closing_raises_referenced :
    (homing .paying).lineInCloses ⟨0, true, 0, 0⟩ ∧ (homing .paying).ws.notices .winch = true ∧
      (run (.winchUpdate ⟨0, true, 0, 0⟩) (homing .paying)).link.tx.map TxFrame.kind = some NoticeKind.winch.code ∧
      (run (.winchUpdate ⟨0, true, 0, 0⟩) (homing .stopped)).link.tx =
        some (Notice.winch ⟨.referenced, none, .stopped, .engaged, some ⟨0, 0⟩, 20⟩).frame ∧
      (run (.winchUpdate ⟨0, true, 0, 0⟩) (homing .assist)).link.tx =
        some (Notice.winch ⟨.referenced, none, .holding, .engaged, some ⟨0, 0⟩, 20⟩).frame :=
  ⟨⟨rfl, rfl, rfl⟩, by decide, by decide, by decide, by decide⟩

theorem test_a_forced_engage_follows_referenced :
    let t := run (.winchUpdate ⟨0, true, 0, 0⟩) (homing .freespool)
    (homing .freespool).grant .winch < 300 ∧ t.wnc.state = .clutchEngaging ∧
      t.link.tx = some (Notice.winch ⟨.referenced, none, .freespool, .engaged, some ⟨0, 0⟩, 20⟩).frame ∧
      t.link.notices.winch.map WinchNotice.event = some .forcedEngage := by decide

theorem test_jammed_keeps_its_timer_and_tells :
    let s := winching { wncReset with state := .reeling, jamMs := 990 }
    (run .winchJam s).wnc.jamMs = 1010 ∧ s.ws.notices .winch = true ∧
      (run .winchJam s).link.tx = some (Notice.winch ⟨.jammed, none, .jammed, .engaged, none, 0⟩).frame ∧
      (run (.winchUpdate ⟨5, false, 0, 0⟩) (run .winchJam s)).wnc.jamMs = 1010 := by decide

theorem test_both_causes_of_a_forced_engage_name_the_grant :
    let s := ((winching { wncReset with state := .freespool, clutch := .free }).setDrc
      { drcReset with speed := 62 }).setLink { State.reset.link with tx := some ⟨0x90, 1, [0]⟩ }
    (run (.winchUpdate (reading 0)) s).link.notices.winch.map WinchNotice.cause = some (some .lowGrant) := by decide

theorem test_a_neutral_axis_ends_a_reel_before_the_hard_load :
    (run (.winchUpdate (reading 351)) (pulling .reeling .manual 0 0)).wnc.rearm = false ∧
      (run (.winchUpdate (reading 351)) (pulling .reeling .manual 0 0)).link.notices.winch = none := by decide

theorem test_witness_JamAndClutchTimer :
    (winching { wncReset with state := .reeling, jamMs := 980 }).wnc.state.reels = true ∧
      (up .run).ws.nat Item.jamMs ≤
        min 5000 ((winching { wncReset with state := .reeling, jamMs := 980 }).wnc.jamMs + 20) ∧
      (winching { wncReset with state := .clutchReleasing }).wnc.state = .clutchReleasing ∧
      (winching { wncReset with state := .clutchEngaging }).wnc.state = .clutchEngaging := by decide

/-- A part in RUN with a granted ceiling for the winch. -/
def granted (w : Wnc) (ma : Nat) : State :=
  (winching w).setCau { cauReset with records := cauReset.records.put .winch { allotReset with granted := ma } }

theorem test_witness_Clutch :
    isServing (granted { wncReset with load := 10 } 300) = true ∧
      (granted { wncReset with load := 10 } 300).mdc.mode = .run ∧
      300 ≤ (granted { wncReset with load := 10 } 300).grant .winch ∧
      (granted { wncReset with load := 10 } 300).wnc.state = .stopped ∧
      (granted { wncReset with load := 10 } 300).wnc.load ≤ (up .run).ws.nat Item.freespoolN ∧
      (granted { wncReset with load := 10 } 300).drc.speed = 0 ∧
      (granted { wncReset with state := .holding } 300).wnc.state = .holding ∧
      isServing (granted { wncReset with state := .freespool } 0) = true ∧
      (granted { wncReset with state := .freespool } 0).wnc.state = .freespool ∧
      (up .run).wnc.state ≠ .freespool := by decide

/-- What WINCH_CLUTCH FREE is answered. -/
def freeReply (s : State) : Option TxFrame := (run (.winchClutchFree 7) s).link.tx

theorem test_witness_Clutch_refusals :
    let turning := (granted wncReset 300).setDrc { drcReset with speed := 1 }
    freeReply (up .failsafe) = some ⟨0xA4, 7, [3, 1]⟩ ∧
      (granted wncReset 299).grant .winch < 300 ∧
      freeReply (granted wncReset 299) = (run (.winchClutchFree 7) (up .run)).link.tx ∧
      freeReply (granted { wncReset with state := .clutchEngaging } 300) = some ⟨0xA4, 7, [3, 3]⟩ ∧
      freeReply (granted { wncReset with state := .reeling } 300) = some ⟨0xA4, 7, [3, 4]⟩ ∧
      (up .run).ws.nat Item.freespoolN < 60000 ∧
      freeReply (granted { wncReset with load := 60000 } 300) =
        freeReply (granted { wncReset with state := .holding } 300) ∧
      turning.drc.speed ≠ 0 ∧ freeReply turning = some ⟨0xA4, 7, [3, 2]⟩ := by decide

theorem test_witness_ClearWinch :
    isServing (winching { wncReset with state := .jammed }) = true ∧ (up .run).wnc.state ≠ .jammed ∧
      (winching { wncReset with state := .jammed }).wnc.state = .jammed := by decide

/-! ### Lamps and settings -/

/-- A part in RUN with its generators running and channel 0 driving. -/
def lampsOn : State :=
  ((up .run).setLmp ({ lmpReset with gens := PerGen.ofFn fun _ => ⟨true, true, 10⟩ }.put 0
    { channelReset with commanded := true, output := .driving })).setIntent
    { intentReset with light := ⟨some .full, some .full, [.trail, .full]⟩ }

/-- A part in RUN, its fog lamp's channel (7) driving, with a suspect as given, under a grant. -/
def checking (suspect : Suspect) (mA : Nat) : State :=
  (((up .run).setLmp (({ lmpReset with scene := .full }).put 7
    { channelReset with commanded := true, output := .driving, suspect := suspect })).setCau
    { cauReset with records := cauReset.records.put .lamps { allotReset with granted := mA } })

theorem test_witness_LampCheck_fails :
    (checking .open 2000).failsAt (Vector.replicate 12 9) 7 ∧ ¬(checking .open 2000).failsAt (Vector.replicate 12 10) 7 ∧
      ¬(checking .none 2000).failsAt (Vector.replicate 12 9) 7 ∧ (checking .open 2000).ws.map[(7 : FunctionId)] = some 7 :=
  ⟨⟨.inl ⟨rfl, rfl⟩, by decide, by decide⟩, fun h => absurd h.2.1 (by decide), fun h => absurd h.2.2 (by decide), rfl⟩

theorem test_witness_LampCheck_fails_alone :
    ∀ c' : ChannelId, c' ≠ 7 → ¬(checking .open 2000).failsAt (Vector.replicate 12 9) c' := by
  have idle : ∀ c : ChannelId, c ≠ 7 → (checking .open 2000).lmp.channels[c] = channelReset := by decide
  intro c' hne h
  have examined := h.1
  rw [idle c' hne] at examined
  exact absurd examined (fun e => e.elim (fun d => absurd d.1 (by decide)) (fun d => absurd d (by decide)))

theorem test_witness_LampCheck_spare :
    (run (.lampCheck (Vector.replicate 12 9)) (checking .open 2000)).ws.map[(7 : FunctionId)] = some 10 ∧
      (run (.lampCheck (Vector.replicate 12 9)) (checking .open 2000)).ws.failed[(7 : ChannelId)] = true := by decide

/-- Channels 4 and 7 about to fail, both with functions that a spare may take. -/
def failingTwice : State :=
  (checking .open 2000).setLmp ((checking .open 2000).lmp.put 4
    { channelReset with commanded := true, output := .driving, suspect := .open })

theorem test_witness_LampCheck_fails_twice :
    let t := run (.lampCheck (Vector.replicate 12 9)) failingTwice
    failingTwice.failuresBefore (Vector.replicate 12 9) 4 = 0 ∧
      failingTwice.failuresBefore (Vector.replicate 12 9) 7 = 1 ∧
      sparesOf failingTwice.ws.map failingTwice.ws.failed = [10, 11] ∧
      t.ws.map[(4 : FunctionId)] = some 10 ∧ t.ws.map[(7 : FunctionId)] = some 11 := by decide

theorem test_witness_LampCheck_lights :
    let t := run (.lampCheck (Vector.replicate 12 100)) ((checking .none 2000).setPkm
      { State.reset.pkm with level := .limit })
    t.lmp.lit[(4 : FunctionId)] = true ∧ (t.ws.functions[(4 : FunctionId)]).generator = .pg .pg0 ∧
      t.lmp.gens.pg0 = ⟨true, true, 0⟩ ∧ t.lmp.gens.pg1 = ⟨false, false, 0⟩ ∧
      (t.lmp.channels[(4 : ChannelId)]).output = .driving := by decide

/-- Function 4 lit on the first generator, as the check under a LIMIT leaves it. -/
def blinking : State :=
  run (.lampCheck (Vector.replicate 12 100)) ((checking .none 2000).setPkm { State.reset.pkm with level := .limit })

theorem test_witness_LampEvents_edges :
    blinking.drivenBy .pg0 4 = true ∧ blinking.drivenBy .pg1 4 = false ∧ blinking.drivenBy .pg0 6 = false ∧
      (blinking.lmp.gens.get .pg0).running = true ∧ (blinking.lmp.gens.get .pg0).on = true ∧
      (blinking.ws.gens.get .pg0).duty ≠ .full := by decide

theorem test_an_off_edge_darkens_what_its_generator_drives :
    ((run (.offEdge .pg0) blinking).lmp.channels[(4 : ChannelId)]).output = .off ∧
      ((run (.onEdge .pg0) (run (.offEdge .pg0) blinking)).lmp.channels[(4 : ChannelId)]).output = .driving := by
  decide

/-- A part whose channel 4 has tripped. -/
def tripped (s : State) : State :=
  s.setLmp (s.lmp.put 4 { s.lmp.channels[(4 : ChannelId)] with output := .tripped, tripSeen := true })

theorem test_a_tripped_channel_waits_for_its_generators_edge :
    let t := run (.lampCheck (Vector.replicate 12 100)) (tripped blinking)
    (blinking.lmp.gens.get .pg0).running = true ∧ (t.lmp.channels[(4 : ChannelId)]).output = .tripped ∧
      (t.lmp.channels[(4 : ChannelId)]).suspect = .short ∧
      ((run (.onEdge .pg0) t).lmp.channels[(4 : ChannelId)]).output = .driving := by decide

theorem test_a_generators_start_relights_a_tripped_channel :
    let s := tripped ((checking .none 2000).setPkm { State.reset.pkm with level := .limit })
    let t := run (.lampCheck (Vector.replicate 12 100)) s
    (s.lmp.gens.get .pg0).running = false ∧ t.ws.carried 4 = some 4 ∧ t.lmp.lit[(4 : FunctionId)] = true ∧
      (t.lmp.channels[(4 : ChannelId)]).output = .driving := by decide

theorem test_witness_LampCheck_spares :
    let s := (checking .none 2000).setLmp
      ((checking .none 2000).lmp.put 11 { channelReset with tripSeen := true, suspect := .short })
    let t := run (.lampCheck (Vector.replicate 12 100)) s
    s.ws.spare 11 = true ∧ (t.lmp.channels[(11 : ChannelId)]).tripSeen = true ∧
      t.ws.failed[(11 : ChannelId)] = false ∧ t.ws.carried 11 = none := by decide

/-- The work lamp (class 2) shed before the check, function 7 (class 3) not. -/
def shedding (mA : Nat) : State :=
  (checking .none mA).setLmp { (checking .none mA).lmp with shed := [9, 6] }

theorem test_witness_LampCheck_shedding :
    (run (.lampCheck (Vector.replicate 12 100)) (checking .none 1300)).lmp.shed = [7] ∧
      (run (.lampCheck (Vector.replicate 12 100)) (checking .none 2000)).lmp.shed = [] ∧
      (run (.lampCheck (Vector.replicate 12 100)) (shedding 1000)).lmp.shed = [7] := by decide

theorem test_witness_LampEvents :
    lampsOn.powered = true ∧ (lampsOn.lmp.channels[(0 : Fin 12)]).output = .driving ∧
      (lampsOn.lmp.gens.get .pg1).running = true ∧ (lampsOn.lmp.gens.get .pg1).on = true ∧
      (lampsOn.ws.gens.get .pg1).duty ≠ .full ∧
      lampsOn.intent.light.queue = .trail :: [.full] := by decide

/-- A part in RUN whose channel 11 has failed. -/
def lampFailed : State := (up .run).setWorking (WorkingSet.defaults.setFailed 11 true)

/-- The failed channel of `lampFailed`, as a load leaves one that had tripped as a spare or lost its function to it. -/
def failedTripped : State := lampFailed.setLmp (lampFailed.lmp.put 11 { channelReset with tripSeen := true })

theorem test_witness_LampCheck_failed :
    let t := run (.lampCheck (Vector.replicate 12 100)) failedTripped
    failedTripped.ws.failed[(11 : ChannelId)] = true ∧ failedTripped.ws.failed[(10 : ChannelId)] = false ∧
      (t.lmp.channels[(11 : ChannelId)]).tripSeen = false ∧ (t.lmp.channels[(11 : ChannelId)]).suspect = .short ∧
      t.ws.failed[(11 : ChannelId)] = true ∧ t.ws.carried 11 = none := by decide

theorem test_witness_LampCheck_failed_map : failedTripped.ws.MapSound := by
  constructor <;> decide

theorem test_witness_MapLamp :
    isServing lampFailed = true ∧ lampFailed.sst.store ≠ .writing ∧ lampFailed.ws.failed[(11 : Fin 12)] = true ∧
      lampFailed.ws.failed[(1 : Fin 12)] = false ∧ lampFailed.ws.carried 1 = some 1 ∧ (1 : FunctionId) ≠ 0 ∧
      lampFailed.ws.spare 10 = true := by decide

/-- A part in RUN, its tail lamp's channel (1) driving with a suspect. -/
def tailLit : State :=
  (up .run).setLmp ((up .run).lmp.put 1
    { channelReset with commanded := true, output := .driving, suspect := .open, brightness := 100 })

theorem test_witness_MapLamp_refusals :
    let saving := run (.storeSave 7 false) (up .ready)
    isServing saving = true ∧ saving.sst.store = .writing ∧ 10 ≤ (10 : Byte).toNat ∧ 12 ≤ (12 : Byte).toNat ∧
      (12 : Byte) ≠ 0xFF ∧ 4 ≤ (4 : Byte).toNat ∧
      (run (.mapLamp 7 10 0) (up .ready)).link.tx = (run (.mapLamp 7 0 12) (up .ready)).link.tx ∧
      (run (.mapLamp 7 10 0) (up .ready)).link.tx.map TxFrame.payload = some (u8 Status.unknown.code) := by decide

theorem test_a_restarted_generator_lights_its_channels :
    let s := run (.offEdge .pg0) blinking
    let t := run (.setGenerator 7 0 700 2) s
    (s.lmp.gens.get .pg0).running = true ∧ s.drivenBy .pg0 4 = true ∧ isServing s = true ∧
      (s.lmp.channels[(4 : ChannelId)]).output = .off ∧ (t.lmp.channels[(4 : ChannelId)]).output = .driving ∧
      (t.lmp.channels[(4 : ChannelId)]).commanded = true ∧ t.lmp.channels[(7 : ChannelId)] =
        s.lmp.channels[(7 : ChannelId)] := by decide

theorem test_witness_MapLamp_left :
    tailLit.ws.carried 1 = some 1 ∧ tailLit.ws.spare 10 = true ∧ tailLit.ws.failed[(1 : ChannelId)] = false ∧
      (run (.mapLamp 7 1 10) tailLit).lmp.channels[(1 : ChannelId)] = channelReset ∧
      (run (.mapLamp 7 1 0xFF) tailLit).lmp.channels[(1 : ChannelId)] = channelReset ∧
      (run (.mapLamp 7 1 1) tailLit).lmp = tailLit.lmp := by decide

theorem test_witness_FunctionAndGenerator :
    isServing (up .run) = true ∧
      functionFields ⟨2000, 3, 4, 100, 1⟩ = some ⟨2000, 3, .steady, 100, true⟩ ∧
      functionFields ⟨2001, 3, 4, 100, 1⟩ = some ⟨2001, 3, .steady, 100, true⟩ ∧
      (up .run).sst.store ≠ .writing ∧ 100 ≤ (100 : Half).toNat ∧ (100 : Half).toNat ≤ 2000 ∧
      (100 : Half).toNat % 10 = 0 ∧ 2000 < (2010 : Half).toNat ∧
      isServing (run (.storeSave 7 false) (up .ready)) = true ∧
      (run (.storeSave 7 false) (up .ready)).sst.store = .writing := by decide

theorem test_witness_ClearChannel :
    isServing lampFailed = true ∧ 12 ≤ (12 : Byte).toNat ∧ lampFailed.ws.failed[(10 : Fin 12)] = false ∧
      lampFailed.ws.failed[(11 : Fin 12)] = true := by decide

/-- Functions 2 and 5 DARK, 2 not to be remapped, channels 2, 5, 10 and 11 failed. -/
def dark : WorkingSet :=
  let w := (WorkingSet.defaults.mapTo 2 none).mapTo 5 none
  { w with
    functions := w.functions.set 2 { w.functions[(2 : FunctionId)] with remap := false }
    failed := Vector.ofFn fun c : Fin 12 => decide (c = 2 ∨ c = 5 ∨ c = 10 ∨ c = 11) }

theorem test_clearChannel_gives_the_spare_to_the_function_that_allows_it :
    let s := (up .run).setWorking dark
    (run (.clearChannel 7 11) s).ws.map[(5 : FunctionId)] = some 11 ∧
      (run (.clearChannel 7 11) s).ws.map[(2 : FunctionId)] = none ∧ s.ws.failed[(11 : ChannelId)] = true ∧
      spareFor s.ws.functions (fun g => (s.ws.map[g]).isNone) [11] 5 = some 11 ∧
      s.ws.notices .lamp = true := by decide

theorem test_witness_ClearChannel_map : lampFailed.ws.MapSound := by
  constructor <;> decide

theorem test_witness_SetAndGet :
    isServing (up .run) = true ∧ itemSpec 1 = some ⟨1, .range 50 1000, 250⟩ ∧
      itemSpec (0 : Byte).toNat = none ∧ (ItemRange.range 50 1000).admits (49 : Word).toInt = false ∧
      (ItemRange.range 50 1000).admits (1000 : Word).toInt = true ∧
      ((up .run).ws.setItem 1 (1000 : Word).toInt).ordered = true ∧ (1 : Fin 78) ≠ Item.cellCount ∧
      (up .run).sst.store ≠ .writing := by decide

theorem test_witness_SetAndGet_refusals :
    itemSpec 12 = some ⟨12, .range 2900 3900, 3350⟩ ∧
      ((up .run).ws.setItem 12 (3500 : Word).toInt).ordered = false ∧ itemSpec 10 = some ⟨10, .range 2 4, 3⟩ ∧
      ((up .run).ws.setItem 10 (4 : Word).toInt).ordered = true ∧ (up .run).mdc.mode ≠ .ready ∧
      (up .run).mdc.mode ≠ .park ∧ itemSpec 50 = some ⟨50, .range (-200) 200, 0⟩ ∧
      ((up .run).ws.setItem 50 (200 : Word).toInt).ordered = true ∧
      isServing (searching none [.fr] .wait 0 false) = true ∧
      (searching none [.fr] .wait 0 false).stc.machine = .search := by decide

theorem test_witness_Set_noticeMask :
    let s := sending ⟨0x90, 1, [0]⟩ [] (some ⟨3, .gap⟩) false
    isServing s = true ∧ itemSpec 6 = some ⟨6, .set 255, 255⟩ ∧ (s.ws.setItem 6 (127 : Word).toInt).ordered = true ∧
      (run (.set 7 6 127) s).link.notices.link = none ∧ (run (.set 7 6 255) s).link.notices.link = some ⟨3, .gap⟩ := by
  decide

/-- A part in RUN with both timers of RUN at a time, its winch reeling or not. -/
def timed (ms : Nat) (state : WinchState) : State :=
  ((up .run).setMdc { (up .run).mdc with silenceMs := ms, autoParkMs := ms }).setWnc { wncReset with state := state }

theorem test_witness_Set_silence :
    (timed 100 .reeling).mdc.mode = .run ∧ (100 : Word).toInt ≤ (timed 100 .reeling).mdc.silenceMs ∧
      (timed 100 .reeling).wnc.state.moves = true ∧ (run (.set 7 1 100) (timed 100 .reeling)).mdc.mode = .failsafe ∧
      (run (.set 7 1 100) (timed 100 .reeling)).wnc.rearm = true ∧
      (run (.set 7 1 101) (timed 100 .reeling)).mdc.mode = .run := by decide

theorem test_witness_Set_autoPark :
    (timed 1000 .stopped).parkFailure = none ∧ (timed 1000 .stopped).mdc.lastNonNeutral = false ∧
      itemSpec 3 = some ⟨3, .range 0 600, 120⟩ ∧ (1 : Word).toInt * 1000 ≤ (timed 1000 .stopped).mdc.autoParkMs ∧
      (run (.set 7 3 1) (timed 1000 .stopped)).mdc.mode = .park ∧
      (run (.set 7 3 2) (timed 1000 .stopped)).mdc.autoParkMs = 1000 ∧
      (run (.set 7 3 0) (timed 1000 .stopped)).mdc.autoParkMs = 0 := by decide

theorem test_witness_Set_cellCount_and_budget :
    let s := (up .ready).setPkm { State.reset.pkm with recovery := 9, level := .caution }
    isServing s = true ∧ s.mdc.mode = .ready ∧ (run (.set 7 10 4) s).pkm.recovery = 0 ∧
      (run (.set 7 10 4) s).pkm.level = .caution ∧ itemSpec 20 = some ⟨20, .range 5000 60000, 40000⟩ ∧
      (s.ws.setItem 20 (50000 : Word).toInt).ordered = true ∧ (20 : Fin 78) ≠ Item.surgeHold ∧
      (run (.set 7 20 50000) s).cau.budget = 37500 ∧ (run (.set 7 24 50) s).cau.budget = 0 := by decide

theorem test_witness_recomputes_release :
    let s := ((up .ready).setPkm { State.reset.pkm with level := .limit }).setCau
      { State.reset.cau with
        holder := some .steer, records := State.reset.cau.records.put .steer ⟨0, 0, true, true, 0, 5, 1⟩ }
    s.mdc.startDone = true ∧ s.cau.holder = some .steer ∧ slotAllowed s.pkm.level = false ∧
      (run (.set 7 20 50000) s).cau.holder = none ∧ (run (.set 7 20 50000) s).cau.records.steer.hold = 0 ∧
      (run (.set 7 20 50000) s).cau.records.steer.lowered = true := by decide

theorem test_witness_Save :
    isServing (up .ready) = true ∧ (up .ready).sst.store ≠ .writing ∧ (up .ready).tse.running = false ∧
      (up .ready).mdc.mode = .ready ∧ (up .ready).pkm.level = .normal ∧
      (run (.storeSave 7 false) (up .ready)).powered = true ∧
      (run (.storeSave 7 false) (up .ready)).sst.store = .writing := by decide

/-- A serving part at a level in a mode. -/
def levelled (m : VehicleMode) (l : Level) : State := (up m).setPkm { (up m).pkm with level := l }

theorem test_witness_Save_refusals :
    isServing (levelled .ready .limit) = true ∧ (levelled .ready .limit).sst.store ≠ .writing ∧
      (levelled .ready .limit).tse.running = false ∧ (levelled .ready .limit).pkm.level = .limit ∧
      (run (.storeSave 7 true) (levelled .ready .limit)).link.tx.map TxFrame.payload =
        some (u8 Status.lowSupply.code) ∧
      (run (.storeSave 7 true) (levelled .shutdown .cutoff)).link.tx.map TxFrame.payload =
        some (u8 Status.badState.code) ∧
      (run (.storeSave 7 true) ((up .ready).setTse { tseReset with running := true })).link.tx.map TxFrame.payload =
        some (u8 Status.busy.code) := by decide

theorem test_saveComplete_raises_done :
    let s := { run (.storeSave 7 false) (up .ready) with link := (up .ready).link }
    s.ws.notices .store = true ∧ s.sst.store = .writing ∧
      (run .saveComplete s).link.tx = some (Notice.store ⟨.done, .valid⟩).frame := by decide

theorem test_witness_Save_snapshot :
    (run (.storeSave 7 false) (up .ready)).sst.snapshot = some WorkingSet.defaults := by rfl

/-- A part in READY with a VALID store. -/
def stored : State :=
  (up .ready).setSst { (up .ready).sst with store := .valid, image := Image.of WorkingSet.defaults }

theorem test_witness_LoadAndDefaults :
    isServing stored = true ∧ stored.mdc.mode = .ready ∧ stored.tse.running = false ∧
      stored.sst.store = .valid ∧ (run (.storeLoad 7) stored).powered = true ∧
      (run (.storeLoad 7) stored).link.held = true ∧ (run (.storeLoad 7) stored).link.waiting = [] ∧
      isServing (up .run) = true ∧ (up .run).mdc.mode ≠ .ready ∧ (up .run).mdc.mode ≠ .park := by decide

theorem test_witness_Load_refusals :
    let saving := run (.storeSave 7 false) (up .ready)
    isServing saving = true ∧ saving.sst.store = .writing ∧ isServing (searching none [.fr] .wait 0 false) = true ∧
      (searching none [.fr] .wait 0 false).tse.running = true ∧ isServing (up .ready) = true ∧
      (up .ready).mdc.mode = .ready ∧ (up .ready).sst.store ≠ .valid ∧ (up .ready).sst.store ≠ .writing ∧
      (up .ready).tse.running = false ∧ (run (.storeLoad 8) (up .ready)).link.tx = some ⟨0xB3, 8, [9]⟩ ∧
      (run (.storeLoad 8) (up .run)).link.tx = some ⟨0xB3, 8, [3]⟩ ∧
      (run (.storeLoad 8) (searching none [.fr] .wait 0 false)).link.tx = some ⟨0xB3, 8, [2]⟩ := by decide

theorem test_witness_Load_cells_and_notices :
    let s := (up .ready).setWorking ((up .ready).ws.setItem Item.cellCount 4)
    s.ws.int Item.cellCount ≠ 3 ∧ (run (.storeDefaults 7) s).cau.budget = 40000 ∧
      (run (.storeDefaults 7) (s.setPkm { s.pkm with recovery := 9 })).pkm.recovery = 0 ∧
      (run (.storeDefaults 7) ((up .ready).setPkm { s.pkm with recovery := 9 })).pkm.recovery = 9 := by decide

theorem test_a_load_prunes_the_notices_its_mask_leaves_out :
    let w := WorkingSet.defaults.setItem Item.noticeMask 127
    let s := (((up .ready).setSst { (up .ready).sst with store := .valid, image := Image.of w })).setLink
      { State.reset.link with
        held := true, tx := some ⟨0xB3, 8, [0]⟩, notices := { noticesEmpty with
          link := some ⟨3, .gap⟩, store := some ⟨.done, .valid⟩ } }
    s.powered = true ∧ s.link.held = true ∧ s.link.waiting = [] ∧ s.link.tx ≠ none ∧
      (run .storeLoadEnd s).ws.notices .link = false ∧ (run .storeLoadEnd s).link.notices.link = none ∧
      (run .storeLoadEnd s).link.notices.store = some ⟨.done, .valid⟩ := by decide

theorem test_witness_Load_holds_a_corner :
    let s := stored.setStc { (up .ready).stc with
      machine := .aligning, corners := (up .ready).stc.corners.put .fl { active 0 0 [] with commanded := 40 } }
    (s.stc.corners.get .fl).state = .active ∧ ((run (.storeLoad 7) s).stc.corners.get .fl).target = 40 ∧
      ((run (.storeLoad 7) s).stc.corners.get .fl).loadHeld = true ∧
      (run (.storeLoad 7) s).stc.machine = .aligning := by decide

theorem test_defaults_with_failed_channels_rehome_their_functions :
    let s := (up .ready).setWorking (WorkingSet.defaults.setFailed 3 true |>.mapTo 3 (some 11))
    let t := run (.storeDefaults 7) s
    WorkingSet.defaults.homeless t.ws.failed 3 = true ∧ t.ws.map[(3 : FunctionId)] = some 10 ∧
      sparesOf WorkingSet.defaults.map t.ws.failed = [10, 11] ∧ t.ws.map[(4 : FunctionId)] = some 4 ∧
      t.ws.notices .lamp = true := by decide

/-- A part in READY with another record of the second generator, which runs in OFF with channels 9 and 11 on it. -/
def loadLit : State :=
  let s := (up .ready).setWorking
    { WorkingSet.defaults.mapTo 3 (some 11) with gens := { genDefaults with pg1 := ⟨500, .half⟩ } }
  s.setLmp { ((s.lmp.put 9 { channelReset with blink := some .pg1 }).put 11
    { channelReset with blink := some .pg1, output := .driving, commanded := true, suspect := .open }) with
    gens := { s.lmp.gens with pg1 := ⟨true, false, 300⟩ } }

theorem test_witness_Load_channels :
    let t := run (.storeDefaults 7) loadLit
    t.ws.carried 11 ≠ loadLit.ws.carried 11 ∧ t.lmp.channels[(11 : ChannelId)] = channelReset ∧
      t.ws.carried 9 = loadLit.ws.carried 9 ∧ loadLit.drivenBy .pg1 9 = true ∧
      (loadLit.lmp.gens.get .pg1).running = true ∧ t.ws.gens.get .pg1 ≠ loadLit.ws.gens.get .pg1 ∧
      (t.lmp.channels[(9 : ChannelId)]).output = .driving ∧ t.ws.carried 8 = loadLit.ws.carried 8 ∧
      t.lmp.channels[(8 : ChannelId)] = loadLit.lmp.channels[(8 : ChannelId)] := by decide

theorem test_witness_Load_image : (run (.storeLoad 7) stored).sst.image.content = WorkingSet.defaults := by rfl

/-! ### Invariants -/

theorem test_witness_LinkSound : State.reset.LinkSound ∧ step State.reset = .next State.reset.tick :=
  ⟨⟨by decide, by intro q hq; exact absurd hq List.not_mem_nil, by decide, by decide⟩, rfl⟩

theorem test_witness_SwitchesSound : State.reset.SwitchesSound ∧ State.reset.EnergySound :=
  ⟨⟨trivial, trivial, trivial, trivial⟩, ⟨by decide, by decide⟩⟩

theorem test_witness_SteeringAndWinchSound : State.reset.SteeringSound ∧ State.reset.WinchSound :=
  ⟨⟨by decide, by intro i; cases i <;> decide, fun _ => ⟨rfl, rfl⟩, by decide, fun h => absurd h (by decide),
      by intro i; cases i <;> decide⟩,
    ⟨by intro i; cases i <;> decide, by decide, by decide⟩⟩

theorem test_witness_AllotSound : State.reset.AllotSound ∧ State.reset.StoreSound :=
  ⟨⟨by decide, fun _ => ⟨rfl, by intro k; cases k <;> exact ⟨rfl, rfl⟩⟩, by decide, (by intro h; cases h),
    by intro k; cases k <;> rfl, by decide, by intro h; cases h⟩, ⟨by decide, by decide, by decide, by decide, by decide⟩⟩

theorem test_witness_LampsSound : State.reset.LampsSound :=
  ⟨(by constructor <;> decide), (by constructor <;> decide), (by intro w h; cases h)⟩

end Sys2Proof.Machine.Tests
end

section
/-! PROOF. One millisecond of the timers (log 2): each timer's own move and event, and the idle step that makes them all. -/
namespace Sys2Proof.Machine

/-! ## One timer after another -/

/-- The gap timer (R2). -/
theorem State.tickGap_eq (s : State) : s.tickGap =
    (s.setLink { s.link with gapMs := if s.link.rx = .hunt then s.link.gapMs else s.link.gapMs + 1 },
      if s.link.rx ≠ .hunt ∧ 5 ≤ s.link.gapMs + 1 then [.gapTimerExpiry] else []) := by
  unfold State.tickGap
  by_cases h : s.link.rx = .hunt
  · simp only [h, if_true, ne_eq, not_true, false_and, if_false]
    rw [← h]; rfl
  · simp only [h, if_false, ne_eq, not_false_eq_true, true_and]

/-- The stage timer (R31, R33). -/
theorem State.tickStage_eq (s : State) : s.tickStage =
    (s.setMdc { s.mdc with
        stageMs := if s.mdc.mode = .loading ∨ s.mdc.mode = .centering then s.mdc.stageMs + 1 else s.mdc.stageMs },
      (if s.mdc.mode = .loading ∧ 20 ≤ s.mdc.stageMs + 1 then [.loadingEnd] else []) ++
        (if s.mdc.mode = .centering ∧ 200 ≤ s.mdc.stageMs + 1 then [.centeringEnd] else [])) := by
  unfold State.tickStage
  dsimp only
  split
  case h_1 h => simp [h]
  case h_2 h => simp [h]
  case h_3 loading centering =>
    have idle : ¬(s.mdc.mode = .loading ∨ s.mdc.mode = .centering) := fun h => h.elim loading centering
    simp only [if_neg idle, if_neg fun h : s.mdc.mode = .loading ∧ _ => loading h.1,
      if_neg fun h : s.mdc.mode = .centering ∧ _ => centering h.1]
    rfl

/-- The silence timer (R37). -/
theorem State.tickSilence_eq (s : State) : s.tickSilence =
    (s.setMdc { s.mdc with silenceMs := if s.mdc.mode = .run then s.mdc.silenceMs + 1 else s.mdc.silenceMs },
      if s.mdc.mode = .run ∧ s.ws.nat Item.silenceMs ≤ s.mdc.silenceMs + 1 then [.silenceTimerExpiry] else []) := by
  unfold State.tickSilence
  by_cases h : s.mdc.mode = .run
  · simp only [h, if_true, true_and]
  · simp only [h, if_false, false_and]
    rfl

/-- The auto-park timer (R41). -/
theorem State.tickAutoPark_eq (s : State) : s.tickAutoPark =
    (s.setMdc { s.mdc with autoParkMs := if s.autoParkRuns then s.mdc.autoParkMs + 1 else 0 },
      if s.autoParkRuns = true ∧ s.ws.nat Item.autoParkS * 1000 ≤ s.mdc.autoParkMs + 1 then [.autoParkExpiry]
      else []) := by
  unfold State.tickAutoPark
  cases s.autoParkRuns <;> simp

/-- The park timer (R42). -/
theorem State.tickPark_eq (s : State) : s.tickPark =
    (s.setMdc { s.mdc with parkTimer := s.mdc.parkTimer.map fun n => n - 1 },
      if s.mdc.parkTimer = some 1 then [.parkTimerExpiry] else []) := by
  unfold State.tickPark
  split
  case h_1 n h => simp [h]
  case h_2 stopped =>
    have same : (s.mdc.parkTimer.map fun n => n - 1) = s.mdc.parkTimer := by
      match h : s.mdc.parkTimer with
      | none => rfl
      | some 0 => rfl
      | some (n + 1) => exact absurd h (stopped n)
    rw [same, if_neg (stopped 0)]
    rfl

/-- The clutch timer (R158). -/
theorem State.tickClutch_eq (s : State) : s.tickClutch =
    (s.setWnc { s.wnc with clutchMs := s.wnc.clutchMs - 1 },
      if s.wnc.clutchMs = 1 then [.clutchTimerExpiry] else []) := by
  unfold State.tickClutch
  split
  case h_1 n h => simp [h]
  case h_2 h =>
    simp only [h, Nat.zero_sub, Nat.zero_ne_one, if_false]
    rw [← h]; rfl

/-- A generator (R167). -/
theorem State.tickGen_eq (g : GenId) (s : State) : State.tickGen g s =
    (s.setLmp { s.lmp with
        gens := s.lmp.gens.put g
          (let run := s.lmp.gens.get g
           if run.running then { run with ms := run.ms + 1 } else run) },
      let run := s.lmp.gens.get g
      let setting := s.ws.gens.get g
      if run.running = true ∧ setting.period ≤ run.ms + 1 then [Instr.onEdge g]
      else if run.running = true ∧ run.on = true ∧ setting.duty ≠ .full ∧ setting.onTime ≤ run.ms + 1 then
        [.offEdge g]
      else []) := by
  have idle : s.lmp.gens.put g (s.lmp.gens.get g) = s.lmp.gens := by cases g <;> rfl
  unfold State.tickGen genEdge
  cases h : (s.lmp.gens.get g).running
  · simp only [h, Bool.false_eq_true, if_false, false_and, idle]
    rfl
  · simp only [h, if_true, true_and]

/-- The write timer (R180). -/
theorem State.tickWrite_eq (s : State) : s.tickWrite =
    (s.setSst { s.sst with writeMs := if s.sst.store = .writing then s.sst.writeMs + 1 else s.sst.writeMs },
      if s.sst.store = .writing ∧ 80 ≤ s.sst.writeMs + 1 then [.saveComplete] else []) := by
  unfold State.tickWrite State.saving
  by_cases h : s.sst.store = .writing
  · simp only [h, decide_true, if_true, true_and]
  · simp only [h, decide_false, Bool.false_eq_true, if_false, false_and]
    rfl

/-- A store load (R182). -/
theorem State.tickLoad_eq (s : State) : s.tickLoad =
    (s.setLink { s.link with loadMs := if s.link.held then s.link.loadMs + 1 else s.link.loadMs },
      if s.link.held = true ∧ 20 ≤ s.link.loadMs + 1 then [.storeLoadEnd] else []) := by
  unfold State.tickLoad
  by_cases h : s.link.held = true
  · simp only [h, if_true, true_and]
  · rw [if_neg h, if_neg h, if_neg fun due => h due.1]
    rfl

/-! ## The idle step -/

/-- The next timer's move and events follow those before it. -/
theorem Due.andThen_mk (u : State) (l : List Instr) (f : State → Due) :
    Due.andThen (u, l) f = ((f u).1, l ++ (f u).2) := rfl

/-- The gap timer and the Mode Controller's four, one after another. -/
theorem State.tickModes_eq (s : State) :
    (((s.tickGap.andThen State.tickStage).andThen State.tickSilence).andThen State.tickAutoPark).andThen
        State.tickPark =
      ((s.setLink { s.link with gapMs := if s.link.rx = .hunt then s.link.gapMs else s.link.gapMs + 1 }).setMdc
        { s.mdc with
          stageMs := if s.mdc.mode = .loading ∨ s.mdc.mode = .centering then s.mdc.stageMs + 1 else s.mdc.stageMs
          silenceMs := if s.mdc.mode = .run then s.mdc.silenceMs + 1 else s.mdc.silenceMs
          autoParkMs := if s.autoParkRuns then s.mdc.autoParkMs + 1 else 0
          parkTimer := s.mdc.parkTimer.map fun n => n - 1 },
      (if s.link.rx ≠ .hunt ∧ 5 ≤ s.link.gapMs + 1 then [Instr.gapTimerExpiry] else []) ++
        (if s.mdc.mode = .loading ∧ 20 ≤ s.mdc.stageMs + 1 then [Instr.loadingEnd] else []) ++
        (if s.mdc.mode = .centering ∧ 200 ≤ s.mdc.stageMs + 1 then [Instr.centeringEnd] else []) ++
        (if s.mdc.mode = .run ∧ s.ws.nat Item.silenceMs ≤ s.mdc.silenceMs + 1 then [Instr.silenceTimerExpiry] else []) ++
        (if s.autoParkRuns = true ∧ s.ws.nat Item.autoParkS * 1000 ≤ s.mdc.autoParkMs + 1 then [Instr.autoParkExpiry]
          else []) ++
        (if s.mdc.parkTimer = some 1 then [Instr.parkTimerExpiry] else [])) := by
  rw [State.tickGap_eq, Due.andThen_mk _ _ State.tickStage, State.tickStage_eq, Due.andThen_mk _ _ State.tickSilence,
    State.tickSilence_eq, Due.andThen_mk _ _ State.tickAutoPark, State.tickAutoPark_eq,
    Due.andThen_mk _ _ State.tickPark, State.tickPark_eq]
  simp only [List.append_assoc, State.setLink_mdc,
    State.setMdc_mdc, State.ws, State.setLink_sst, State.setMdc_sst]
  rfl

/-- The four generators, one after another (R167). -/
theorem Due.tickGens_eq (d : Due) :
    (((d.andThen (State.tickGen .pg0)).andThen (State.tickGen .pg1)).andThen (State.tickGen .pg2)).andThen
        (State.tickGen .pg3) =
      (d.1.setLmp { d.1.lmp with
        gens := PerGen.ofFn fun g =>
          let run := d.1.lmp.gens.get g
          if run.running then { run with ms := run.ms + 1 } else run },
      d.2 ++ genIds.flatMap fun g =>
        let run := d.1.lmp.gens.get g
        let setting := d.1.ws.gens.get g
        if run.running = true ∧ setting.period ≤ run.ms + 1 then [Instr.onEdge g]
        else if run.running = true ∧ run.on = true ∧ setting.duty ≠ .full ∧ setting.onTime ≤ run.ms + 1 then
          [.offEdge g]
        else []) := by
  simp only [Due.andThen, State.tickGen_eq, State.setLmp_lmp, State.ws, State.setLmp_sst, PerGen.get, PerGen.put,
    genIds, List.flatMap_cons, List.flatMap_nil, List.append_nil, List.append_assoc]
  rfl

/-- Settles O2: the timers' moves, one after another, touch different fields and read none that another moves. -/
theorem idleStepMovesEveryTimerByOneMillisecond : Obligations.IdleStepMovesEveryTimerByOneMillisecond := by
  intro s idle powered
  have ticks : step s = .next (s.timers.1.setPending s.timers.2) := by
    unfold step State.tick
    rw [idle, if_pos powered, List.nil_append]
  rw [ticks]
  unfold State.timers
  dsimp only
  rw [State.tickModes_eq, Due.andThen_mk _ _ State.tickClutch, State.tickClutch_eq, Due.tickGens_eq,
    Due.andThen_mk _ _ State.tickWrite, State.tickWrite_eq, Due.andThen_mk _ _ State.tickLoad, State.tickLoad_eq]
  dsimp only [State.setLink, State.setMdc, State.setWnc, State.setLmp, State.setSst, State.setPending, State.ws]
  rfl

end Sys2Proof.Machine
end

section
/-! PROOF. The link's account (R1, R5, R9, R14): what the blocks' operations leave of the receiver, the places and the
replies on their way, and how many replies a request adds. -/
namespace Sys2Proof.Machine

/-! ## The account -/

/-- What the link's places are judged by: receiver, waiting requests, slots, an accepted RESET, the number of replies on
their way, and the Mode Controller's state, which may hold a deferred HELLO. -/
structure Account where
  rx : Receiver
  gapMs : Nat
  waiting : List RawRequest
  slots : Nat
  resetting : Bool
  replies : Nat
  mdc : Mdc

/-- How many replies are on their way. -/
def Link.replyCount (l : Link) : Nat := (l.outgoing.filter TxFrame.isReply).length

/-- The account of a state. -/
def State.account (s : State) : Account :=
  { rx := s.link.rx, gapMs := s.link.gapMs, waiting := s.link.waiting, slots := s.link.slots,
    resetting := s.link.resetting, replies := s.link.replyCount, mdc := s.mdc }

/-- The account once a reply to `q` has been produced. -/
def Account.answered (a : Account) (q : RawRequest) : Account :=
  { a with replies := a.replies + if (q.kind + 0x80).toNat < 0xC0 then 1 else 0 }

/-- Frames above the reply kinds hold no slot. -/
theorem filter_isReply_of_notices {l : List TxFrame} (h : ∀ f ∈ l, 0xC0 < f.kind.toNat) :
    l.filter TxFrame.isReply = [] := by
  rw [List.filter_eq_nil_iff]
  intro f hf
  have := h f hf
  simp only [TxFrame.isReply, decide_eq_true_eq]
  omega

/-- The transmitter's choice takes a reply from the queue or a notice: the replies on their way stand. -/
theorem Link.kick_replies (l : Link) :
    l.kick.outgoing.filter TxFrame.isReply = l.outgoing.filter TxFrame.isReply := by
  obtain ⟨ahead, grows, -, notices⟩ := l.kick_outgoing
  rw [grows, List.filter_append, filter_isReply_of_notices notices, List.append_nil]

/-- A raised notice leaves the replies on their way. -/
theorem Link.raise_replies (l : Link) (b : Bool) (n : Notice) :
    (l.raise b n).outgoing.filter TxFrame.isReply = l.outgoing.filter TxFrame.isReply := by
  obtain ⟨ahead, grows, -, notices⟩ := l.raise_outgoing b n
  rw [grows, List.filter_append, filter_isReply_of_notices notices, List.append_nil]

/-- So does a drop (R13). -/
theorem Link.drop_replies (l : Link) (b : Bool) (w : DropReason) :
    (l.drop b w).outgoing.filter TxFrame.isReply = l.outgoing.filter TxFrame.isReply :=
  Link.raise_replies _ _ _

@[simp] theorem Link.raise_replyCount (l : Link) (b : Bool) (n : Notice) :
    (l.raise b n).replyCount = l.replyCount := by
  rw [Link.replyCount, Link.raise_replies, Link.replyCount]

@[simp] theorem Link.drop_replyCount (l : Link) (b : Bool) (w : DropReason) :
    (l.drop b w).replyCount = l.replyCount := by
  rw [Link.replyCount, Link.drop_replies, Link.replyCount]

/-- A reply below the notice kinds counts. -/
theorem Link.answer_replyCount (l : Link) (r : TxFrame) :
    (l.answer r).replyCount = l.replyCount + if r.kind.toNat < 0xC0 then 1 else 0 := by
  rw [Link.replyCount, Link.answer_outgoing, List.filter_append, List.length_append, Link.replyCount]
  by_cases h : r.kind.toNat < 0xC0 <;> simp [TxFrame.isReply, h]

/-! ## Operations that leave the account -/

@[simp] theorem State.account_setIntent (s : State) (x : Intent) : (s.setIntent x).account = s.account := rfl
@[simp] theorem State.account_setPkm (s : State) (x : Pkm) : (s.setPkm x).account = s.account := rfl
@[simp] theorem State.account_setCau (s : State) (x : Cau) : (s.setCau x).account = s.account := rfl
@[simp] theorem State.account_setStc (s : State) (x : Stc) : (s.setStc x).account = s.account := rfl
@[simp] theorem State.account_setTse (s : State) (x : Tse) : (s.setTse x).account = s.account := rfl
@[simp] theorem State.account_setDrc (s : State) (x : Drc) : (s.setDrc x).account = s.account := rfl
@[simp] theorem State.account_setWnc (s : State) (x : Wnc) : (s.setWnc x).account = s.account := rfl
@[simp] theorem State.account_setLmp (s : State) (x : Lmp) : (s.setLmp x).account = s.account := rfl
@[simp] theorem State.account_setSst (s : State) (x : Sst) : (s.setSst x).account = s.account := rfl
@[simp] theorem State.account_setStoreLock (s : State) (x : Bool) : (s.setStoreLock x).account = s.account := rfl
@[simp] theorem State.account_setPending (s : State) (x : List Instr) : (s.setPending x).account = s.account := rfl
@[simp] theorem State.account_setWorking (s : State) (w : WorkingSet) : (s.setWorking w).account = s.account := rfl
@[simp] theorem State.account_remap (s : State) (w : WorkingSet) : (s.remap w).account = s.account := rfl
@[simp] theorem State.account_window (s : State) : s.window.account = s.account := rfl
@[simp] theorem State.account_onEdge (s : State) (g : GenId) : (s.onEdge g).account = s.account := rfl

@[simp] theorem State.account_writeWish (s : State) (k : Consumer) (b : Bool) :
    (s.writeWish k b).account = s.account := rfl

@[simp] theorem State.account_recomputeCau (s : State) : s.recomputeCau.account = s.account := by
  unfold State.recomputeCau; split <;> rfl

@[simp] theorem State.account_raise (s : State) (n : Notice) : (s.raise n).account = s.account := by
  simp [State.account, State.raise_link]

@[simp] theorem State.account_drop (s : State) (w : DropReason) : (s.drop w).account = s.account := by
  simp [State.account, State.drop_link]

/-- Operations that leave the account leave it one after another. -/
theorem State.account_foldl {α : Type} {f : State → α → State} (keeps : ∀ s x, (f s x).account = s.account)
    (l : List α) (s : State) : (l.foldl f s).account = s.account := by
  induction l generalizing s with
  | nil => rfl
  | cons x l ih => rw [List.foldl_cons, ih, keeps]

/-! ## Replies -/

@[simp] theorem State.account_answer (s : State) (q : RawRequest) (p : List Byte) :
    (s.answer q p).account = s.account.answered q := by
  simp [State.account, Account.answered, State.answer_link, Link.answer_replyCount]

@[simp] theorem State.account_ok (s : State) (q : RawRequest) (p : List Byte) :
    (s.ok q p).account = s.account.answered q := State.account_answer _ _ _

@[simp] theorem State.account_refuse (s : State) (q : RawRequest) (w : Status) :
    (s.refuse q w).account = s.account.answered q := State.account_answer _ _ _

@[simp] theorem State.account_refuseWith (s : State) (q : RawRequest) (w : Status) (r : Nat) :
    (s.refuseWith q w r).account = s.account.answered q := State.account_answer _ _ _

/-! ## Steering and search -/

@[simp] theorem State.account_steerNotice (s : State) (e : SteerEvent) : (s.steerNotice e).account = s.account := by
  simp [State.steerNotice]

@[simp] theorem State.account_trimNotice (s : State) : s.trimNotice.account = s.account := by
  simp [State.trimNotice]

@[simp] theorem State.account_aimCorners (s : State) : s.aimCorners.account = s.account := by
  unfold State.aimCorners; split <;> rfl

@[simp] theorem State.account_settleEnds (s : State) : s.settleEnds.account = s.account := by
  simp [State.settleEnds]

@[simp] theorem State.account_alignExpires (s : State) : s.alignExpires.account = s.account := by
  unfold State.alignExpires; dsimp only; split <;> simp

@[simp] theorem State.account_adoptTarget (s : State) : s.adoptTarget.account = s.account := by
  unfold State.adoptTarget; split <;> simp

@[simp] theorem State.account_advanceMachine (s : State) : s.advanceMachine.account = s.account := by
  unfold State.advanceMachine; dsimp only; (repeat' split) <;> simp

@[simp] theorem State.account_putCorner (s : State) (i : CornerId) (k : Corner) :
    (s.putCorner i k).account = s.account := by
  unfold State.putCorner; dsimp only; split <;> simp

@[simp] theorem State.account_endSearch (s : State) (c : EndCause) : (s.endSearch c).account = s.account := by
  simp [State.endSearch]

@[simp] theorem State.account_abortSearch (s : State) (c : EndCause) : (s.abortSearch c).account = s.account := by
  simp [State.abortSearch]

@[simp] theorem State.account_abortOnMode (s : State) : s.abortOnMode.account = s.account := by
  unfold State.abortOnMode; split <;> simp

@[simp] theorem State.account_setProbe (s : State) (i : CornerId) (x : Int) : (s.setProbe i x).account = s.account := by
  simp [State.setProbe]

@[simp] theorem State.account_beginCorner (s : State) : s.beginCorner.account = s.account := by
  unfold State.beginCorner; (repeat' split) <;> simp

@[simp] theorem State.account_endCorner (s : State) (i : CornerId) (f : ResultEntry → ResultEntry) :
    (s.endCorner i f).account = s.account := by
  unfold State.endCorner; dsimp only; split <;> simp

@[simp] theorem State.account_edgeFound (s : State) (i : CornerId) : (s.edgeFound i).account = s.account := by
  unfold State.edgeFound; dsimp only; split <;> simp

@[simp] theorem State.account_probeStep (s : State) (i : CornerId) : (s.probeStep i).account = s.account := by
  simp [State.probeStep]

@[simp] theorem State.account_judgeWait (s : State) (i : CornerId) : (s.judgeWait i).account = s.account := by
  unfold State.judgeWait; split <;> simp

@[simp] theorem State.account_judgeStep (s : State) (i : CornerId) : (s.judgeStep i).account = s.account := by
  unfold State.judgeStep; dsimp only; (repeat' split) <;> simp

@[simp] theorem State.account_searchFrame (s : State) : s.searchFrame.account = s.account := by
  unfold State.searchFrame; (repeat' split) <;> simp

@[simp] theorem State.account_followMode (s : State) : s.followMode.account = s.account := by
  unfold State.followMode; dsimp only; (repeat' split) <;> simp

@[simp] theorem State.account_takeSteerCode (s : State) : s.takeSteerCode.account = s.account := by
  unfold State.takeSteerCode State.codeInSteady State.codeInAligning State.codeInSettling State.refuseCode
  dsimp only
  (repeat' split) <;> simp

@[simp] theorem State.account_workCorners (s : State) : s.workCorners.account = s.account := by
  unfold State.workCorners
  split
  · simp
  · exact State.account_foldl (fun u i => by simp [State.workCorner]) _ _

@[simp] theorem State.account_settleFailures (s : State) (b : PerCorner Bool) :
    (s.settleFailures b).account = s.account := by
  unfold State.settleFailures; split <;> simp

@[simp] theorem State.account_afterCorner (s : State) (b : PerCorner Bool) : (s.afterCorner b).account = s.account := by
  simp [State.afterCorner]

@[simp] theorem State.account_beginFrame (s : State) (r : ServoReading) : (s.beginFrame r).account = s.account := by
  simp [State.beginFrame, State.setSlew]

@[simp] theorem State.account_endFrame (s : State) : s.endFrame.account = s.account := by
  simp [State.endFrame, State.sendPulses]

/-! ## Drive and winch -/

@[simp] theorem State.account_takeDriveCode (s : State) : s.takeDriveCode.account = s.account := by
  unfold State.takeDriveCode; (repeat' split) <;> simp

@[simp] theorem State.account_driveAxles (s : State) : s.driveAxles.account = s.account := rfl

@[simp] theorem State.account_updateFollow (s : State) : s.updateFollow.account = s.account := rfl

@[simp] theorem State.account_putAxle (s : State) (i : AxleId) (a : Axle) : (s.putAxle i a).account = s.account := rfl

@[simp] theorem State.account_winchNotice (s : State) (e : WinchEvent) (c : Option EngageCause) :
    (s.winchNotice e c).account = s.account := by
  simp [State.winchNotice]

@[simp] theorem State.account_forcedEngage (s : State) (c : EngageCause) : (s.forcedEngage c).account = s.account := by
  unfold State.forcedEngage; split <;> simp

@[simp] theorem State.account_winchModeChange (s : State) (m : VehicleMode) :
    (s.winchModeChange m).account = s.account := by
  unfold State.winchModeChange; dsimp only; (repeat' split) <;> simp

@[simp] theorem State.account_axleModeChange (s : State) (m : VehicleMode) :
    (s.axleModeChange m).account = s.account := by
  unfold State.axleModeChange; split <;> rfl

@[simp] theorem State.account_readLineIn (s : State) (b : Bool) : (s.readLineIn b).account = s.account := by
  unfold State.readLineIn; dsimp only; (repeat' split) <;> simp

@[simp] theorem State.account_takeWinchCode (s : State) : s.takeWinchCode.account = s.account := by
  unfold State.takeWinchCode; dsimp only; split <;> simp

@[simp] theorem State.account_checkSolenoid (s : State) : s.checkSolenoid.account = s.account := by
  unfold State.checkSolenoid; (repeat' split) <;> simp

@[simp] theorem State.account_hardHold (s : State) : s.hardHold.account = s.account := by
  unfold State.hardHold; split <;> simp

@[simp] theorem State.account_jam (s : State) (ms : Nat) : (s.jam ms).account = s.account := by
  simp [State.jam]

@[simp] theorem State.account_jamTest (s : State) : s.jamTest.account = s.account := by
  unfold State.jamTest; dsimp only; (repeat' split) <;> simp

@[simp] theorem State.account_winchState (s : State) : s.winchState.account = s.account := by
  unfold State.winchState; dsimp only; (repeat' split) <;> simp

@[simp] theorem State.account_winchDuty (s : State) : s.winchDuty.account = s.account := by
  unfold State.winchDuty; dsimp only; split <;> simp

@[simp] theorem State.account_winchWish (s : State) : s.winchWish.account = s.account := rfl

@[simp] theorem State.account_cancelAssist (s : State) : s.cancelAssist.account = s.account := by
  unfold State.cancelAssist; split <;> simp

/-! ## Lamps and store -/

@[simp] theorem State.account_lampNotice (s : State) (e : LampEvent) (a : Option ChannelId) (f : Option FunctionId)
    (b : Option ChannelId) : (s.lampNotice e a f b).account = s.account := by
  simp [State.lampNotice]

@[simp] theorem State.account_failChannel (s : State) (ch : ChannelId) : (s.failChannel ch).account = s.account := by
  simp [State.failChannel]

@[simp] theorem State.account_examine (s : State) (ch : ChannelId) : (s.examine ch).account = s.account := by
  unfold State.examine; dsimp only; (repeat' split) <;> simp

@[simp] theorem State.account_diagnose (s : State) (c : Vector Nat 12) : (s.diagnose c).account = s.account := by
  unfold State.diagnose
  rw [State.account_foldl State.account_examine, State.account_setLmp]

@[simp] theorem State.account_takeLightCode (s : State) : s.takeLightCode.account = s.account := by
  unfold State.takeLightCode; split <;> rfl

@[simp] theorem State.account_moveFunction (s : State) (f : FunctionId) (ch : Option ChannelId) :
    (s.moveFunction f ch).account = s.account := by
  unfold State.moveFunction; split <;> rfl

@[simp] theorem State.account_clearFailed (s : State) (ch : ChannelId) : (s.clearFailed ch).account = s.account := by
  simp [State.clearFailed]

@[simp] theorem State.account_restartGens (s : State) (w : WorkingSet) : (s.restartGens w).account = s.account :=
  State.account_foldl (fun u g => by split <;> rfl) _ _

@[simp] theorem State.account_rederiveLamps (s : State) (w : WorkingSet) :
    (s.rederiveLamps w).account = s.account := by
  unfold State.rederiveLamps; dsimp only; split <;> simp

@[simp] theorem State.account_pruneNotices (s : State) : s.pruneNotices.account = s.account := rfl

@[simp] theorem State.account_replaceWorking (s : State) (w : WorkingSet) :
    (s.replaceWorking w).account = s.account := by
  unfold State.replaceWorking; dsimp only; split <;> simp

@[simp] theorem State.account_abandonWrite (s : State) : s.abandonWrite.account = s.account := by
  unfold State.abandonWrite; split <;> simp

@[simp] theorem State.account_enterLevel (s : State) (l : Level) (c : LevelCause) :
    (s.enterLevel l c).account = s.account := by
  simp [State.enterLevel]

@[simp] theorem State.account_levelEntered (s : State) (l : Level) (c : LevelCause) :
    (s.levelEntered l c).account = s.account := by
  unfold State.levelEntered; dsimp only; split <;> simp

/-- The end of a load leaves receiver, places, replies and modes (R182). -/
@[simp] theorem State.account_finishLoad (s : State) : s.finishLoad.account = s.account := by
  rw [← State.account_replaceWorking s s.sst.image.content]
  rfl

end Sys2Proof.Machine
end

section
/-! PROOF. What is owed (R9): from one state to another the receiver and the places stand and a number of replies more is
owed; the Mode Controller's operations, which may answer a deferred HELLO, owe none. -/
namespace Sys2Proof.Machine

/-! ## Owing replies -/

/-- START holds no deferred HELLO: its arrival in START begins the start sequence (R30). -/
def State.unasked (s : State) : Prop := s.mdc.mode = .start → s.mdc.deferredHello = none

/-- What the held slots are owed (R9): the replies on their way, and that of a deferred HELLO. -/
def State.debt (s : State) : Nat := s.link.replyCount + if s.mdc.deferredHello.isSome then 1 else 0

/-- From `s` to `t` the receiver and the places stand, an accepted RESET with them, and `n` replies more are owed. -/
structure State.owes (s t : State) (n : Nat) : Prop where
  rx : t.link.rx = s.link.rx
  gapMs : t.link.gapMs = s.link.gapMs
  waiting : t.link.waiting = s.link.waiting
  slots : t.link.slots = s.link.slots
  resetting : t.link.resetting = s.link.resetting
  unasked : s.unasked → t.unasked
  debt : s.unasked → t.debt = s.debt + n

theorem State.owes_trans {s u t : State} {a b : Nat} (first : s.owes u a) (after : u.owes t b) :
    s.owes t (a + b) where
  rx := after.rx.trans first.rx
  gapMs := after.gapMs.trans first.gapMs
  waiting := after.waiting.trans first.waiting
  slots := after.slots.trans first.slots
  resetting := after.resetting.trans first.resetting
  unasked h := after.unasked (first.unasked h)
  debt h := by rw [after.debt (first.unasked h), first.debt h, Nat.add_assoc]

/-- What owes nothing, and what follows it. -/
theorem State.owes_after {s u t : State} {n : Nat} (first : s.owes u 0) (after : u.owes t n) : s.owes t n := by
  simpa using State.owes_trans first after

/-- A change of MDC's state that leaves the mode and the deferred HELLO, and no more of the account, owes nothing. -/
theorem State.owes_of_mdc {s t : State} (h : t.account = { s.account with mdc := t.mdc })
    (mode : t.mdc.mode = s.mdc.mode) (deferred : t.mdc.deferredHello = s.mdc.deferredHello) : s.owes t 0 := by
  simp only [State.account, Account.mk.injEq] at h
  obtain ⟨rx, gapMs, waiting, slots, resetting, replies, -⟩ := h
  refine ⟨rx, gapMs, waiting, slots, resetting, fun h => ?_, fun _ => ?_⟩
  · unfold State.unasked
    rwa [mode, deferred]
  · rw [State.debt, replies, deferred, State.debt, Nat.add_zero]

/-- Where the account stands nothing is owed. -/
theorem State.owes_of_account {s t : State} (h : t.account = s.account) : s.owes t 0 := by
  have mdc : t.mdc = s.mdc := congrArg Account.mdc h
  exact State.owes_of_mdc (h.trans (by rw [mdc]; rfl)) (by rw [mdc]) (by rw [mdc])

theorem State.owes_refl (s : State) : s.owes s 0 := State.owes_of_account rfl

/-- The reply kinds lie below the notice kinds (R7). -/
theorem isReply_of_isRequestKind {kind : Byte} (h : isRequestKind kind = true) : (kind + 0x80).toNat < 0xC0 := by
  simp only [isRequestKind, Bool.and_eq_true, decide_eq_true_eq] at h
  rw [BitVec.toNat_add, show (0x80 : Byte).toNat = 128 from rfl]
  omega

/-- A reply to a request is one reply. -/
theorem State.owes_of_answered {s t : State} {q : RawRequest} (kind : isRequestKind q.kind = true)
    (h : t.account = s.account.answered q) : s.owes t 1 := by
  simp only [State.account, Account.answered, if_pos (isReply_of_isRequestKind kind), Account.mk.injEq] at h
  obtain ⟨rx, gapMs, waiting, slots, resetting, replies, mdc⟩ := h
  refine ⟨rx, gapMs, waiting, slots, resetting, fun h => ?_, fun _ => ?_⟩
  · unfold State.unasked
    rwa [mdc]
  · rw [State.debt, replies, mdc, State.debt]
    omega

/-- Writing MDC's state but for the mode and the deferred HELLO owes nothing. -/
theorem State.owes_setMdc (s : State) {d : Mdc} (mode : d.mode = s.mdc.mode)
    (deferred : d.deferredHello = s.mdc.deferredHello) : s.owes (s.setMdc d) 0 :=
  State.owes_of_mdc rfl mode deferred

theorem State.owes_holdAutoPark (s : State) : s.owes s.holdAutoPark 0 := by
  unfold State.holdAutoPark
  split
  · exact s.owes_refl
  · exact s.owes_setMdc rfl rfl

/-! ## Changing the mode -/

/-- The reply of a deferred HELLO takes the place of what was owed for it (R33). -/
theorem State.owes_answerDeferredHello (s : State) : s.owes s.answerDeferredHello 0 := by
  unfold State.answerDeferredHello
  split
  · rename_i tag asked
    have answered : (s.ok ⟨0x01, tag, []⟩ s.helloBody).account = s.account.answered ⟨0x01, tag, []⟩ :=
      State.account_ok _ _ _
    simp only [State.account, Account.answered, Account.mk.injEq] at answered
    obtain ⟨rx, gapMs, waiting, slots, resetting, replies, -⟩ := answered
    refine ⟨rx, gapMs, waiting, slots, resetting, fun _ _ => rfl, fun _ => ?_⟩
    unfold State.debt
    rw [asked, State.setMdc_link, replies]
    simp
  · exact s.owes_refl

theorem State.owes_endStart (s : State) : s.owes s.endStart 0 := by
  unfold State.endStart
  refine State.owes_after ?_ (State.owes_answerDeferredHello _)
  exact State.owes_after (s.owes_setMdc (d := { s.mdc with startDone := true }) rfl rfl)
    (State.owes_of_account (State.account_window _))

/-- Entering a mode other than START owes nothing. -/
theorem State.owes_enter (s : State) {m : VehicleMode} (h : m ≠ .start) : s.owes (s.setMdc (s.mdc.enter s.ws m)) 0 :=
  ⟨rfl, rfl, rfl, rfl, rfl, fun _ e => absurd e h, fun _ => rfl⟩

/-- A change of the mode owes nothing: a deferred HELLO that it answers was owed (R33). -/
theorem State.owes_setMode (s : State) {m : VehicleMode} (h : m ≠ .start) : s.owes (s.setMode m) 0 := by
  by_cases same : s.mdc.mode = m
  · rw [State.setMode_of_eq same]
    exact s.owes_refl
  have entered : s.owes (s.modeEntered m) 0 :=
    State.owes_after (s.owes_enter h) (State.owes_of_account (by simp [State.modeEntered]))
  rw [State.setMode_eq same]
  split
  · exact State.owes_after entered (State.owes_endStart _)
  · exact entered

theorem Mdc.recordCause_deferredHello (d : Mdc) (c : WakeCause) :
    (d.recordCause c).deferredHello = d.deferredHello := by
  unfold Mdc.recordCause
  (repeat' split) <;> rfl

theorem State.owes_wake (s : State) (c : WakeCause) : s.owes (s.wake c) 0 := by
  unfold State.wake
  dsimp only
  split
  · split
    · exact State.owes_after
        (s.owes_setMdc (d := { s.mdc.recordCause c with wakeCentering := true }) (Mdc.recordCause_mode _ _)
          (Mdc.recordCause_deferredHello _ _))
        (State.owes_setMode _ (by decide))
    · exact s.owes_setMdc (Mdc.recordCause_mode _ _) (Mdc.recordCause_deferredHello _ _)
  · exact s.owes_refl

theorem State.owes_modeOnLevel (s : State) (l : Level) : s.owes (s.modeOnLevel l) 0 := by
  unfold State.modeOnLevel
  dsimp only
  split
  · have recorded : s.owes (if s.ws.honours .pack then s.setMdc (s.mdc.recordCause .pack) else s) 0 := by
      split
      · exact s.owes_setMdc (Mdc.recordCause_mode _ _) (Mdc.recordCause_deferredHello _ _)
      · exact s.owes_refl
    split
    · exact State.owes_after recorded (State.owes_setMode _ (by decide))
    · exact recorded
  · exact s.owes_wake _

theorem State.owes_setLevel (s : State) (l : Level) (c : LevelCause) : s.owes (s.setLevel l c) 0 := by
  rw [State.setLevel_eq]
  exact State.owes_after (State.owes_of_account (s.account_levelEntered l c)) (State.owes_modeOnLevel _ _)

/-! ## The Mode Controller's events -/

theorem State.owes_report (s : State) : s.owes s.report 0 := by
  have judged : s.owes (s.setMdc { s.mdc with lastNonNeutral := anyNonNeutral s.ws s.intent.axes }) 0 :=
    s.owes_setMdc rfl rfl
  unfold State.report
  dsimp only
  split
  · split
    · exact State.owes_after judged (State.owes_setMode _ (by decide))
    · exact judged
  · exact State.owes_after judged (State.owes_setMdc _ rfl rfl)
  · split <;> exact State.owes_after judged (State.owes_setMdc _ rfl rfl)
  · split
    · exact State.owes_after judged (State.owes_wake _ _)
    · exact judged

theorem State.owes_loadImage (s : State) : s.owes s.loadImage 0 := by
  unfold State.loadImage
  dsimp only
  generalize s.sst.image.valid = valid
  exact State.owes_after (State.owes_of_account (by simp))
    (State.owes_setMdc ((s.remap _).setSst { (s.remap _).sst with store := _ }) rfl rfl)

theorem State.owes_endPackCheck (s : State) : s.owes s.endPackCheck 0 :=
  s.owes_setMode (by split <;> decide)

theorem State.owes_countSample (s : State) : s.owes s.countSample 0 := by
  unfold State.countSample
  dsimp only
  split
  · have counted : s.owes (s.setMdc { s.mdc with packCheckCount := s.mdc.packCheckCount + 1 }) 0 :=
      s.owes_setMdc rfl rfl
    split
    · exact State.owes_after counted (State.owes_endPackCheck _)
    · exact counted
  · exact s.owes_refl

theorem State.owes_silenceExpires (s : State) : s.owes s.silenceExpires 0 := by
  unfold State.silenceExpires
  split
  · exact s.owes_setMode (by decide)
  · exact s.owes_refl

theorem State.owes_autoParkExpires (s : State) : s.owes s.autoParkExpires 0 := by
  unfold State.autoParkExpires
  split
  · exact s.owes_setMode (by decide)
  · exact s.owes_refl

theorem State.owes_parkTimerExpires (s : State) : s.owes s.parkTimerExpires 0 := by
  unfold State.parkTimerExpires
  split
  · exact State.owes_after (s.owes_setMdc (d := { s.mdc with parkTimer := none }) rfl rfl) (State.owes_wake _ _)
  · exact s.owes_refl

theorem State.owes_judgeMotion (s : State) : s.owes s.judgeMotion 0 := by
  unfold State.judgeMotion
  split
  · exact s.owes_wake _
  · exact s.owes_refl

theorem State.owes_countMotion (s : State) (f r : Int) : s.owes (s.countMotion f r) 0 := by
  unfold State.countMotion
  split
  · refine State.owes_after (s.owes_setMdc ?_ ?_) (State.owes_judgeMotion _) <;> rfl
  · exact s.owes_refl

theorem State.owes_settleLevel (s : State) (r : Sample) : s.owes (s.settleLevel r) 0 := by
  unfold State.settleLevel State.fall State.stepDown
  split
  · rename_i t rises
    unfold State.rise at rises
    dsimp only at rises
    split at rises
    · obtain ⟨k, -, rfl⟩ := Option.map_eq_some_iff.mp rises
      exact s.owes_setLevel _ _
    · cases rises
  · split
    · split
      · exact State.owes_of_account rfl
      · split
        · exact s.owes_setLevel _ _
        · exact State.owes_of_account rfl
    · exact State.owes_of_account rfl

/-- A rise that a condition's event brings owes nothing (R57, log 6). -/
theorem State.owes_rise (s : State) (p : Pkm) : s.owes (((s.setPkm p).rise).getD s) 0 := by
  unfold State.rise
  dsimp only
  split
  · rw [State.setPkm_pkm]
    cases riseCause p.confirmed (highestLevel p.confirmed) with
    | none => exact s.owes_refl
    | some k => exact State.owes_after (State.owes_of_account (s.account_setPkm p)) (State.owes_setLevel _ _ _)
  · exact s.owes_refl

theorem State.owes_acceptFrame (s : State) (v : ControlValues) : s.owes (s.acceptFrame v) 0 := by
  unfold State.acceptFrame
  refine State.owes_after ?_ (State.owes_of_account (s := (s.setIntent (s.intent.take v)).report) (by simp))
  exact State.owes_after (State.owes_of_account (s.account_setIntent _)) (State.owes_report _)

theorem State.owes_takeControl (s : State) (f : ControlFrame) : s.owes (s.takeControl f) 0 := by
  unfold State.takeControl
  split
  · exact s.owes_refl
  · split
    · exact State.owes_of_account (by simp)
    · split
      · exact s.owes_acceptFrame _
      · exact s.owes_refl

theorem State.owes_settingTakesEffect (s : State) (i : Fin 78) : s.owes (s.settingTakesEffect i) 0 := by
  unfold State.settingTakesEffect
  split_ifs
  · exact State.owes_of_account rfl
  · exact s.owes_silenceExpires
  · exact s.owes_refl
  · exact s.owes_autoParkExpires
  · exact s.owes_refl
  · exact State.owes_of_account rfl
  · exact State.owes_of_account (by simp)
  · exact s.owes_refl

/-! ## Owners of requests: one reply each (R6, R9) -/

theorem State.account_serveTrimSearch (s : State) (q : RawRequest) (m : Byte) :
    (s.serveTrimSearch q m).account = s.account.answered q := by
  have started : ∀ named, (s.startSearch named).account = s.account := fun named => rfl
  unfold State.serveTrimSearch
  dsimp only
  split_ifs <;> simp [started]

theorem State.account_serveTrimAbort (s : State) (q : RawRequest) :
    (s.serveTrimAbort q).account = s.account.answered q := by
  unfold State.serveTrimAbort; split <;> simp

theorem State.account_serveClearCorner (s : State) (q : RawRequest) (c : Byte) :
    (s.serveClearCorner q c).account = s.account.answered q := by
  unfold State.serveClearCorner; dsimp only; (repeat' split) <;> simp

theorem State.account_serveClutchFree (s : State) (q : RawRequest) :
    (s.serveClutchFree q).account = s.account.answered q := by
  unfold State.serveClutchFree; (repeat' split) <;> simp

theorem State.account_serveClutchEngage (s : State) (q : RawRequest) :
    (s.serveClutchEngage q).account = s.account.answered q := by
  unfold State.serveClutchEngage; (repeat' split) <;> simp

theorem State.account_serveClearWinch (s : State) (q : RawRequest) :
    (s.serveClearWinch q).account = s.account.answered q := by
  unfold State.serveClearWinch; split <;> simp

theorem State.account_serveMapLamp (s : State) (q : RawRequest) (f c : Byte) :
    (s.serveMapLamp q f c).account = s.account.answered q := by
  unfold State.serveMapLamp; (repeat' split) <;> simp

theorem State.account_serveSetFunction (s : State) (q : RawRequest) (f : Byte) (r : FuncRec) :
    (s.serveSetFunction q f r).account = s.account.answered q := by
  unfold State.serveSetFunction; (repeat' split) <;> simp

theorem State.account_serveGetFunction (s : State) (q : RawRequest) (f : Byte) :
    (s.serveGetFunction q f).account = s.account.answered q := by
  unfold State.serveGetFunction; split <;> simp

theorem State.account_serveSetGenerator (s : State) (q : RawRequest) (g : Byte) (p : Half) (d : GenDuty) :
    (s.serveSetGenerator q g p d).account = s.account.answered q := by
  unfold State.serveSetGenerator; dsimp only; (repeat' split) <;> simp

theorem State.account_serveClearChannel (s : State) (q : RawRequest) (c : Byte) :
    (s.serveClearChannel q c).account = s.account.answered q := by
  unfold State.serveClearChannel; (repeat' split) <;> simp

theorem State.account_serveGet (s : State) (q : RawRequest) (i : Byte) :
    (s.serveGet q i).account = s.account.answered q := by
  unfold State.serveGet; (repeat' split) <;> simp

theorem State.account_serveStoreSave (s : State) (q : RawRequest) :
    (s.serveStoreSave q).account = s.account.answered q := by
  unfold State.serveStoreSave; (repeat' split) <;> simp

theorem State.account_serveStoreLoad (s : State) (q : RawRequest) :
    (s.serveStoreLoad q).account = s.account.answered q := by
  unfold State.serveStoreLoad
  dsimp only
  split
  · simp
  · split
    · simp
    · rw [← State.account_ok s q []]
      rfl

theorem State.account_serveStoreDefaults (s : State) (q : RawRequest) :
    (s.serveStoreDefaults q).account = s.account.answered q := by
  unfold State.serveStoreDefaults; split <;> simp

/-- HELLO is answered, or deferred in START where none is deferred yet: one reply is owed either way (R30). -/
theorem State.owes_serveHello (s : State) {q : RawRequest} (kind : isRequestKind q.kind = true) :
    s.owes (s.serveHello q) 1 := by
  unfold State.serveHello
  split
  · rename_i start
    have loading := (s.setMdc { s.mdc with deferredHello := some q.tag }).owes_setMode (m := .loading) (by decide)
    have mode := State.setMode_mode (s.setMdc { s.mdc with deferredHello := some q.tag }) .loading
    have entered : (s.setMdc { s.mdc with deferredHello := some q.tag }).setMode .loading =
        (s.setMdc { s.mdc with deferredHello := some q.tag }).modeEntered .loading := by
      rw [State.setMode_eq (by simp [start]), if_neg (by simp [State.startEnds])]
    have account : ((s.setMdc { s.mdc with deferredHello := some q.tag }).modeEntered .loading).account =
        (s.setMdc ((s.setMdc { s.mdc with deferredHello := some q.tag }).mdc.enter s.ws .loading)).account := by
      simp [State.modeEntered, State.ws]
      rfl
    refine ⟨loading.rx, loading.gapMs, loading.waiting, loading.slots, loading.resetting,
      fun _ e => absurd (mode.symm.trans e) (by decide), fun h => ?_⟩
    rw [State.debt, State.debt, h start, entered]
    have replies : _ = s.link.replyCount := congrArg Account.replies account
    have deferred : _ = some q.tag := congrArg (fun a => a.mdc.deferredHello) account
    simp only [State.account] at replies deferred
    rw [replies, deferred]
    rfl
  all_goals exact State.owes_of_answered kind (by simp)

theorem State.owes_serveResume (s : State) {q : RawRequest} (kind : isRequestKind q.kind = true) :
    s.owes (s.serveResume q) 1 := by
  unfold State.serveResume
  split_ifs
  · exact State.owes_after (s.owes_setMode (m := .run) (by decide)) (State.owes_of_answered kind (by simp))
  all_goals exact State.owes_of_answered kind (by simp)

theorem State.owes_servePark (s : State) {q : RawRequest} (kind : isRequestKind q.kind = true) :
    s.owes (s.servePark q) 1 := by
  unfold State.servePark
  split_ifs
  · split
    · exact State.owes_of_answered kind (by simp)
    · exact State.owes_after (s.owes_setMode (m := .park) (by decide)) (State.owes_of_answered kind (by simp))
  · exact State.owes_of_answered kind (by simp)

theorem State.owes_serveWake (s : State) {q : RawRequest} (kind : isRequestKind q.kind = true) :
    s.owes (s.serveWake q) 1 := by
  unfold State.serveWake
  split_ifs
  · exact State.owes_trans (State.owes_of_answered kind (by simp)) (State.owes_wake (s.ok q []) .request)
  · exact State.owes_of_answered kind (by simp)

theorem State.owes_serveGetWake (s : State) {q : RawRequest} (kind : isRequestKind q.kind = true) :
    s.owes (s.serveGetWake q) 1 :=
  State.owes_trans (State.owes_of_answered kind (State.account_ok s q _))
    (State.owes_setMdc _ (d := { s.mdc with wakeSet := wakeEmpty, wakeFirst := none }) rfl rfl)

theorem State.owes_serveClearCutoff (s : State) {q : RawRequest} (kind : isRequestKind q.kind = true) :
    s.owes (s.serveClearCutoff q) 1 := by
  unfold State.serveClearCutoff
  dsimp only
  split_ifs
  · exact State.owes_of_answered kind (by simp)
  · exact State.owes_of_answered kind (by simp)
  · exact State.owes_of_answered kind (by simp)
  all_goals
    have cleared : s.owes ((s.setLevel .limit .cleared).ok q []) 1 :=
      State.owes_after (s.owes_setLevel .limit .cleared) (State.owes_of_answered kind (by simp))
  · exact State.owes_trans cleared (State.owes_setMode _ (by decide))
  · exact cleared

theorem State.owes_serveSet (s : State) {q : RawRequest} (kind : isRequestKind q.kind = true) (id : Byte)
    (v : Word) : s.owes (s.serveSet q id v) 1 := by
  unfold State.serveSet
  dsimp only
  (repeat' split)
  all_goals first
    | exact State.owes_of_answered kind (by simp)
    | exact State.owes_trans (State.owes_of_answered kind (by simp)) (State.owes_settingTakesEffect _ _)

/-- Every owner but RESET's owes one reply. -/
theorem State.owes_owner (s : State) {q : RawRequest} (kind : isRequestKind q.kind = true) {r : Request}
    (h : r ≠ .reset) : s.owes (s.owner q r) 1 := by
  cases r
  case reset => exact absurd rfl h
  case hello => exact s.owes_serveHello kind
  case resume => exact s.owes_serveResume kind
  case park => exact s.owes_servePark kind
  case wake => exact s.owes_serveWake kind
  case getWake => exact s.owes_serveGetWake kind
  case clearCutoff => exact s.owes_serveClearCutoff kind
  case set id v => exact s.owes_serveSet kind id v
  case clearCorner c => exact State.owes_of_answered kind (s.account_serveClearCorner q c)
  case trimSearch m => exact State.owes_of_answered kind (s.account_serveTrimSearch q m)
  case trimAbort => exact State.owes_of_answered kind (s.account_serveTrimAbort q)
  case winchClutch engage =>
    cases engage
    · exact State.owes_of_answered kind (s.account_serveClutchFree q)
    · exact State.owes_of_answered kind (s.account_serveClutchEngage q)
  case clearWinch => exact State.owes_of_answered kind (s.account_serveClearWinch q)
  case mapLamp f c => exact State.owes_of_answered kind (s.account_serveMapLamp q f c)
  case setFunction f r => exact State.owes_of_answered kind (s.account_serveSetFunction q f r)
  case getFunction f => exact State.owes_of_answered kind (s.account_serveGetFunction q f)
  case setGenerator g p d => exact State.owes_of_answered kind (s.account_serveSetGenerator q g p d)
  case clearChannel c => exact State.owes_of_answered kind (s.account_serveClearChannel q c)
  case get i => exact State.owes_of_answered kind (s.account_serveGet q i)
  case storeSave => exact State.owes_of_answered kind (s.account_serveStoreSave q)
  case storeLoad => exact State.owes_of_answered kind (s.account_serveStoreLoad q)
  case storeDefaults => exact State.owes_of_answered kind (s.account_serveStoreDefaults q)
  all_goals exact State.owes_of_answered kind (State.account_ok _ q _)

end Sys2Proof.Machine
end

section
/-! PROOF. Serving, dispatch and admission (R5, R6, R35): a served request owes one reply, a RESET that is accepted
discards what waits; and the invariant of the link's places that every step keeps. -/
namespace Sys2Proof.Machine

/-! ## Serving (R6, R34, R184) -/

/-- Defined requests lie in the request range (12, table of requests). -/
theorem isRequestKind_of_definedLen : ∀ kind : Byte, (definedLen kind).isSome = true → isRequestKind kind = true := by
  decide

/-- A kind that is not defined is refused UNKNOWN (R6). -/
theorem State.serve_undefined (s : State) {q : RawRequest} (h : definedLen q.kind = none) :
    s.serve q = s.refuse q .unknown := by
  unfold State.serve
  rw [h, Option.isNone_none, if_pos rfl]

/-- An encoding that its kind does not define is refused MALFORMED (R184). -/
theorem State.serve_malformed (s : State) {q : RawRequest} (h : (definedLen q.kind).isSome = true)
    (bad : parseRequest q.kind q.payload = none) : s.serve q = s.refuse q .malformed := by
  unfold State.serve
  rw [Option.isNone_eq_false_iff.mpr h, if_neg Bool.false_ne_true, bad]

/-- A defined request goes to its owner once the start sequence has ended; HELLO and RESET always do (R34). -/
theorem State.serve_parsed (s : State) {q : RawRequest} {r : Request} (h : (definedLen q.kind).isSome = true)
    (parsed : parseRequest q.kind q.payload = some r) :
    s.serve q = if s.mdc.startDone || r.early then s.owner q r else s.refuse q .notStarted := by
  unfold State.serve
  rw [Option.isNone_eq_false_iff.mpr h, if_neg Bool.false_ne_true, parsed]

/-- The state once a RESET is accepted (R35, R14). -/
def State.resetAccepted (s : State) (q : RawRequest) : State :=
  ((s.setLink { s.link with
    resetting := true, waiting := [], rx := .hunt, gapMs := 0
    slots := s.link.slots - if s.mdc.deferredHello.isSome then 1 else 0 }).setMdc
    { s.mdc with deferredHello := none }).ok q []

/-- A RESET is BUSY while a save is in flight, else accepted (R35). -/
theorem State.serveReset_eq (s : State) (q : RawRequest) :
    s.serveReset q = if s.sst.store = .writing then s.refuse q .busy else s.resetAccepted q := rfl

/-- What a served request does to the link's places: one reply more is owed, or a RESET is accepted. -/
theorem State.serve_cases (s : State) {q : RawRequest} (kind : isRequestKind q.kind = true) :
    s.owes (s.serve q) 1 ∨ s.serve q = s.resetAccepted q := by
  have refused : ∀ w, s.owes (s.refuse q w) 1 := fun w => State.owes_of_answered kind (State.account_refuse s q w)
  cases defined : definedLen q.kind with
  | none => rw [s.serve_undefined defined]; exact .inl (refused _)
  | some n =>
    have known : (definedLen q.kind).isSome = true := by rw [defined]; rfl
    cases parsed : parseRequest q.kind q.payload with
    | none => rw [s.serve_malformed known parsed]; exact .inl (refused _)
    | some r =>
      rw [s.serve_parsed known parsed]
      by_cases reset : r = .reset
      · subst reset
        simp only [Request.early, Bool.or_true, if_true, State.owner, State.serveReset_eq]
        split
        · exact .inl (refused _)
        · exact .inr rfl
      · split
        · exact .inl (s.owes_owner kind reset)
        · exact .inl (refused _)

/-! ## The receiver while requests are served (R1) -/

/-- No frame is in assembly, and the gap timer stands at 0 (R1). -/
def State.hunting (s : State) : Prop := s.link.rx = .hunt ∧ s.link.gapMs = 0

theorem State.hunting_of_owes {s t : State} {n : Nat} (h : s.owes t n) (hunts : s.hunting) : t.hunting :=
  ⟨h.rx.trans hunts.1, h.gapMs.trans hunts.2⟩

/-- Serving leaves the receiver, but for a RESET, which puts it in HUNT (log 26). -/
theorem State.hunting_serve {s : State} (q : RawRequest) (h : s.hunting) : (s.serve q).hunting := by
  cases defined : definedLen q.kind with
  | none =>
    rw [s.serve_undefined defined]
    exact ⟨(Link.answer_rx _ _).trans h.1, (Link.answer_gapMs _ _).trans h.2⟩
  | some n =>
    have kind := isRequestKind_of_definedLen q.kind (by rw [defined]; rfl)
    obtain owes | accepted := s.serve_cases kind
    · exact State.hunting_of_owes owes h
    · rw [accepted]
      exact ⟨Link.answer_rx _ _, Link.answer_gapMs _ _⟩

theorem State.hunting_dispatchOne {s : State} (h : s.hunting) : s.dispatchOne.hunting := by
  unfold State.dispatchOne
  split
  · exact h
  · split
    · exact h
    · exact State.hunting_of_owes (State.owes_holdAutoPark _) (State.hunting_serve _ h)

theorem State.hunting_dispatchUpTo {s : State} (n : Nat) (h : s.hunting) : (s.dispatchUpTo n).hunting := by
  induction n generalizing s with
  | zero => exact h
  | succ n ih => exact ih (State.hunting_dispatchOne h)

theorem State.hunting_enqueue {s : State} (q : RawRequest) (h : s.hunting) : (s.enqueue q).hunting := by
  unfold State.enqueue
  split
  · exact h
  · split
    · exact State.hunting_dispatchUpTo _ h
    · exact State.hunting_of_owes (State.owes_of_account (s.account_drop _)) h

theorem State.hunting_judgeKind {s : State} (kind tag : Byte) (p : List Byte) (h : s.hunting) :
    (s.judgeKind kind tag p).hunting := by
  have dropped : (s.drop .malformed).hunting := State.hunting_of_owes (State.owes_of_account (s.account_drop _)) h
  unfold State.judgeKind
  split_ifs
  · exact h
  · split
    · exact State.hunting_of_owes (s.owes_takeControl _) h
    · exact dropped
  · split
    · split
      · exact State.hunting_enqueue _ h
      · exact dropped
    · exact State.hunting_enqueue _ h
  · exact dropped

/-- A whole frame, judged, leaves the receiver in HUNT (R1). -/
theorem State.hunting_judge {s : State} (len kind tag : Byte) (p : List Byte) (check : Half) (h : s.hunting) :
    (s.judge len kind tag p check).hunting := by
  unfold State.judge
  split
  · exact State.hunting_judgeKind _ _ _ h
  · exact State.hunting_of_owes (State.owes_of_account (s.account_drop _)) h

/-! ## The link's places are kept (R5, R6, R9) -/

/-- The invariant of the link's places, with the replies owed as one number. -/
theorem State.linkSound_iff (s : State) :
    s.LinkSound ↔ s.link.waiting.length + s.link.slots ≤ 4 ∧ (∀ q ∈ s.link.waiting, isRequestKind q.kind = true) ∧
      s.link.slots = s.debt ∧ s.unasked :=
  ⟨fun h => ⟨h.places, h.kinds, h.owed, h.start⟩, fun ⟨places, kinds, owed, start⟩ => ⟨places, kinds, owed, start⟩⟩

/-- Where the places, the replies, the mode and the deferred HELLO stand, so does the invariant. -/
theorem State.LinkSound.congr {s t : State} (h : s.LinkSound) (waiting : t.link.waiting = s.link.waiting)
    (slots : t.link.slots = s.link.slots) (outgoing : t.link.outgoing = s.link.outgoing)
    (mode : t.mdc.mode = s.mdc.mode) (deferred : t.mdc.deferredHello = s.mdc.deferredHello) : t.LinkSound where
  places := by rw [waiting, slots]; exact h.places
  kinds := by rw [waiting]; exact h.kinds
  owed := by rw [slots, outgoing, deferred]; exact h.owed
  start := by rw [mode, deferred]; exact h.start

/-- What owes nothing keeps the invariant. -/
theorem State.LinkSound.of_owes {s t : State} (h : s.LinkSound) (owes : s.owes t 0) : t.LinkSound := by
  rw [State.linkSound_iff] at h ⊢
  obtain ⟨places, kinds, owed, unasked⟩ := h
  rw [owes.waiting, owes.slots, owes.debt unasked]
  exact ⟨places, kinds, owed, owes.unasked unasked⟩

/-- The dispatcher hands a request over with its slot, which is owed the request's reply (R6); a RESET discards the
waiting requests, and a deferred HELLO with its slot (R35). -/
theorem State.LinkSound.dispatchOne {s : State} (h : s.LinkSound) : s.dispatchOne.LinkSound := by
  unfold State.dispatchOne
  split
  · exact h
  split
  · exact h
  rename_i q rest waiting
  refine State.LinkSound.of_owes ?_ (State.owes_holdAutoPark _)
  rw [State.linkSound_iff] at h ⊢
  obtain ⟨places, kinds, owed, unasked⟩ := h
  rw [waiting] at places kinds
  have kind := kinds q List.mem_cons_self
  rw [List.length_cons] at places
  obtain owes | accepted :=
    (s.setLink { s.link with waiting := rest, slots := s.link.slots + 1 }).serve_cases kind
  · have debt := owes.debt unasked
    have same : (s.setLink { s.link with waiting := rest, slots := s.link.slots + 1 }).debt = s.debt := rfl
    rw [owes.waiting, owes.slots, debt, same, State.setLink_link, ← owed]
    exact ⟨by dsimp only; omega, fun r hr => kinds r (List.mem_cons_of_mem _ hr), rfl, owes.unasked unasked⟩
  · rw [accepted]
    have replies := congrArg Account.replies
      (State.account_ok (((s.setLink { s.link with
        resetting := true, waiting := [], rx := .hunt, gapMs := 0
        slots := s.link.slots + 1 - if s.mdc.deferredHello.isSome then 1 else 0 }).setMdc
        { s.mdc with deferredHello := none })) q [])
    simp only [Account.answered, if_pos (isReply_of_isRequestKind kind)] at replies
    unfold State.resetAccepted
    refine ⟨?_, ?_, ?_, fun _ => rfl⟩
    · simp only [State.ok, State.answer_link, Link.answer_waiting, Link.answer_slots, State.setMdc_link,
        State.setLink_link, State.setLink_mdc, List.length_nil]
      omega
    · simp [State.ok, State.answer_link]
    · have slots : ∀ (u : State) (p : List Byte), (u.ok q p).link.slots = u.link.slots :=
        fun u p => Link.answer_slots _ _
      have none_deferred : ∀ (u : State) (p : List Byte), (u.ok q p).mdc = u.mdc := fun u p => rfl
      unfold State.debt at owed ⊢
      rw [slots, none_deferred]
      simp only [State.account] at replies
      refine Eq.trans ?_ (congrArg (· + 0) replies).symm
      simp only [State.setMdc_link, State.setLink_link, State.setLink_mdc]
      change s.link.slots + 1 - _ = s.link.replyCount + 1 + 0
      split at owed <;> simp_all

theorem State.LinkSound.dispatchUpTo {s : State} (n : Nat) (h : s.LinkSound) : (s.dispatchUpTo n).LinkSound := by
  induction n generalizing s with
  | zero => exact h
  | succ n ih => exact ih h.dispatchOne

/-- Admission keeps the invariant (R5). -/
theorem State.LinkSound.enqueue {s : State} (h : s.LinkSound) {q : RawRequest} (kind : isRequestKind q.kind = true) :
    (s.enqueue q).LinkSound := by
  unfold State.enqueue
  split
  · exact h
  split
  · rename_i place
    refine State.LinkSound.dispatchUpTo _ ?_
    refine ⟨?_, fun r hr => ?_, h.owed, h.start⟩
    · simp only [State.setLink_link, List.length_append, List.length_singleton]
      omega
    · obtain old | new := List.mem_append.mp hr
      · exact h.kinds r old
      · rw [List.mem_singleton.mp new]; exact kind
  · exact h.of_owes (State.owes_of_account (s.account_drop _))

/-- So does the judging of a frame (R3). -/
theorem State.LinkSound.judgeKind {s : State} (h : s.LinkSound) (kind tag : Byte) (p : List Byte) :
    (s.judgeKind kind tag p).LinkSound := by
  have dropped : (s.drop .malformed).LinkSound := h.of_owes (State.owes_of_account (s.account_drop _))
  unfold State.judgeKind
  split_ifs with _ _ request
  · exact h
  · split
    · exact h.of_owes (s.owes_takeControl _)
    · exact dropped
  · split
    · split
      · exact h.enqueue request
      · exact dropped
    · exact h.enqueue request
  · exact dropped

/-- A receiver's move leaves the places (R1). -/
theorem State.LinkSound.setRx {s : State} (h : s.LinkSound) (rx : Receiver) : (s.setRx rx).LinkSound :=
  h.congr rfl rfl rfl rfl rfl

/-- A byte keeps the invariant (R1). -/
theorem State.LinkSound.takeByte {s : State} (h : s.LinkSound) (b : Byte) : (s.takeByte b).LinkSound := by
  have dropped : ∀ (u : State) w, u.LinkSound → (u.drop w).LinkSound :=
    fun u w hu => hu.of_owes (State.owes_of_account (u.account_drop w))
  unfold State.takeByte
  split
  · split
    · exact h.setRx _
    · exact h
  · split
    · exact h.setRx _
    · exact dropped _ _ (h.setRx _)
  · exact h.setRx _
  · exact h.setRx _
  · exact h.setRx _
  · exact h.setRx _
  · unfold State.judge
    split
    · exact (h.setRx _).judgeKind _ _ _
    · exact dropped _ _ (h.setRx _)

/-- Both resets leave no place taken and nothing owed. -/
theorem State.LinkSound.of_linkReset {t : State} (link : t.link = linkReset) (hello : t.mdc.deferredHello = none) :
    t.LinkSound := by
  refine ⟨?_, ?_, ?_, fun _ => hello⟩ <;> rw [link]
  · decide
  · exact fun q hq => absurd hq List.not_mem_nil
  · rw [hello]; rfl

/-- The end of a frame releases the slot of a sent reply, which was owed it (R9). -/
theorem State.LinkSound.frameSent {s : State} (h : s.LinkSound) {f : TxFrame} (tx : s.link.tx = some f) :
    (s.setLink { s.link.releaseSlot f with tx := none }.kick).LinkSound := by
  have owed := h.owed
  have outgoing : s.link.outgoing = f :: s.link.replies := by rw [Link.outgoing, tx]; rfl
  rw [outgoing] at owed
  have left : ∀ l : Link, ({ l with tx := none } : Link).kick.outgoing.filter TxFrame.isReply =
      l.replies.filter TxFrame.isReply := fun l => Link.kick_replies _
  have places := h.places
  unfold Link.releaseSlot
  by_cases reply : f.kind.toNat < 0xC0
  · rw [List.filter_cons_of_pos (by simp [TxFrame.isReply, reply]), List.length_cons] at owed
    refine ⟨?_, ?_, ?_, h.start⟩ <;> rw [if_pos reply, State.setLink_link]
    · simp only [Link.kick_waiting, Link.kick_slots]; omega
    · simpa using h.kinds
    · rw [left, Link.kick_slots, State.setLink_mdc]; dsimp only; omega
  · rw [List.filter_cons_of_neg (by simp [TxFrame.isReply, reply])] at owed
    refine ⟨?_, ?_, ?_, h.start⟩ <;> rw [if_neg reply, State.setLink_link]
    · simpa only [Link.kick_waiting, Link.kick_slots] using places
    · simpa using h.kinds
    · rw [left, Link.kick_slots, State.setLink_mdc]; exact owed

/-! ## Commands (R5, R6, R9, R13) -/

/-- A command that acts keeps the invariant if its act does. -/
theorem act_linkSound {s t : State} {f : State → State} (next : act s f = .next t) (h : s.LinkSound)
    (keeps : (f s).LinkSound) : t.LinkSound := by
  unfold act at next
  obtain rfl := Host.Outcome.next.inj next
  split
  · exact keeps.of_owes (State.owes_holdAutoPark _)
  · exact h

/-- A request command brings its request to admission, in the state that its pin gives (log 4, log 14). -/
theorem exec_requestOf {i : Instr} {q : RawRequest} (h : requestOf i = some q) (s : State) :
    exec i s = act (s.pinned i) fun u => u.enqueue q := by
  cases i
  case undefinedRequest kind tag =>
    simp only [requestOf, Bool.and_eq_true, Option.isNone_iff_eq_none] at h
    split at h
    · rename_i undefined
      obtain ⟨request, undefined⟩ := undefined
      obtain rfl := Option.some.inj h
      have below : kind ≠ 0x40 := by rintro rfl; exact absurd request (by decide)
      have admitted : ∀ u : State, u.judgeKind kind tag [] = u.enqueue ⟨kind, tag, []⟩ := by
        intro u
        unfold State.judgeKind
        rw [if_neg below, if_pos request, undefined]
        split
        · rename_i resetting; rw [State.enqueue_resetting resetting]
        · rfl
      exact congrArg (act s) (funext admitted)
    · cases h
  all_goals simp only [requestOf, reduceCtorEq, Option.some.injEq] at h
  all_goals subst h; rfl

/-- The kinds of request commands lie in the request range. -/
theorem isRequestKind_requestOf {i : Instr} {q : RawRequest} (h : requestOf i = some q) :
    isRequestKind q.kind = true := by
  cases i
  case undefinedRequest kind tag =>
    simp only [requestOf, Bool.and_eq_true] at h
    split at h
    · rename_i request
      obtain rfl := Option.some.inj h
      exact request.1
    · cases h
  all_goals simp only [requestOf, reduceCtorEq, Option.some.injEq] at h
  all_goals subst h; rfl

/-- Commands that are no requests and not the link's own owe nothing. -/
theorem exec_owes {i : Instr} (request : requestOf i = none) (link : i ∉ [Instr.gapTimerExpiry, .frameSent, .powerOnReset,
    .brownOut, .storeLoadEnd]) (bytes : ∀ b, i ≠ .byteReceived b) (undefined : ∀ k tag, i ≠ .undefinedRequest k tag) :
    ∃ f : State → State, (∀ s, exec i s = act s f) ∧ ∀ s : State, s.owes (f s) 0 := by
  have keeps : ∀ {f : State → State}, (∀ s, (f s).account = s.account) → ∀ s : State, s.owes (f s) 0 :=
    fun h s => State.owes_of_account (h s)
  cases i
  case byteReceived b => exact absurd rfl (bytes b)
  case undefinedRequest k tag => exact absurd rfl (undefined k tag)
  case controlFrame f => exact ⟨_, fun _ => rfl, fun s => s.owes_takeControl f⟩
  case loadingEnd =>
    refine ⟨_, fun _ => rfl, fun s => ?_⟩
    split
    · exact State.owes_after s.owes_loadImage (State.owes_setMode _ (by decide))
    · exact s.owes_refl
  case packCheckEnd =>
    refine ⟨_, fun _ => rfl, fun s => ?_⟩
    split
    · exact State.owes_after (s.owes_setMdc (d := { s.mdc with packCheckCount := s.mdc.packCheckCount + 1 }) rfl rfl)
        (State.owes_endPackCheck _)
    · exact s.owes_refl
  case centeringEnd =>
    refine ⟨_, fun _ => rfl, fun s => ?_⟩
    split
    · exact s.owes_setMode (by decide)
    · exact s.owes_refl
  case silenceTimerExpiry => exact ⟨_, fun _ => rfl, State.owes_silenceExpires⟩
  case autoParkExpiry => exact ⟨_, fun _ => rfl, State.owes_autoParkExpires⟩
  case parkTimerExpiry => exact ⟨_, fun _ => rfl, State.owes_parkTimerExpires⟩
  case motionWake => exact ⟨_, fun _ => rfl, State.owes_judgeMotion⟩
  case packSample r =>
    refine ⟨_, fun _ => rfl, fun s => ?_⟩
    split
    · exact State.owes_after (State.owes_after (State.owes_of_account (s.account_setPkm _)) (State.owes_settleLevel _ _))
        (State.owes_countSample _)
    · exact s.owes_refl
  case levelRise k =>
    refine ⟨_, fun _ => rfl, fun s => ?_⟩
    split
    · split
      · exact s.owes_rise _
      · exact s.owes_refl
    · exact s.owes_refl
  case levelStepDown =>
    refine ⟨_, fun _ => rfl, fun s => ?_⟩
    split
    · exact s.owes_setLevel _ _
    · exact s.owes_refl
  case allotmentWindow => exact ⟨_, fun _ => rfl, keeps fun s => by split <;> rfl⟩
  case surgeHoldCompleted => exact ⟨_, fun _ => rfl, keeps fun s => by (repeat' split) <;> rfl⟩
  case surgeLapsed => exact ⟨_, fun _ => rfl, keeps fun s => by (repeat' split) <;> rfl⟩
  case calmReturn => exact ⟨_, fun _ => rfl, keeps fun s => by split <;> rfl⟩
  case servoFrame r => exact ⟨_, fun _ => rfl, keeps fun s => by simp⟩
  case cornerStall c => exact ⟨_, fun _ => rfl, keeps fun s => by dsimp only; split <;> simp⟩
  case cornerOpen c => exact ⟨_, fun _ => rfl, keeps fun s => by dsimp only; split <;> simp⟩
  case restEnd c => exact ⟨_, fun _ => rfl, keeps fun s => by dsimp only; split <;> simp⟩
  case clearingHoldEnd c => exact ⟨_, fun _ => rfl, keeps fun s => by dsimp only; split <;> simp⟩
  case alignTimeout => exact ⟨_, fun _ => rfl, keeps fun s => by split <;> simp⟩
  case settleEnd => exact ⟨_, fun _ => rfl, keeps fun s => by split <;> simp⟩
  case searchCornerBegin => exact ⟨_, fun _ => rfl, keeps fun s => by split <;> simp⟩
  case searchWaitEnd => exact ⟨_, fun _ => rfl, keeps fun s => by (repeat' split) <;> simp⟩
  case searchStepJudged => exact ⟨_, fun _ => rfl, keeps fun s => by (repeat' split) <;> simp⟩
  case driveUpdate r =>
    refine ⟨_, fun _ => rfl, fun s => ?_⟩
    have read : s.owes (s.readEncoders r) 0 :=
      State.owes_after (State.owes_of_account (s.account_setDrc _)) (State.owes_countMotion _ _ _)
    exact State.owes_after read (State.owes_of_account (by simp))
  case pendingLockTaken => exact ⟨_, fun _ => rfl, keeps fun s => by (repeat' split) <;> simp [State.writeAxleWishes]⟩
  case axleStall a => exact ⟨_, fun _ => rfl, keeps fun s => by dsimp only; split <;> simp⟩
  case axleRestEnd a => exact ⟨_, fun _ => rfl, keeps fun s => by dsimp only; split <;> simp⟩
  case winchUpdate r => exact ⟨_, fun _ => rfl, keeps fun s => by simp⟩
  case winchJam => exact ⟨_, fun _ => rfl, keeps fun s => by dsimp only; split <;> simp⟩
  case clutchTimerExpiry => exact ⟨_, fun _ => rfl, keeps fun s => by split <;> rfl⟩
  case lampCheck c =>
    exact ⟨_, fun _ => rfl, keeps fun s => by
      simp [State.setChannels, State.runGens, State.findLit, State.shed, State.findRequested]⟩
  case onEdge g => exact ⟨_, fun _ => rfl, keeps fun s => by split <;> rfl⟩
  case offEdge g => exact ⟨_, fun _ => rfl, keeps fun s => by dsimp only; split <;> rfl⟩
  case shortTrip c => exact ⟨_, fun _ => rfl, keeps fun s => by dsimp only; split <;> rfl⟩
  case lightSelTake => exact ⟨_, fun _ => rfl, keeps State.account_takeLightCode⟩
  case saveComplete => exact ⟨_, fun _ => rfl, keeps fun s => by split <;> simp⟩
  all_goals simp only [requestOf, reduceCtorEq] at request
  all_goals exact absurd (by simp) link

/-- Every command keeps the invariant of the link's places. -/
theorem exec_linkSound {i : Instr} {s t : State} (next : exec i s = .next t) (h : s.LinkSound) : t.LinkSound := by
  by_cases bytes : ∃ b, i = .byteReceived b
  · obtain ⟨b, rfl⟩ := bytes
    simp only [exec, execByteReceived] at next
    refine act_linkSound next h ?_
    split
    · exact h
    · exact h.takeByte b
  by_cases undefined : ∃ k tag, i = .undefinedRequest k tag
  · obtain ⟨k, tag, rfl⟩ := undefined
    simp only [exec, execUndefinedRequest] at next
    exact act_linkSound next h (h.judgeKind _ _ _)
  cases request : requestOf i with
  | some q =>
    rw [exec_requestOf request] at next
    have pinned : (s.pinned i).LinkSound := by
      unfold State.pinned
      split
      · exact h.congr rfl rfl rfl rfl rfl
      · exact h
    exact act_linkSound next pinned (pinned.enqueue (isRequestKind_requestOf request))
  | none =>
    by_cases link : i ∈ [Instr.gapTimerExpiry, .frameSent, .powerOnReset, .brownOut, .storeLoadEnd]
    · simp only [List.mem_cons, List.not_mem_nil, or_false] at link
      obtain rfl | rfl | rfl | rfl | rfl := link
      · simp only [exec, execGapTimerExpiry] at next
        refine act_linkSound next h ?_
        split
        · exact h
        · exact (h.setRx _).of_owes (State.owes_of_account (State.account_drop _ _))
      · simp only [exec, execFrameSent] at next
        refine act_linkSound next h ?_
        split
        · exact h
        · rename_i f tx
          split
          · exact State.LinkSound.of_linkReset rfl rfl
          · exact h.frameSent tx
      · obtain rfl := Host.Outcome.next.inj next
        exact State.LinkSound.of_linkReset rfl rfl
      · obtain rfl := Host.Outcome.next.inj next
        exact State.LinkSound.of_linkReset rfl rfl
      · simp only [exec, execStoreLoadEnd] at next
        refine act_linkSound next h ?_
        split
        · refine State.LinkSound.dispatchUpTo _ (h.of_owes ?_)
          exact State.owes_after (State.owes_of_account s.account_finishLoad) (State.owes_holdAutoPark _)
        · exact h
    · obtain ⟨f, acts, owes⟩ := exec_owes request link (fun b e => bytes ⟨b, e⟩) (fun k tag e => undefined ⟨k, tag, e⟩)
      rw [acts] at next
      exact act_linkSound next h (h.of_owes (owes s))

/-- A millisecond of the timers keeps it: they move no place and no reply (log 2). -/
theorem State.LinkSound.tick {s : State} (h : s.LinkSound) (idle : s.pending = []) : s.tick.LinkSound := by
  by_cases powered : s.powered = true
  · have moved : step s = .next s.tick := by unfold step; rw [idle]
    obtain moved := moved.symm.trans (idleStepMovesEveryTimerByOneMillisecond s idle powered)
    rw [Host.Outcome.next.inj moved]
    exact h.congr rfl rfl rfl rfl rfl
  · unfold State.tick
    rw [if_neg powered]
    exact h

/-- Settles O56, by the commands: each owes nothing, or admits and serves requests, or ends a frame, or resets. -/
theorem everyStepKeepsTheLinksPlaces : Obligations.EveryStepKeepsTheLinksPlaces := by
  intro s t h next
  unfold step at next
  split at next
  · exact exec_linkSound next (h.congr rfl rfl rfl rfl rfl)
  · rename_i idle
    obtain rfl := Host.Outcome.next.inj next
    exact h.tick idle

end Sys2Proof.Machine
end

section
/-! PROOF. The receiver, drops, the transmitter and the resets (R1, R2, R9 to R14): what a byte, an expiry and the end of
a frame do, and what they leave. -/
namespace Sys2Proof.Machine

/-! ## Frames of the link's operations -/

/-- The receiver's move changes the receiver alone (R1). -/
theorem State.setRx_changes (s : State) (rx : Receiver) : s.changesOnly (s.setRx rx) [.receiver] := by
  refine ⟨rfl, rfl, rfl, fun p hp => ?_⟩
  cases p <;> simp_all [State.sameIn, State.setRx]

/-- A drop changes the drop's reason and the way out (R12). -/
theorem State.drop_changes (s : State) (w : DropReason) : s.changesOnly (s.drop w) [.receiver, .output] := by
  refine ⟨rfl, rfl, rfl, fun p hp => ?_⟩
  cases p <;> simp_all [State.sameIn, State.drop_link]

/-- What changes nothing. -/
theorem State.changesOnly_refl (s : State) (parts : List Part) : s.changesOnly s parts := by
  refine ⟨rfl, rfl, rfl, fun p _ => ?_⟩
  cases p <;> simp [State.sameIn]

/-- A drop after the receiver's move changes the receiver and the way out. -/
theorem State.setRx_drop_changes (s : State) (rx : Receiver) (w : DropReason) :
    s.changesOnly ((s.setRx rx).drop w) [.receiver, .output] :=
  State.changesOnly_trans (State.changesOnly_mono (s.setRx_changes rx) (by simp)) (State.drop_changes _ _)

/-- A drop while a frame is being sent is counted, and told where LINK is in NOTICE_MASK (R12, R13). -/
theorem State.drop_countsDrop (s : State) (rx : Receiver) (w : DropReason) :
    s.countsDrop ((s.setRx rx).drop w).holdAutoPark w := by
  intro f tx
  have busy : ({ s.link with rx := rx, gapMs := 0 } : Link).tx = some f := tx
  have told : ((s.setRx rx).drop w).holdAutoPark.link =
      ({ s.link with rx := rx, gapMs := 0 } : Link).drop (s.ws.notices .link) w := by
    rw [State.holdAutoPark_link]; rfl
  rw [told]
  cases s.ws.notices .link with
  | true => rw [Link.drop_busy busy]; exact ⟨rfl, tx, rfl⟩
  | false => exact ⟨rfl, tx, rfl⟩

/-! ## A byte, by the receiver's state (R1) -/

section Bytes
variable {s : State} (b : Byte)

theorem State.takeByte_hunt (h : s.link.rx = .hunt) :
    s.takeByte b = if b = Config.sync then s.setRx .length else s := by
  simp only [State.takeByte, h]

theorem State.takeByte_length (h : s.link.rx = .length) :
    s.takeByte b = if b.toNat ≤ 60 then s.setRx (.header b none) else (s.setRx .hunt).drop .length := by
  simp only [State.takeByte, h]

theorem State.takeByte_kind {len : Byte} (h : s.link.rx = .header len none) :
    s.takeByte b = s.setRx (.header len (some b)) := by
  simp only [State.takeByte, h]

theorem State.takeByte_tag {len kind : Byte} (h : s.link.rx = .header len (some kind)) :
    s.takeByte b = s.setRx (if len = 0 then .check len kind b [] none else .body len kind b []) := by
  simp only [State.takeByte, h]

theorem State.takeByte_body {len kind tag : Byte} {p : List Byte} (h : s.link.rx = .body len kind tag p) :
    s.takeByte b = s.setRx (if len.toNat ≤ p.length + 1 then .check len kind tag (p ++ [b]) none
      else .body len kind tag (p ++ [b])) := by
  simp only [State.takeByte, h, List.length_append, List.length_singleton]

theorem State.takeByte_low {len kind tag : Byte} {p : List Byte} (h : s.link.rx = .check len kind tag p none) :
    s.takeByte b = s.setRx (.check len kind tag p (some b)) := by
  simp only [State.takeByte, h]

theorem State.takeByte_high {len kind tag low : Byte} {p : List Byte}
    (h : s.link.rx = .check len kind tag p (some low)) :
    s.takeByte b = (s.setRx .hunt).judge len kind tag p (joinHalf low b) := by
  simp only [State.takeByte, h]

end Bytes

@[simp] theorem State.setRx_rx (s : State) (rx : Receiver) : (s.setRx rx).link.rx = rx := rfl

@[simp] theorem State.setRx_gapMs (s : State) (rx : Receiver) : (s.setRx rx).link.gapMs = 0 := rfl

/-- Every byte outside HUNT restarts the gap timer (R1). -/
theorem State.takeByte_gapMs {s : State} (b : Byte) (h : s.link.rx ≠ .hunt) : (s.takeByte b).link.gapMs = 0 := by
  match hr : s.link.rx with
  | .hunt => exact absurd hr h
  | .length => rw [s.takeByte_length b hr]; split <;> simp [State.drop_link]
  | .header _ none => rw [s.takeByte_kind b hr]; rfl
  | .header _ (some _) => rw [s.takeByte_tag b hr]; rfl
  | .body _ _ _ _ => rw [s.takeByte_body b hr]; rfl
  | .check _ _ _ _ none => rw [s.takeByte_low b hr]; rfl
  | .check _ _ _ _ (some _) => rw [s.takeByte_high b hr]; exact (State.hunting_judge _ _ _ _ _ ⟨rfl, rfl⟩).2

/-- Until a frame is whole a byte changes the receiver, and the way out by a drop (R1, R12). -/
theorem State.takeByte_changes {s : State} (b : Byte)
    (h : ∀ len kind tag p low, s.link.rx ≠ .check len kind tag p (some low)) :
    s.changesOnly (s.takeByte b) [.receiver, .output] ∧ (s.takeByte b).mdc = s.mdc := by
  have moves : ∀ rx, s.changesOnly (s.setRx rx) [.receiver, .output] ∧ (s.setRx rx).mdc = s.mdc :=
    fun rx => ⟨State.changesOnly_mono (s.setRx_changes rx) (by simp), rfl⟩
  match hr : s.link.rx with
  | .hunt =>
    rw [s.takeByte_hunt b hr]
    split
    · exact moves _
    · exact ⟨s.changesOnly_refl _, rfl⟩
  | .length =>
    rw [s.takeByte_length b hr]
    split
    · exact moves _
    · exact ⟨s.setRx_drop_changes _ _, rfl⟩
  | .header _ none => rw [s.takeByte_kind b hr]; exact moves _
  | .header _ (some _) => rw [s.takeByte_tag b hr]; exact moves _
  | .body _ _ _ _ => rw [s.takeByte_body b hr]; exact moves _
  | .check _ _ _ _ none => rw [s.takeByte_low b hr]; exact moves _
  | .check _ _ _ _ (some _) => exact absurd hr (h _ _ _ _ _)

/-- A byte at a part with supply that has accepted no RESET is taken (R1, R14). -/
theorem exec_byteReceived {s : State} (b : Byte) (powered : s.powered = true) (running : s.link.resetting = false) :
    exec (.byteReceived b) s = .next (s.takeByte b).holdAutoPark := by
  have taken : exec (.byteReceived b) s = act s fun s => if s.link.resetting then s else s.takeByte b := rfl
  rw [taken, act_powered powered, running, if_neg Bool.false_ne_true]

/-- Settles O5, by the receiver's states. -/
theorem receiverTakesEachByteByItsState : Obligations.ReceiverTakesEachByteByItsState := by
  intro s b powered running
  refine ⟨_, exec_byteReceived b powered running, fun h => ?_, fun h le => ?_, fun h gt => ?_, fun len h => ?_,
    fun len kind h => ?_, fun len kind tag p h => ?_, fun len kind tag p h => ?_, fun len kind tag p low h => ?_,
    fun h => ?_, fun h => ?_⟩
  · rw [State.holdAutoPark_link, s.takeByte_hunt b h]
    by_cases sync : b = Config.sync
    · subst sync
      rfl
    · rw [if_neg sync, h]
      exact (if_neg sync).symm
  · rw [State.holdAutoPark_link, s.takeByte_length b h, if_pos le, State.setRx_rx]
  · rw [State.holdAutoPark_link, s.takeByte_length b h, if_neg (by omega)]
    exact ⟨Link.drop_rx _ _ _, Link.drop_lastDrop _ _ _⟩
  · rw [State.holdAutoPark_link, s.takeByte_kind b h, State.setRx_rx]
  · rw [State.holdAutoPark_link, s.takeByte_tag b h, State.setRx_rx]
  · rw [State.holdAutoPark_link, s.takeByte_body b h, State.setRx_rx]
  · rw [State.holdAutoPark_link, s.takeByte_low b h, State.setRx_rx]
  · rw [State.holdAutoPark_link, s.takeByte_high b h]
    exact (State.hunting_judge _ _ _ _ _ ⟨rfl, rfl⟩).1
  · rw [State.holdAutoPark_link, State.takeByte_gapMs b h]
  · obtain ⟨frame, mdc⟩ := State.takeByte_changes b h
    exact State.changesOnly_held frame mdc

/-! ## Drops (R2, R3) -/

/-- A dropped frame: its reason, the receiver in HUNT, and nothing but the link changed (R12). -/
theorem State.dropped_spec (s : State) (w : DropReason) :
    let t := ((s.setRx .hunt).drop w).holdAutoPark
    t.link.lastDrop = some w ∧ t.link.rx = .hunt ∧ s.onlyLink t ∧ s.changesOnly t [.receiver, .output] ∧
      s.countsDrop t w := by
  refine ⟨?_, ?_, s.setLink_onlyLink _, State.changesOnly_held (s.setRx_drop_changes _ _) rfl,
    s.drop_countsDrop _ _⟩
  · rw [State.holdAutoPark_link]; exact Link.drop_lastDrop _ _ _
  · rw [State.holdAutoPark_link]; exact Link.drop_rx _ _ _

/-- Settles O6: both drops put the receiver in HUNT and count. -/
theorem droppedFramesAreCountedAndChangeNothingElse : Obligations.DroppedFramesAreCountedAndChangeNothingElse := by
  intro s powered
  have expires : exec .gapTimerExpiry s =
      .next (if s.link.rx = .hunt then s else (s.setRx .hunt).drop .gap).holdAutoPark := by
    have acts : exec .gapTimerExpiry s =
        act s fun s => if s.link.rx = .hunt then s else (s.setRx .hunt).drop .gap := rfl
    rw [acts, act_powered powered]
  refine ⟨fun len kind tag low high p running whole differs => ?_, fun assembling => ?_, fun hunts => ?_⟩
  · refine ⟨_, exec_byteReceived high powered running, ?_⟩
    have judged : s.takeByte high = (s.setRx .hunt).drop .crc := by
      rw [s.takeByte_high high whole, State.judge, if_neg differs]
    rw [judged]
    exact s.dropped_spec .crc
  · obtain ⟨reason, rx, link, frame, counts⟩ := s.dropped_spec .gap
    rw [if_neg assembling] at expires
    exact ⟨_, expires, rx, reason, link, frame, counts⟩
  · rw [if_pos hunts] at expires
    exact ⟨_, expires, State.changesOnly_held (s.changesOnly_refl _) rfl⟩

/-! ## A whole frame, byte by byte (R1, R3, R4) -/

/-- Receiving bytes one after another. -/
def receiveBytes (o : Host.Outcome State Fault Refusal) (bytes : List Byte) : Host.Outcome State Fault Refusal :=
  bytes.foldl (fun o b => match o with | .next u => exec (.byteReceived b) u | o => o) o

/-- The bytes of a 16-bit field joined again (R184). -/
theorem joinHalf_half (h : Half) : joinHalf (h.truncate 8) ((h >>> 8).truncate 8) = h := by
  apply BitVec.eq_of_getLsbD_eq
  intro i hi
  simp only [joinHalf, BitVec.getLsbD_append, BitVec.truncate_eq_setWidth, BitVec.getLsbD_setWidth,
    BitVec.getLsbD_ushiftRight]
  by_cases low : i < 8
  · simp [low]
  · have high : i - 8 < 8 := by omega
    simp [low, high, Nat.add_sub_cancel' (Nat.le_of_not_lt low)]

section Assembly
variable {s : State} (powered : s.powered = true) (running : s.link.resetting = false) (held : s.holdAutoPark = s)
include powered running held

/-- Assembling leaves a part that is in no other way busy as it stands but for the receiver. -/
theorem exec_byteReceived_assembling {rx next : Receiver} (b : Byte)
    (takes : (s.setRx rx).takeByte b = (s.setRx rx).setRx next) :
    exec (.byteReceived b) (s.setRx rx) = .next (s.setRx next) := by
  rw [exec_byteReceived (s := s.setRx rx) b powered running, takes]
  have same : (s.setRx rx).setRx next = s.setRx next := rfl
  rw [same]
  unfold State.setRx
  rw [State.holdAutoPark_setLink, held]

/-- The payload bytes of a frame, taken one after another (R1). -/
theorem receiveBytes_body {len kind tag : Byte} (rest : List Byte) : ∀ (got : List Byte), rest ≠ [] →
    len.toNat = got.length + rest.length →
    receiveBytes (.next (s.setRx (.body len kind tag got))) rest =
      .next (s.setRx (.check len kind tag (got ++ rest) none)) := by
  induction rest with
  | nil => exact fun _ h => absurd rfl h
  | cons b rest ih =>
    intro got _ whole
    have takes := State.takeByte_body (s := s.setRx (.body len kind tag got)) b rfl
    rw [List.length_cons] at whole
    have first : receiveBytes (.next (s.setRx (.body len kind tag got))) (b :: rest) =
        receiveBytes (exec (.byteReceived b) (s.setRx (.body len kind tag got))) rest := rfl
    rw [first, exec_byteReceived_assembling powered running held b takes]
    cases rest with
    | nil =>
      rw [if_pos (by simp only [List.length_nil] at whole; omega)]
      rfl
    | cons c rest =>
      rw [if_neg (by simp only [List.length_cons] at whole; omega), ih (got ++ [b]) (List.cons_ne_nil _ _)
        (by simp only [List.length_append, List.length_cons, List.length_nil] at whole ⊢; omega), List.append_assoc]
      rfl

/-- From the tag on, the bytes of a frame up to its check are assembled (R1). -/
theorem receiveBytes_tag {len kind tag : Byte} {p : List Byte} (whole : len.toNat = p.length) :
    receiveBytes (.next (s.setRx (.header len (some kind)))) (tag :: p) =
      .next (s.setRx (.check len kind tag p none)) := by
  have takes := State.takeByte_tag (s := s.setRx (.header len (some kind))) tag rfl
  have first : receiveBytes (.next (s.setRx (.header len (some kind)))) (tag :: p) =
      receiveBytes (exec (.byteReceived tag) (s.setRx (.header len (some kind)))) p := rfl
  rw [first, exec_byteReceived_assembling powered running held tag takes]
  cases p with
  | nil =>
    rw [if_pos (BitVec.eq_of_toNat_eq whole)]
    rfl
  | cons b p =>
    have some_bytes : len ≠ 0 := by rintro rfl; simp at whole
    rw [if_neg some_bytes, receiveBytes_body powered running held _ [] (List.cons_ne_nil _ _) (by simpa using whole)]
    rfl

end Assembly

/-- Settles O7: the receiver passes through its states, and the last check byte hands the whole frame over. -/
theorem frameReceivedByteByByteIsJudgedWhole : Obligations.FrameReceivedByteByByteIsJudgedWhole := by
  intro s f powered running hunts stopped held short
  refine ⟨_, ?_, rfl⟩
  have len : (BitVec.ofNat 8 f.payload.length).toNat = f.payload.length := by
    rw [BitVec.toNat_ofNat]; omega
  generalize hlen : BitVec.ofNat 8 f.payload.length = length at len
  let check := crc (length :: f.kind :: f.tag :: f.payload)
  have wire : f.wire = [0xD7#8, length, f.kind] ++ (f.tag :: f.payload) ++
      [check.truncate 8, (check >>> 8).truncate 8] := by
    unfold TxFrame.wire
    rw [hlen]
    rfl
  have same : s.setRx .hunt = s := by
    unfold State.setRx
    rw [← hunts, ← stopped]
    rfl
  have sync : exec (.byteReceived 0xD7#8) s = .next (s.setRx .length) := by
    have takes := State.takeByte_hunt (s := s.setRx .hunt) 0xD7#8 rfl
    have := exec_byteReceived_assembling powered running held 0xD7#8 (rx := .hunt) (next := .length) takes
    rwa [same] at this
  have size : exec (.byteReceived length) (s.setRx .length) = .next (s.setRx (.header length none)) := by
    refine exec_byteReceived_assembling powered running held _ ?_
    rw [State.takeByte_length (s := s.setRx .length) _ rfl, if_pos (by omega)]
  have kind : exec (.byteReceived f.kind) (s.setRx (.header length none)) =
      .next (s.setRx (.header length (some f.kind))) :=
    exec_byteReceived_assembling powered running held _
      (State.takeByte_kind (s := s.setRx (.header length none)) _ rfl)
  have low : exec (.byteReceived (check.truncate 8)) (s.setRx (.check length f.kind f.tag f.payload none)) =
      .next (s.setRx (.check length f.kind f.tag f.payload (some (check.truncate 8)))) :=
    exec_byteReceived_assembling powered running held _
      (State.takeByte_low (s := s.setRx (.check length f.kind f.tag f.payload none)) _ rfl)
  have high : exec (.byteReceived ((check >>> 8).truncate 8))
      (s.setRx (.check length f.kind f.tag f.payload (some (check.truncate 8)))) =
      .next (s.judgeKind f.kind f.tag f.payload).holdAutoPark := by
    rw [exec_byteReceived _ (by exact powered) (by exact running),
      State.takeByte_high (s := s.setRx (.check length f.kind f.tag f.payload (some (check.truncate 8)))) _ rfl,
      joinHalf_half, State.judge, if_pos rfl]
    change Host.Outcome.next ((s.setRx .hunt).judgeKind f.kind f.tag f.payload).holdAutoPark = _
    rw [same]
  change receiveBytes (.next s) f.wire = _
  have front : receiveBytes (.next s) [0xD7#8, length, f.kind] = .next (s.setRx (.header length (some f.kind))) := by
    simp only [receiveBytes, List.foldl_cons, List.foldl_nil, sync, size, kind]
  rw [wire, receiveBytes, List.foldl_append, List.foldl_append]
  change receiveBytes (receiveBytes (receiveBytes (.next s) _) _) _ = _
  rw [front, receiveBytes_tag powered running held len]
  simp only [receiveBytes, List.foldl_cons, List.foldl_nil, low, high]

/-! ## The end of a frame (R9, R11, R14) -/

/-- The end of a frame, by what it was (R9, R14). -/
theorem exec_frameSent {s : State} {f : TxFrame} (powered : s.powered = true) (tx : s.link.tx = some f) :
    exec .frameSent s = .next (if s.link.resetting && isResetOk f then s.takeReset
      else s.setLink { s.link.releaseSlot f with tx := none }.kick).holdAutoPark := by
  have acts : exec .frameSent s = act s fun s =>
    match s.link.tx with
    | none => s
    | some f =>
      if s.link.resetting && isResetOk f then s.takeReset
      else s.setLink { s.link.releaseSlot f with tx := none }.kick := rfl
  rw [acts, act_powered powered, tx]

/-- The OK reply of a RESET, and no other frame, is one (R35, R185). -/
theorem isResetOk_iff (f : TxFrame) : isResetOk f = true ↔ f = replyFrame 0x02 f.tag .ok [] := by
  obtain ⟨kind, tag, payload⟩ := f
  have code : (0x02#8 + 0x80#8 : Byte) = 0x82#8 := rfl
  simp [isResetOk, replyFrame, code]

/-- The transmitter's choice where a reply waits (R11). -/
theorem Link.kick_reply {l : Link} (tx : l.tx = none) {r : TxFrame} {rest : List TxFrame}
    (replies : l.replies = r :: rest) : l.kick = { l with tx := some r, replies := rest } := by
  unfold Link.kick
  rw [tx, replies]

/-- Where none waits, and a notice is pending (R11, R12). -/
theorem Link.kick_notice {l : Link} (tx : l.tx = none) (replies : l.replies = []) {n : Notice}
    (lowest : l.notices.lowest = some n) :
    l.kick = { l with
      tx := some n.frame
      notices := l.notices.keep (fun k => decide (k ≠ n.kind))
      dropCount := if n.kind = .link then 0 else l.dropCount } := by
  unfold Link.kick
  simp only [tx, replies, lowest]

/-- Where there is neither (R11). -/
theorem Link.kick_idle {l : Link} (replies : l.replies = []) (lowest : l.notices.lowest = none) : l.kick = l := by
  unfold Link.kick
  rw [replies, lowest]
  split <;> rfl

/-- The link as the transmitter finds it after a frame: nothing is being sent, a reply's slot is released (R9). -/
def Link.ended (l : Link) (f : TxFrame) : Link :=
  { l with slots := if f.kind.toNat < 0xC0 then l.slots - 1 else l.slots, tx := none }

theorem Link.releaseSlot_ended (l : Link) (f : TxFrame) : { l.releaseSlot f with tx := none } = l.ended f := by
  unfold Link.releaseSlot Link.ended
  split <;> rfl

/-- Settles O8, by what the transmitter finds. -/
theorem frameSentReleasesSlotAndTakesNext : Obligations.FrameSentReleasesSlotAndTakesNext := by
  intro s f powered tx notReset
  have goesOn : (s.link.resetting && isResetOk f) = false := by
    rw [Bool.and_eq_false_iff]
    cases resetting : s.link.resetting with
    | false => exact .inl rfl
    | true =>
      right
      rw [← Bool.not_eq_true, isResetOk_iff]
      exact notReset resetting f.tag
  have sends := exec_frameSent powered tx
  rw [goesOn, if_neg Bool.false_ne_true, Link.releaseSlot_ended] at sends
  refine ⟨_, sends, s.setLink_onlyLink _, State.changesOnly_held ⟨rfl, rfl, rfl, fun p hp => ?_⟩ rfl, ?_⟩
  · cases p <;> simp_all [State.sameIn, Link.ended]
  rw [State.holdAutoPark_link, State.setLink_link]
  refine ⟨by simp [Link.ended], by simp [Link.ended], by simp [Link.ended], by simp [Link.ended], by simp [Link.ended], fun r rest replies => ?_, fun n replies lowest => ?_,
    fun replies lowest => ?_⟩
  · rw [Link.kick_reply (l := s.link.ended f) rfl replies]
    exact ⟨rfl, rfl, rfl, rfl⟩
  · rw [Link.kick_notice (l := s.link.ended f) rfl replies lowest]
    refine ⟨rfl, replies, fun k => ?_, rfl⟩
    rw [NoticeSet.get_keep]
    by_cases same : k = n.kind <;> simp [same, Link.ended]
  · rw [Link.kick_idle (l := s.link.ended f) replies lowest]
    exact ⟨rfl, replies, rfl, rfl⟩

/-- Settles O9: the end of the RESET reply takes the reset. -/
theorem resetIsTakenAfterItsReply : Obligations.ResetIsTakenAfterItsReply := by
  intro s tag powered resetting tx
  have sends := exec_frameSent powered tx
  rw [resetting, (isResetOk_iff _).mpr rfl, Bool.and_self, if_pos rfl] at sends
  exact ⟨_, sends, rfl⟩

end Sys2Proof.Machine
end

section
/-! PROOF. Admission and the link's own requests (R5, R6, R14, R30, R35), and the soundness of the state after reset. -/
namespace Sys2Proof.Machine

/-! ## The state after reset -/

theorem State.reset_linkSound : State.reset.LinkSound := State.LinkSound.of_linkReset rfl rfl

theorem State.reset_switchesSound : State.reset.SwitchesSound where
  steer := trivial
  drive := trivial
  light := trivial
  winch := trivial

theorem State.reset_steeringSound : State.reset.SteeringSound where
  search := by decide
  searching i := by cases i <;> decide
  idle _ := ⟨rfl, rfl⟩
  pending := by decide
  corners steady := absurd steady (by decide)
  loadHeld i := by cases i <;> decide

theorem State.reset_winchSound : State.reset.WinchSound where
  axles i := by cases i <;> decide
  moves := by decide
  clutch := by decide

theorem State.reset_allotSound : State.reset.AllotSound where
  early _ := rfl
  zeroes _ := ⟨rfl, fun k => by cases k <;> exact ⟨rfl, rfl⟩⟩
  slot := by decide
  held holds := absurd holds (by decide)
  ceilings k := by cases k <;> rfl
  bound := by decide
  cutoff cut := absurd cut (by decide)

theorem State.reset_storeSound : State.reset.StoreSound where
  early _ := rfl
  snapshot := by decide
  image := by decide
  valid := by decide
  started := by decide

/-- The default map is one-to-one, and no channel is failed (14, table of functions). -/
theorem WorkingSet.defaults_mapSound : WorkingSet.defaults.MapSound where
  failed := by decide
  single := by decide

theorem State.reset_lampsSound : State.reset.LampsSound where
  working := WorkingSet.defaults_mapSound
  image := WorkingSet.defaults_mapSound
  snapshot _ saved := absurd saved (by simp [State.reset, sstReset])

theorem State.reset_energySound : State.reset.EnergySound where
  used := by decide
  residue := by decide

/-- Settles O55, invariant by invariant. -/
theorem resetIsSound : Obligations.ResetIsSound :=
  ⟨State.reset_linkSound, State.reset_switchesSound, State.reset_steeringSound, State.reset_winchSound,
    State.reset_allotSound, State.reset_storeSound, State.reset_lampsSound, State.reset_energySound⟩

/-! ## Dispatching nothing (R6, R14) -/

/-- A held dispatcher hands nothing over, and after an accepted RESET nothing is handed over. -/
theorem State.dispatchUpTo_stopped {s : State} (stopped : (s.link.held || s.link.resetting) = true) (n : Nat) :
    s.dispatchUpTo n = s := by
  induction n with
  | zero => rfl
  | succ n ih =>
    rw [State.dispatchUpTo, State.dispatchOne, if_pos stopped]
    exact ih

/-! ## The pin that a command brings (log 14) -/

section Pinned
variable (s : State) (i : Instr)

@[simp] theorem State.pinned_link : (s.pinned i).link = s.link := by unfold State.pinned; split <;> rfl

@[simp] theorem State.pinned_powered : (s.pinned i).powered = s.powered := by unfold State.pinned; split <;> rfl

@[simp] theorem State.pinned_mdc : (s.pinned i).mdc = s.mdc := by unfold State.pinned; split <;> rfl

/-- The pin plays no part in the auto-park timer (R41). -/
theorem State.holdAutoPark_pinned : (s.pinned i).holdAutoPark = s.holdAutoPark.pinned i := by
  cases i
  case storeSave tag lock =>
    change (s.setStoreLock lock).holdAutoPark = s.holdAutoPark.setStoreLock lock
    unfold State.holdAutoPark
    have same : (s.setStoreLock lock).autoParkRuns = s.autoParkRuns := rfl
    rw [same]
    split <;> rfl
  all_goals rfl

end Pinned

/-- Settles O10, by the places that are taken. -/
theorem admissionCountsPlaces : Obligations.AdmissionCountsPlaces := by
  intro s i q powered running request
  have acts : exec i s = .next ((s.pinned i).enqueue q).holdAutoPark := by
    rw [exec_requestOf request, act_powered (by rw [State.pinned_powered, powered])]
  refine ⟨fun full => ⟨_, acts, ?_⟩, fun place held => ?_⟩
  · rw [State.enqueue_full (by rw [State.pinned_link, running]) (by rw [State.pinned_link]; exact full)]
    refine ⟨?_, ?_, State.setLink_onlyLink _ _, State.changesOnly_held (State.drop_changes _ _) rfl⟩
    · rw [State.holdAutoPark_link]; exact Link.drop_lastDrop _ _ _
    · rw [State.holdAutoPark_link, State.drop_link, Link.drop_replies, State.pinned_link]
  · rw [acts, State.enqueue, State.pinned_link, running, if_neg Bool.false_ne_true, if_pos place, State.dispatchAll,
      State.dispatchUpTo_stopped (by rw [State.setLink_link, held]; rfl), State.holdAutoPark_setLink]

/-- Judging the auto-park timer changes nothing that a frame with the timers does not list (R41). -/
theorem State.changesOnly_parked {s t : State} {parts : List Part} (h : s.changesOnly t parts)
    (timers : Part.timers ∈ parts) : s.changesOnly t.holdAutoPark parts := by
  obtain ⟨pending, powered, lock, same⟩ := h
  refine ⟨by simp [pending], by simp [powered], by simp [lock], fun p hp => ?_⟩
  have stands := same p hp
  cases p
  case timers => exact absurd timers hp
  all_goals simpa [State.sameIn] using stands

/-! ## A request that is served at once (R5, R6) -/

/-- The state in which a request is handed over: its slot is reserved (R6). -/
def State.admitted (s : State) : State := s.setLink { s.link with slots := s.link.slots + 1 }

/-- A part that is ready serves a request at once. -/
theorem exec_ready {s : State} {i : Instr} {q : RawRequest} (ready : (s.pinned i).Ready) (request : requestOf i = some q) :
    exec i s = .next ((s.pinned i).admitted.serve q).holdAutoPark := by
  rw [exec_requestOf request, act_powered ready.powered, State.enqueue_ready ready, State.holdAutoPark_idem]
  rfl

/-- Reserving the slot changes the places alone. -/
theorem State.admitted_changes (s : State) : s.changesOnly s.admitted [.queue] := by
  refine ⟨rfl, rfl, rfl, fun p hp => ?_⟩
  cases p <;> simp_all [State.sameIn, State.admitted]

/-- A reply alone: it is sent, and only the link changes. -/
theorem State.admitted_refuse (s : State) (q : RawRequest) (why : Status) :
    s.sent (s.admitted.refuse q why).holdAutoPark (replyFrame q.kind q.tag why []) ∧
      s.onlyLink (s.admitted.refuse q why).holdAutoPark := by
  refine ⟨?_, s.setLink_onlyLink _⟩
  unfold State.sent
  rw [State.holdAutoPark_link]
  exact State.refuse_sent s.admitted q why

/-- So it is with an OK reply. -/
theorem State.admitted_ok (s : State) (q : RawRequest) (body : List Byte) :
    s.sent (s.admitted.ok q body).holdAutoPark (replyFrame q.kind q.tag .ok body) ∧
      s.onlyLink (s.admitted.ok q body).holdAutoPark := by
  refine ⟨?_, s.setLink_onlyLink _⟩
  unfold State.sent
  rw [State.holdAutoPark_link]
  exact State.ok_sent s.admitted q body

/-- An undefined kind of the request range is brought to admission as a request (R6). -/
theorem requestOf_undefined {kind tag : Byte} (formed : (Instr.undefinedRequest kind tag).wellFormed = true) :
    requestOf (.undefinedRequest kind tag) = some ⟨kind, tag, []⟩ ∧ definedLen kind = none := by
  simp only [Instr.wellFormed, Bool.and_eq_true, Option.isNone_iff_eq_none] at formed
  obtain ⟨request, undefined⟩ := formed
  exact ⟨by simp [requestOf, request, undefined], undefined⟩

/-- Settles O11: such a kind is refused before its payload is looked at. -/
theorem undefinedKindIsAnsweredUnknown : Obligations.UndefinedKindIsAnsweredUnknown := by
  intro s kind tag ready formed
  obtain ⟨request, undefined⟩ := requestOf_undefined formed
  have acts := exec_ready (s := s) (i := .undefinedRequest kind tag) ready request
  rw [State.serve_undefined _ undefined] at acts
  exact ⟨_, acts, s.admitted_refuse ⟨kind, tag, []⟩ .unknown⟩

/-! ## HELLO (R30) -/

/-- A HELLO reaches its owner in every mode (R34). -/
theorem exec_hello {s : State} (ready : s.Ready) (tag : Byte) :
    exec (.hello tag) s = .next (s.admitted.serveHello ⟨0x01, tag, []⟩).holdAutoPark := by
  rw [exec_ready (s := s) ready (i := .hello tag) rfl]
  have parsed : parseRequest 0x01 [] = some .hello := by decide
  have defined : (definedLen 0x01).isSome = true := by decide
  rw [State.serve_parsed _ defined parsed, Request.early, Bool.or_true, if_pos rfl]
  rfl

/-- A mode that is no end of the start sequence is entered without it. -/
theorem State.setMode_entered {s : State} {m : VehicleMode} (other : s.mdc.mode ≠ m) (ready : m ≠ .ready)
    (down : m ≠ .shutdown) : s.setMode m = s.modeEntered m := by
  rw [State.setMode_eq other, if_neg (by simp [State.startEnds, ready, down])]

/-- The entry of a mode from one that is not RUN changes MDC, the winch and the way out (R29, R157). -/
theorem State.modeEntered_changes {s : State} (m : VehicleMode) (run : s.mdc.mode ≠ .run) :
    s.changesOnly (s.modeEntered m) [.output, .mode, .timers, .wnc] := by
  unfold State.modeEntered State.axleModeChange
  rw [if_neg run]
  exact State.changesOnly_trans (State.changesOnly_trans
    (State.changesOnly_mono (State.setMdc_changes _ _) (by simp))
    (State.changesOnly_mono (State.raise_changes _ _) (by simp)))
    (State.changesOnly_mono (State.winchModeChange_changes _ m) (by simp))

/-- A raised notice leaves the replies on their way. -/
theorem State.raise_replies (s : State) (n : Notice) :
    (s.raise n).link.outgoing.filter TxFrame.isReply = s.link.outgoing.filter TxFrame.isReply :=
  Link.raise_replies _ _ _

/-- So does what the winch does at a change of the mode (R157). -/
theorem State.winchModeChange_replies (s : State) (m : VehicleMode) :
    (s.winchModeChange m).link.outgoing.filter TxFrame.isReply = s.link.outgoing.filter TxFrame.isReply := by
  have engages : ∀ (u : State) c,
      (u.forcedEngage c).link.outgoing.filter TxFrame.isReply = u.link.outgoing.filter TxFrame.isReply := by
    intro u c
    unfold State.forcedEngage
    split
    · exact State.raise_replies _ _
    · rfl
  unfold State.winchModeChange
  split
  · rfl
  · dsimp only
    split <;> split
    · exact engages _ _
    · exact engages _ _
    · rfl
    · rfl

/-- The entry of a mode produces no reply (R29). -/
theorem State.modeEntered_replies (s : State) (m : VehicleMode) :
    (s.modeEntered m).link.outgoing.filter TxFrame.isReply = s.link.outgoing.filter TxFrame.isReply := by
  rw [State.modeEntered, State.winchModeChange_replies, State.axleModeChange_link, State.raise_replies]
  rfl

/-- Settles O18, by the mode. -/
theorem helloStartsOrAnswers : Obligations.HelloStartsOrAnswers := by
  intro s tag ready
  have acts := exec_hello ready tag
  refine ⟨fun start => ?_, fun early => ?_, fun on => ?_⟩
  · let d := s.admitted.setMdc { s.mdc with deferredHello := some tag }
    have other : d.mdc.mode ≠ .loading := by
      change s.mdc.mode ≠ .loading
      rw [start]; decide
    have served : s.admitted.serveHello ⟨0x01, tag, []⟩ = d.setMode .loading := by
      unfold State.serveHello
      have mode : s.admitted.mdc.mode = .start := start
      rw [mode]
      rfl
    have entered : d.setMode .loading = d.modeEntered .loading :=
      State.setMode_entered other (by decide) (by decide)
    have mdc : (d.setMode .loading).mdc = d.mdc.enter d.ws .loading := by rw [entered, State.modeEntered_mdc]
    have followed : s.modeFollowed (d.setMode .loading) :=
      State.modeFollowed_from (b := d) rfl rfl rfl rfl (d.setMode_followed .loading)
    rw [served] at acts
    refine ⟨_, acts, ?_, ?_, ?_, ?_, ?_, fun inMask => ?_, fun still => ?_, State.modeFollowed_held followed, ?_⟩
    · rw [State.holdAutoPark_mdc_mode, State.setMode_mode]
    · rw [State.holdAutoPark_mdc_deferredHello, mdc]; rfl
    · rw [State.holdAutoPark_mdc_stageMs, mdc]; rfl
    · rw [State.holdAutoPark_link, (d.owes_setMode (m := .loading) (by decide)).slots]; rfl
    · rw [State.holdAutoPark_link, entered, State.modeEntered_replies]; rfl
    · obtain ⟨-, -, told⟩ := followed
      rw [State.modeNoticed, State.setMode_mode, State.ws, State.setMode_sst, mdc, start] at told
      exact State.noticed_of_link (State.holdAutoPark_link _) (told (by decide) inMask)
    · rw [State.holdAutoPark_wnc, State.setMode_wnc other]
      refine (if_neg fun moving => ?_).trans (if_neg fun down => ?_)
      · exact absurd (still.symm.trans moving.2) (by decide)
      · exact absurd down.1 (by decide)
    · refine State.changesOnly_parked (State.changesOnly_trans (State.changesOnly_trans
        (State.changesOnly_mono s.admitted_changes (by simp))
        (State.changesOnly_mono (State.setMdc_changes _ _) (by simp)))
        (State.changesOnly_mono (entered ▸ d.modeEntered_changes .loading ?_) (by simp))) (by simp)
      change s.mdc.mode ≠ .run
      rw [start]; decide
  · have busy : s.admitted.serveHello ⟨0x01, tag, []⟩ = s.admitted.refuse ⟨0x01, tag, []⟩ .busy := by
      have mode : s.admitted.mdc.mode = s.mdc.mode := rfl
      unfold State.serveHello
      rw [mode]
      obtain e | e | e := early <;> rw [e]
    rw [busy] at acts
    exact ⟨_, acts, s.admitted_refuse _ _⟩
  · have answered : s.admitted.serveHello ⟨0x01, tag, []⟩ = s.admitted.ok ⟨0x01, tag, []⟩ s.helloBody := by
      have mode : s.admitted.mdc.mode = s.mdc.mode := rfl
      unfold State.serveHello
      rw [mode]
      obtain e | e | e | e | e := on <;> rw [e] <;> rfl
    rw [answered] at acts
    exact ⟨_, acts, s.admitted_ok _ _⟩

/-! ## The working set is replaced (R182): what stands -/

theorem State.setPkm_changes (s : State) (p : Pkm) : s.changesOnly (s.setPkm p) [.pkm] := by
  refine ⟨rfl, rfl, rfl, fun p hp => ?_⟩
  cases p <;> simp_all [State.sameIn]

theorem State.setStc_changes (s : State) (x : Stc) : s.changesOnly (s.setStc x) [.stc] := by
  refine ⟨rfl, rfl, rfl, fun p hp => ?_⟩
  cases p <;> simp_all [State.sameIn]

theorem State.setCau_changes (s : State) (x : Cau) : s.changesOnly (s.setCau x) [.cau] := by
  refine ⟨rfl, rfl, rfl, fun p hp => ?_⟩
  cases p <;> simp_all [State.sameIn]

theorem State.setLmp_changes (s : State) (x : Lmp) : s.changesOnly (s.setLmp x) [.lmp] := by
  refine ⟨rfl, rfl, rfl, fun p hp => ?_⟩
  cases p <;> simp_all [State.sameIn]

theorem State.setWorking_changes (s : State) (w : WorkingSet) : s.changesOnly (s.setWorking w) [.working] := by
  refine ⟨rfl, rfl, rfl, fun p hp => ?_⟩
  cases p <;> simp_all [State.sameIn, State.setWorking]

theorem State.pruneNotices_changes (s : State) : s.changesOnly s.pruneNotices [.output] := by
  refine ⟨rfl, rfl, rfl, fun p hp => ?_⟩
  cases p <;> simp_all [State.sameIn, State.pruneNotices]

theorem State.recomputeCau_changes (s : State) : s.changesOnly s.recomputeCau [.cau] := by
  unfold State.recomputeCau
  split
  · exact s.setCau_changes _
  · exact s.changesOnly_refl _

theorem State.restartGens_changes (s : State) (old : WorkingSet) : s.changesOnly (s.restartGens old) [.lmp] := by
  unfold State.restartGens
  generalize genIds = gs
  induction gs generalizing s with
  | nil => exact s.changesOnly_refl _
  | cons g rest ih =>
    rw [List.foldl_cons]
    split
    · exact State.changesOnly_trans (s.setLmp_changes _) (ih _)
    · exact ih s

theorem State.rederiveLamps_changes (s : State) (w : WorkingSet) :
    s.changesOnly (s.rederiveLamps w) [.output, .lmp, .working] := by
  have mapped : s.changesOnly ((s.remap (rederive s.ws w)).restartGens s.ws) [.output, .lmp, .working] :=
    State.changesOnly_trans (State.changesOnly_trans (State.changesOnly_mono (s.setWorking_changes _) (by simp))
      (State.changesOnly_mono (State.setLmp_changes _ _) (by simp)))
      (State.changesOnly_mono (State.restartGens_changes _ _) (by simp))
  unfold State.rederiveLamps
  split
  · exact mapped
  · exact State.changesOnly_trans mapped (State.changesOnly_mono (State.raise_changes _ _) (by simp))

/-- Replacing the working set changes it, LMP, CAU, PKM's counts and the pending notices (R182). -/
theorem State.replaceWorking_changes (s : State) (w : WorkingSet) :
    s.changesOnly (s.replaceWorking w) [.output, .pkm, .cau, .lmp, .working] := by
  have taken : s.changesOnly (s.rederiveLamps w).pruneNotices.recomputeCau [.output, .pkm, .cau, .lmp, .working] :=
    State.changesOnly_trans (State.changesOnly_trans (State.changesOnly_mono (s.rederiveLamps_changes w) (by simp))
      (State.changesOnly_mono (State.pruneNotices_changes _) (by simp)))
      (State.changesOnly_mono (State.recomputeCau_changes _) (by simp))
  unfold State.replaceWorking
  dsimp only
  split
  · exact taken
  · exact State.changesOnly_trans taken (State.changesOnly_mono (State.setPkm_changes _ _) (by simp))

/-- The end of a load frees the dispatcher and releases the corners besides (R182). -/
theorem State.finishLoad_changes (s : State) :
    s.changesOnly s.finishLoad [.queue, .output, .pkm, .cau, .stc, .lmp, .working] := by
  have freed : ∀ u : State, u.changesOnly (u.setLink { u.link with held := false, loadMs := 0 }) [.queue] := by
    intro u
    refine ⟨rfl, rfl, rfl, fun p hp => ?_⟩
    cases p <;> simp_all [State.sameIn]
  exact State.changesOnly_trans (State.changesOnly_trans
    (State.changesOnly_mono (s.replaceWorking_changes _) (by simp))
    (State.changesOnly_mono (freed _) (by simp)))
    (State.changesOnly_mono (State.setStc_changes _ _) (by simp))

/-- The store state stands at the end of a load (R182). -/
theorem State.finishLoad_store (s : State) : s.finishLoad.sst.store = s.sst.store := by
  obtain ⟨-, -, -, parts⟩ := s.finishLoad_changes
  have same := parts .store (by decide)
  unfold State.sameIn at same
  rw [same]

/-! ## RESET (R35, R14) -/

/-- A RESET reaches its owner in every mode (R34). -/
theorem State.serve_reset (s : State) (tag : Byte) :
    s.serve ⟨0x02, tag, []⟩ =
      if s.sst.store = .writing then s.refuse ⟨0x02, tag, []⟩ .busy else s.resetAccepted ⟨0x02, tag, []⟩ := by
  have parsed : parseRequest 0x02 [] = some .reset := by decide
  have defined : (definedLen 0x02).isSome = true := by decide
  rw [State.serve_parsed s (q := ⟨0x02, tag, []⟩) defined parsed, Request.early, Bool.or_true, if_pos rfl]
  exact s.serveReset_eq _

section Accepted
variable (s : State) (q : RawRequest)

theorem State.resetAccepted_sent : s.sent (s.resetAccepted q) (replyFrame q.kind q.tag .ok []) := State.ok_sent _ _ _

theorem State.resetAccepted_resetting : (s.resetAccepted q).link.resetting = true := Link.answer_resetting _ _

theorem State.resetAccepted_waiting : (s.resetAccepted q).link.waiting = [] := Link.answer_waiting _ _

theorem State.resetAccepted_held : (s.resetAccepted q).link.held = s.link.held := Link.answer_held _ _

theorem State.resetAccepted_slots :
    (s.resetAccepted q).link.slots = s.link.slots - (if s.mdc.deferredHello.isSome then 1 else 0) :=
  Link.answer_slots _ _

theorem State.resetAccepted_mdc : (s.resetAccepted q).mdc = { s.mdc with deferredHello := none } := rfl

/-- An accepted RESET changes the receiver, the places, the way out and the deferred HELLO. -/
theorem State.resetAccepted_changes : s.changesOnly (s.resetAccepted q) [.receiver, .queue, .output, .timers] := by
  have cleared : s.changesOnly ((s.setLink { s.link with
      resetting := true, waiting := [], rx := .hunt, gapMs := 0
      slots := s.link.slots - if s.mdc.deferredHello.isSome then 1 else 0 }).setMdc
      { s.mdc with deferredHello := none }) [.receiver, .queue, .output, .timers] := by
    refine ⟨rfl, rfl, rfl, fun p hp => ?_⟩
    cases p <;> simp_all [State.sameIn]
  exact State.changesOnly_trans cleared (State.changesOnly_mono (State.answer_changes _ _ _) (by simp))

end Accepted

/-- Once a RESET is accepted the link takes in nothing more (R14). -/
theorem exec_resetting {t : State} (powered : t.powered = true) (resetting : t.link.resetting = true)
    (held : t.holdAutoPark = t) (b : Byte) :
    exec (.byteReceived b) t = .next t ∧ (∀ f, exec (.controlFrame f) t = .next t) ∧
      (∀ kind other, exec (.undefinedRequest kind other) t = .next t) ∧
      ∀ i q, requestOf i = some q → exec i t = .next (t.pinned i) := by
  refine ⟨?_, fun f => ?_, fun kind other => ?_, fun i q request => ?_⟩
  · have acts : exec (.byteReceived b) t = act t fun s => if s.link.resetting then s else s.takeByte b := rfl
    rw [acts, act_powered powered, resetting, if_pos rfl, held]
  · have acts : exec (.controlFrame f) t = act t fun s => s.takeControl f := rfl
    rw [acts, act_powered powered, State.takeControl_resetting resetting, held]
  · have acts : exec (.undefinedRequest kind other) t = act t fun s => s.judgeKind kind other [] := rfl
    rw [acts, act_powered powered, State.judgeKind_resetting resetting, held]
  · rw [exec_requestOf request, act_powered (by rw [State.pinned_powered, powered]),
      State.enqueue_resetting (by rw [State.pinned_link, resetting]), State.holdAutoPark_pinned, held]

/-- A free dispatcher hands a RESET over, and after it nothing (R6, R14). -/
theorem State.dispatchAll_reset {s : State} {tag : Byte} {rest : List RawRequest}
    (waiting : s.link.waiting = ⟨0x02, tag, []⟩ :: rest) (free : s.link.held = false)
    (running : s.link.resetting = false) (stored : s.sst.store ≠ .writing) :
    s.dispatchAll = ((s.setLink { s.link with waiting := rest, slots := s.link.slots + 1 }).resetAccepted
      ⟨0x02, tag, []⟩).holdAutoPark := by
  have first : s.dispatchOne = ((s.setLink { s.link with
      waiting := rest, slots := s.link.slots + 1 }).resetAccepted ⟨0x02, tag, []⟩).holdAutoPark := by
    unfold State.dispatchOne
    rw [free, running, Bool.or_self, if_neg Bool.false_ne_true, waiting]
    dsimp only
    rw [State.serve_reset, if_neg (by exact stored)]
  rw [State.dispatchAll, waiting, List.length_cons, State.dispatchUpTo, first]
  refine State.dispatchUpTo_stopped ?_ _
  rw [State.holdAutoPark_link, State.resetAccepted_resetting, Bool.or_true]

/-- Settles O19: a RESET is accepted at once, or by the end of a load. -/
theorem resetRequestStopsTheLink : Obligations.ResetRequestStopsTheLink := by
  intro s tag b
  refine ⟨fun ready saves => ?_, fun ready free => ?_, fun rest powered running held waiting free => ?_⟩
  · have acts := exec_ready (s := s) ready (i := .reset tag) rfl
    rw [State.serve_reset, if_pos (by exact saves)] at acts
    exact ⟨_, acts, s.admitted_refuse _ _⟩
  · have acts := exec_ready (s := s) ready (i := .reset tag) rfl
    rw [State.serve_reset, if_neg (by exact free)] at acts
    have resetting : (s.admitted.resetAccepted ⟨0x02, tag, []⟩).holdAutoPark.link.resetting = true := by
      rw [State.holdAutoPark_link]; exact State.resetAccepted_resetting _ _
    have frame := State.changesOnly_trans (State.changesOnly_mono s.admitted_changes (by simp))
      (s.admitted.resetAccepted_changes ⟨0x02, tag, []⟩)
    refine ⟨_, acts, ?_, resetting, ?_, ?_, ?_, State.changesOnly_parked frame (by simp),
      exec_resetting ?_ resetting (State.holdAutoPark_idem _) b⟩
    · unfold State.sent
      rw [State.holdAutoPark_link]
      exact State.resetAccepted_sent s.admitted _
    · rw [State.holdAutoPark_link]; exact State.resetAccepted_waiting _ _
    · rw [State.holdAutoPark_mdc_deferredHello]; rfl
    · rw [State.holdAutoPark_link]; exact State.resetAccepted_slots s.admitted _
    · rw [State.holdAutoPark_powered]; exact ready.powered
  · have acts : exec .storeLoadEnd s =
        act s fun s => if s.link.held then s.finishLoad.holdAutoPark.dispatchAll else s := rfl
    rw [act_powered powered, held, if_pos rfl] at acts
    have account : s.finishLoad.holdAutoPark.link.waiting = s.link.waiting ∧
        s.finishLoad.holdAutoPark.link.resetting = s.link.resetting ∧
        s.finishLoad.holdAutoPark.link.replyCount = s.link.replyCount := by
      have same := s.account_finishLoad
      rw [State.holdAutoPark_link]
      exact ⟨congrArg Account.waiting same, congrArg Account.resetting same, congrArg Account.replies same⟩
    have heldNot : s.finishLoad.holdAutoPark.link.held = false := by rw [State.holdAutoPark_link]; rfl
    have freeStill : s.finishLoad.holdAutoPark.sst.store ≠ .writing := by
      rw [State.holdAutoPark_sst, s.finishLoad_store]; exact free
    generalize s.finishLoad.holdAutoPark = u at acts account heldNot freeStill
    obtain ⟨waits, goes, replies⟩ := account
    rw [waiting] at waits
    rw [running] at goes
    rw [State.dispatchAll_reset waits heldNot goes freeStill, State.holdAutoPark_idem] at acts
    have sent := State.resetAccepted_sent (u.setLink { u.link with waiting := rest, slots := u.link.slots + 1 })
      ⟨0x02, tag, []⟩
    unfold State.sent at sent
    refine ⟨_, acts, ?_, ?_, ?_, ?_, ?_, ?_⟩
    · rw [State.holdAutoPark_link]; exact State.resetAccepted_resetting _ _
    · rw [State.holdAutoPark_link]; exact State.resetAccepted_waiting _ _
    · rw [State.holdAutoPark_link, State.resetAccepted_held]; exact heldNot
    · rw [State.holdAutoPark_mdc_deferredHello]; rfl
    · rw [State.holdAutoPark_link, sent]
      exact List.mem_append_right _ (List.mem_singleton.mpr rfl)
    · rw [State.holdAutoPark_link, sent, List.filter_append, List.length_append]
      exact congrArg (· + 1) replies

end Sys2Proof.Machine
end

section
/-! PROOF. SET and GET (R179): the five tests in order, the write, and what the new value brings about at once. -/
namespace Sys2Proof.Machine

/-! ## A served request after the start sequence (R34) -/

/-- After the start sequence a parsed request is its owner's. -/
theorem exec_serving {s : State} {i : Instr} {q : RawRequest} {r : Request} (serving : s.Serving) (pin : s.pinned i = s)
    (request : requestOf i = some q) (defined : (definedLen q.kind).isSome = true)
    (parsed : parseRequest q.kind q.payload = some r) :
    exec i s = .next (s.admitted.owner q r).holdAutoPark := by
  have ready : (s.pinned i).Ready := by rw [pin]; exact serving.toReady
  rw [exec_ready ready request, pin, State.serve_parsed _ defined parsed]
  have started : s.admitted.mdc.startDone = true := serving.started
  rw [started, Bool.true_or, if_pos rfl]

/-! ## The words of SET and GET (R179, R184) -/

/-- The bytes of a 32-bit field joined again (R184). -/
theorem joinWord_word (v : Word) : ∃ b0 b1 b2 b3, word v = [b0, b1, b2, b3] ∧ joinWord b0 b1 b2 b3 = v := by
  refine ⟨_, _, _, _, rfl, ?_⟩
  apply BitVec.eq_of_getLsbD_eq
  intro i hi
  simp only [joinWord, BitVec.getLsbD_append, BitVec.truncate_eq_setWidth, BitVec.getLsbD_setWidth,
    BitVec.getLsbD_ushiftRight]
  by_cases b0 : i < 8
  · simp [b0]
  by_cases b1 : i < 16
  · simp [b0, show i - 8 < 8 by omega, show 8 + (i - 8) = i by omega]
  by_cases b2 : i < 24
  · simp [b0, show ¬i - 8 < 8 by omega, show i - 8 - 8 < 8 by omega, show 16 + (i - 8 - 8) = i by omega]
  · simp [b0, show ¬i - 8 < 8 by omega, show ¬i - 8 - 8 < 8 by omega, show i - 8 - 8 - 8 < 8 by omega,
      show 24 + (i - 8 - 8 - 8) = i by omega]

theorem parseRequest_set (id b0 b1 b2 b3 : Byte) :
    parseRequest 0x30 [id, b0, b1, b2, b3] = some (.set id (joinWord b0 b1 b2 b3)) := by
  rfl

theorem parseRequest_get (id : Byte) : parseRequest 0x31 [id] = some (.get id) := by
  rfl

/-- A SET reaches the Settings Store. -/
theorem exec_set {s : State} (serving : s.Serving) (tag id : Byte) (v : Word) :
    exec (.set tag id v) s = .next (s.admitted.serveSet ⟨0x30, tag, [id] ++ word v⟩ id v).holdAutoPark := by
  have defined : (definedLen 0x30).isSome = true := by decide
  obtain ⟨b0, b1, b2, b3, bytes, joined⟩ := joinWord_word v
  have parsed : parseRequest 0x30 ([id] ++ word v) = some (.set id v) := by
    rw [bytes, ← joined]
    exact parseRequest_set id b0 b1 b2 b3
  exact exec_serving (q := ⟨0x30, tag, [id] ++ word v⟩) serving rfl rfl defined parsed

/-- A GET reaches the Settings Store. -/
theorem exec_get {s : State} (serving : s.Serving) (tag id : Byte) :
    exec (.get tag id) s = .next (s.admitted.serveGet ⟨0x31, tag, [id]⟩ id).holdAutoPark := by
  have defined : (definedLen 0x31).isSome = true := by decide
  exact exec_serving (q := ⟨0x31, tag, [id]⟩) serving rfl rfl defined (parseRequest_get id)

/-! ## The tests (R179) -/

/-- The row of an id has that id. -/
theorem itemSpec_id {n : Nat} {spec : ItemSpec} (row : itemSpec n = some spec) : spec.id = n := by
  have found := List.find?_some row
  simpa using found

/-- An id of the table, as its byte. -/
theorem item_toNat (i : Fin 78) : (BitVec.ofNat 8 i.val).toNat = i.val := by
  rw [BitVec.toNat_ofNat]
  omega

/-- GET of an item of the table. -/
theorem State.serveGet_known (s : State) (q : RawRequest) {i : Fin 78} {spec : ItemSpec}
    (row : itemSpec i.val = some spec) :
    s.serveGet q (BitVec.ofNat 8 i.val) = s.ok q (u8 i.val ++ s32 (s.ws.int i)) := by
  have id := itemSpec_id row
  unfold State.serveGet
  rw [item_toNat, row]
  simp only [id, i.isLt, dif_pos]

/-- GET of any other id. -/
theorem State.serveGet_unknown (s : State) (q : RawRequest) {id : Byte} (none : itemSpec id.toNat = none) :
    s.serveGet q id = s.refuse q .unknown := by
  unfold State.serveGet
  rw [none]

/-- The state once a SET has passed its tests: the value is written and answered (R179). -/
def State.itemSet (s : State) (q : RawRequest) (i : Fin 78) (v : Int) : State :=
  (s.setWorking (s.ws.setItem i v)).ok q []

/-- SET of an item of the table: the tests in order, then the write and what it brings about. -/
theorem State.serveSet_known (s : State) (q : RawRequest) (v : Word) {i : Fin 78} {spec : ItemSpec}
    (row : itemSpec i.val = some spec) :
    s.serveSet q (BitVec.ofNat 8 i.val) v =
      if s.sst.store = .writing then s.refuse q .busy
      else if spec.allowed.admits v.toInt = false then s.refuse q .range
      else if (s.ws.setItem i v.toInt).ordered = false then s.refuse q .range
      else match s.ownerRefuses i with
        | some st => s.refuse q st
        | none => (s.itemSet q i v.toInt).settingTakesEffect i := by
  have id := itemSpec_id row
  unfold State.serveSet State.saving
  rw [item_toNat, row]
  simp only [id, i.isLt, dif_pos, decide_eq_true_eq, Bool.not_eq_true', Fin.eta]
  rfl

/-- SET of any other id. -/
theorem State.serveSet_unknown (s : State) (q : RawRequest) (v : Word) {id : Byte} (free : s.sst.store ≠ .writing)
    (none : itemSpec id.toNat = none) : s.serveSet q id v = s.refuse q .unknown := by
  unfold State.serveSet State.saving
  simp only [free, decide_false, Bool.false_eq_true, if_false, none]

/-! ## What a new value brings about (R10, R37, R41, R66, R75) -/

/-- The mode that a new value brings about: FAILSAFE where the silence timer has reached it, PARK where the auto-park
timer has (R37, R41). -/
def State.settingEnters (s : State) (i : Fin 78) : Option VehicleMode :=
  if i = Item.silenceMs ∧ s.mdc.mode = .run ∧ s.ws.nat Item.silenceMs ≤ s.mdc.silenceMs then some .failsafe
  else if i = Item.autoParkS ∧ s.autoParkRuns = true ∧ s.ws.nat Item.autoParkS * 1000 ≤ s.mdc.autoParkMs then
    some .park
  else none

/-- What a new value brings about but for the mode (R10, R66, R75). -/
def State.settingActs (s : State) (i : Fin 78) : State :=
  if i = Item.noticeMask then s.pruneNotices
  else if i = Item.cellCount then s.setPkm s.pkm.restartCounts
  else if isAllotItem i then s.recomputeCau
  else s

/-- A setting acts on the mode, or on a block's own state. -/
theorem State.settingTakesEffect_eq (s : State) (i : Fin 78) :
    s.settingTakesEffect i = match s.settingEnters i with
      | some m => s.setMode m
      | none => s.settingActs i := by
  unfold State.settingTakesEffect State.settingEnters State.settingActs
  by_cases mask : i = Item.noticeMask
  · subst mask; rfl
  by_cases silence : i = Item.silenceMs
  · subst silence
    have others : Item.silenceMs ≠ Item.noticeMask ∧ Item.silenceMs ≠ Item.cellCount ∧ Item.silenceMs ≠ Item.autoParkS ∧
      isAllotItem Item.silenceMs = false := by decide
    obtain ⟨notMask, notCells, notPark, notAllot⟩ := others
    simp only [notMask, notCells, notPark, notAllot, if_false, if_true, true_and, false_and, State.silenceExpires]
    by_cases run : s.mdc.mode = .run <;> by_cases due : s.ws.nat Item.silenceMs ≤ s.mdc.silenceMs <;> simp [run, due]
  by_cases park : i = Item.autoParkS
  · subst park
    have others : Item.autoParkS ≠ Item.noticeMask ∧ Item.autoParkS ≠ Item.cellCount ∧ Item.autoParkS ≠ Item.silenceMs ∧
      isAllotItem Item.autoParkS = false := by decide
    obtain ⟨notMask, notCells, notSilence, notAllot⟩ := others
    simp only [notMask, notCells, notSilence, notAllot, if_false, if_true, true_and, false_and, State.autoParkExpires]
    by_cases run : s.autoParkRuns = true <;> by_cases due : s.ws.nat Item.autoParkS * 1000 ≤ s.mdc.autoParkMs <;>
      simp [run, due]
  · simp only [mask, silence, park, if_false, false_and]

section Acts
variable (s : State) (i : Fin 78)

theorem State.settingActs_mdc : (s.settingActs i).mdc = s.mdc := by
  unfold State.settingActs; (repeat' split) <;> simp [State.pruneNotices]

theorem State.settingActs_sst : (s.settingActs i).sst = s.sst := by
  unfold State.settingActs; (repeat' split) <;> simp [State.pruneNotices]

theorem State.settingActs_wnc : (s.settingActs i).wnc = s.wnc := by
  unfold State.settingActs; (repeat' split) <;> simp [State.pruneNotices]

theorem State.settingActs_drc : (s.settingActs i).drc = s.drc := by
  unfold State.settingActs; (repeat' split) <;> simp [State.pruneNotices]

theorem State.settingActs_outgoing : (s.settingActs i).link.outgoing = s.link.outgoing := by
  unfold State.settingActs; (repeat' split) <;> simp [State.pruneNotices, Link.outgoing]

theorem State.settingActs_link (other : i ≠ Item.noticeMask) : (s.settingActs i).link = s.link := by
  unfold State.settingActs; rw [if_neg other]; (repeat' split) <;> simp

theorem State.settingActs_pkm :
    (s.settingActs i).pkm = if i = Item.cellCount then s.pkm.restartCounts else s.pkm := by
  unfold State.settingActs
  by_cases cells : i = Item.cellCount
  · subst cells; rfl
  · simp only [cells, if_false]
    (repeat' split) <;> simp [State.pruneNotices]

/-- The items of the budget are no other setting that acts at once. -/
theorem State.settingActs_cau :
    (s.settingActs i).cau = if isAllotItem i = true then s.recomputeCau.cau else s.cau := by
  unfold State.settingActs
  by_cases allot : isAllotItem i = true
  · have others : i ≠ Item.noticeMask ∧ i ≠ Item.cellCount := by
      constructor <;> rintro rfl <;> exact absurd allot (by decide)
    simp only [others.1, others.2, allot, if_false, if_true]
  · simp only [if_neg allot]
    (repeat' split) <;> rfl

theorem State.settingActs_changes : s.changesOnly (s.settingActs i) [.output, .pkm, .cau] := by
  unfold State.settingActs
  split_ifs
  · exact State.changesOnly_mono s.pruneNotices_changes (by simp)
  · exact State.changesOnly_mono (s.setPkm_changes _) (by simp)
  · exact State.changesOnly_mono s.recomputeCau_changes (by simp)
  · exact s.changesOnly_refl _

end Acts

/-! ## A change of the mode while a reply is being sent -/

/-- While a frame is being sent a notice waits: what is on its way stands. -/
theorem State.raise_outgoing_busy {s : State} (busy : ∃ f, s.link.tx = some f) (n : Notice) :
    (s.raise n).link.outgoing = s.link.outgoing ∧ ∃ f, (s.raise n).link.tx = some f := by
  obtain ⟨f, tx⟩ := busy
  rw [State.raise_link]
  cases s.sst.working.notices n.kind with
  | true => rw [Link.raise_busy tx]; exact ⟨rfl, f, tx⟩
  | false => exact ⟨rfl, f, tx⟩

/-- The winch's notice at a change of the mode waits as well (R157). -/
theorem State.winchModeChange_outgoing_busy {s : State} (busy : ∃ f, s.link.tx = some f) (m : VehicleMode) :
    (s.winchModeChange m).link.outgoing = s.link.outgoing := by
  have engages : ∀ u : State, u.link = s.link → ∀ c, (u.forcedEngage c).link.outgoing = s.link.outgoing := by
    intro u same c
    unfold State.forcedEngage
    split
    · exact (State.raise_outgoing_busy (s := u.setWnc u.wnc.engage) (by rw [State.setWnc_link, same]; exact busy) _).1.trans
        (by rw [State.setWnc_link, same])
    · rw [same]
  unfold State.winchModeChange
  split
  · rfl
  · dsimp only
    split <;> split
    · exact engages (s.setWnc (s.wnc.endByLoad s.ws true)) rfl _
    · exact engages s rfl _
    · rfl
    · rfl

/-- While a frame is being sent nothing is put on the way by the entry of a mode (R29). -/
theorem State.modeEntered_outgoing_busy {s : State} (busy : ∃ f, s.link.tx = some f) (m : VehicleMode) :
    (s.modeEntered m).link.outgoing = s.link.outgoing := by
  obtain ⟨same, still⟩ := State.raise_outgoing_busy (s := s.setMdc (s.mdc.enter s.ws m)) busy
    (.mode ⟨m, s.mdc.mode, s.mdc.wakeSet, s.mdc.wakeFirst⟩)
  rw [State.modeEntered, State.winchModeChange_outgoing_busy (by rw [State.axleModeChange_link]; exact still),
    State.axleModeChange_link, same]
  rfl

/-! ## The mode that a setting brings about (R37, R41) -/

/-- A setting changes the mode in RUN alone, to FAILSAFE or PARK. -/
theorem State.settingEnters_some {s : State} {i : Fin 78} {m : VehicleMode} (enters : s.settingEnters i = some m) :
    s.mdc.mode = .run ∧ (m = .failsafe ∨ m = .park) := by
  unfold State.settingEnters at enters
  split_ifs at enters with silence park
  · exact ⟨silence.2.1, .inl (Option.some.inj enters).symm⟩
  · exact ⟨State.autoParkRuns_run park.2.1, .inr (Option.some.inj enters).symm⟩

/-- The mode is then entered without an end of the start sequence (R33). -/
theorem State.setMode_setting {s : State} {i : Fin 78} {m : VehicleMode} (enters : s.settingEnters i = some m) :
    s.setMode m = s.modeEntered m := by
  obtain ⟨run, rfl | rfl⟩ := State.settingEnters_some enters
  all_goals exact State.setMode_entered (by rw [run]; decide) (by decide) (by decide)

section Effect
variable (s : State) (i : Fin 78)

theorem State.settingTakesEffect_sst : (s.settingTakesEffect i).sst = s.sst := by
  rw [State.settingTakesEffect_eq]
  split
  · exact s.setMode_sst _
  · exact s.settingActs_sst i

theorem State.settingTakesEffect_outgoing (busy : ∃ f, s.link.tx = some f) :
    (s.settingTakesEffect i).link.outgoing = s.link.outgoing := by
  rw [State.settingTakesEffect_eq]
  split
  · rename_i m enters
    rw [State.setMode_setting enters]
    exact State.modeEntered_outgoing_busy busy m
  · exact s.settingActs_outgoing i

theorem State.settingTakesEffect_pkm :
    (s.settingTakesEffect i).pkm = if i = Item.cellCount then s.pkm.restartCounts else s.pkm := by
  rw [State.settingTakesEffect_eq]
  split
  · rename_i m enters
    have other : i ≠ Item.cellCount := by
      unfold State.settingEnters at enters
      split_ifs at enters with silence park
      · rw [silence.1]; decide
      · rw [park.1]; decide
    rw [State.setMode_pkm, if_neg other]
  · exact s.settingActs_pkm i

theorem State.settingTakesEffect_cau :
    (s.settingTakesEffect i).cau = if isAllotItem i = true then s.recomputeCau.cau else s.cau := by
  rw [State.settingTakesEffect_eq]
  split
  · rename_i m enters
    have other : isAllotItem i = false := by
      unfold State.settingEnters at enters
      split_ifs at enters with silence park
      · rw [silence.1]; decide
      · rw [park.1]; decide
    rw [State.setMode_setting enters, State.modeEntered_cau, other, if_neg Bool.false_ne_true]
  · exact s.settingActs_cau i

theorem State.settingTakesEffect_axles : s.axlesFollowMode (s.settingTakesEffect i) := by
  rw [State.settingTakesEffect_eq]
  split
  · exact (s.setMode_followed _).1
  · unfold State.axlesFollowMode
    rw [s.settingActs_drc, s.settingActs_mdc, if_neg fun leaves => leaves.2 leaves.1]

theorem State.settingTakesEffect_changes :
    s.changesOnly (s.settingTakesEffect i) [.output, .mode, .timers, .pkm, .cau, .drc, .wnc] := by
  rw [State.settingTakesEffect_eq]
  split
  · exact State.changesOnly_mono (s.setMode_changes _) (by simp)
  · exact State.changesOnly_mono (s.settingActs_changes i) (by simp)

end Effect

/-! ## A written item (R179) -/

section Written
variable (s : State) (q : RawRequest) (i : Fin 78) (v : Int)

@[simp] theorem State.itemSet_mdc : (s.itemSet q i v).mdc = s.mdc := rfl
@[simp] theorem State.itemSet_wnc : (s.itemSet q i v).wnc = s.wnc := rfl
@[simp] theorem State.itemSet_drc : (s.itemSet q i v).drc = s.drc := rfl
@[simp] theorem State.itemSet_pkm : (s.itemSet q i v).pkm = s.pkm := rfl
@[simp] theorem State.itemSet_cau : (s.itemSet q i v).cau = s.cau := rfl
@[simp] theorem State.itemSet_ws : (s.itemSet q i v).ws = s.ws.setItem i v := rfl
@[simp] theorem State.itemSet_parkFailure : (s.itemSet q i v).parkFailure = s.parkFailure := rfl

theorem State.itemSet_notices : (s.itemSet q i v).link.notices = s.link.notices := Link.answer_notices _ _

theorem State.itemSet_busy : ∃ f, (s.itemSet q i v).link.tx = some f := Link.answer_busy _ _

theorem State.itemSet_sent : s.sent (s.itemSet q i v) (replyFrame q.kind q.tag .ok []) := State.ok_sent _ _ _

theorem State.itemSet_changes : s.changesOnly (s.itemSet q i v) [.output, .working] :=
  State.changesOnly_trans (State.changesOnly_mono (s.setWorking_changes _) (by simp))
    (State.changesOnly_mono (State.answer_changes _ _ _) (by simp))

@[simp] theorem WorkingSet.nat_setItem_self (w : WorkingSet) : (w.setItem i v).nat i = v.toNat := by
  rw [WorkingSet.nat, WorkingSet.int_setItem_self]

theorem WorkingSet.nat_setItem_of_ne (w : WorkingSet) {j : Fin 78} (ne : j ≠ i) : (w.setItem i v).nat j = w.nat j := by
  rw [WorkingSet.nat, WorkingSet.int_setItem_of_ne w v ne, WorkingSet.nat]

/-- The silence timer has reached the new figure (R37). -/
theorem State.itemSet_silent (silent : i = Item.silenceMs ∧ s.mdc.mode = .run ∧ v ≤ s.mdc.silenceMs) :
    (s.itemSet q i v).settingEnters i = some .failsafe := by
  obtain ⟨rfl, run, reached⟩ := silent
  unfold State.settingEnters
  rw [if_pos ⟨rfl, run, by rw [State.itemSet_ws, WorkingSet.nat_setItem_self, State.itemSet_mdc]; omega⟩]

/-- The auto-park timer runs under its new figure where that is above 0 and the conditions hold (R41). -/
theorem State.itemSet_autoParkRuns : (s.itemSet q Item.autoParkS v).autoParkRuns = true ↔
    s.mdc.mode = .run ∧ 0 < v ∧ s.parkFailure = none ∧ s.mdc.lastNonNeutral = false := by
  unfold State.autoParkRuns
  simp only [State.itemSet_mdc, State.itemSet_ws, WorkingSet.nat_setItem_self, State.itemSet_parkFailure,
    Bool.and_eq_true, decide_eq_true_iff, Option.isNone_iff_eq_none, Bool.not_eq_true', Int.lt_toNat, Int.natCast_zero,
    and_assoc]
  exact and_congr_left fun _ => decide_eq_true_iff

/-- The auto-park timer has reached its new figure (R41). -/
theorem State.itemSet_parks (parks : i = Item.autoParkS ∧ 0 < v ∧ s.mdc.mode = .run ∧ s.parkFailure = none ∧
    s.mdc.lastNonNeutral = false ∧ v * 1000 ≤ s.mdc.autoParkMs) :
    (s.itemSet q i v).settingEnters i = some .park := by
  obtain ⟨rfl, above, run, holds, neutral, reached⟩ := parks
  have other : Item.autoParkS ≠ Item.silenceMs := by decide
  unfold State.settingEnters
  rw [if_neg fun silence => other silence.1, if_pos ⟨rfl, (s.itemSet_autoParkRuns q v).mpr ⟨run, above, holds, neutral⟩, by
    rw [State.itemSet_ws, WorkingSet.nat_setItem_self, State.itemSet_mdc]; omega⟩]

/-- Neither timer has reached its new figure. -/
theorem State.itemSet_stays (silent : ¬(i = Item.silenceMs ∧ s.mdc.mode = .run ∧ v ≤ s.mdc.silenceMs))
    (parks : ¬(i = Item.autoParkS ∧ 0 < v ∧ s.mdc.mode = .run ∧ s.parkFailure = none ∧
      s.mdc.lastNonNeutral = false ∧ v * 1000 ≤ s.mdc.autoParkMs)) :
    (s.itemSet q i v).settingEnters i = none := by
  unfold State.settingEnters
  rw [if_neg, if_neg]
  · rintro ⟨rfl, runs, reached⟩
    obtain ⟨run, above, holds, neutral⟩ := (s.itemSet_autoParkRuns q v).mp runs
    rw [State.itemSet_ws, WorkingSet.nat_setItem_self, State.itemSet_mdc] at reached
    exact parks ⟨rfl, above, run, holds, neutral, by omega⟩
  · rintro ⟨rfl, run, reached⟩
    rw [State.itemSet_ws, WorkingSet.nat_setItem_self, State.itemSet_mdc] at reached
    exact silent ⟨rfl, run, by omega⟩

end Written

/-- A still winch stands at a change of the mode from RUN to PARK (R157). -/
theorem Wnc.stopped_of_parkFailure {s : State} (holds : s.parkFailure = none) : s.wnc.state = .stopped := by
  unfold State.parkFailure at holds
  split_ifs at holds with moving winch
  all_goals exact Classical.not_not.mp winch

/-- The owner refuses a change of CELL_COUNT outside READY and PARK (R66), and of a trim during a search (R109). -/
theorem State.ownerRefuses_none {s : State} {i : Fin 78}
    (cells : i = Item.cellCount → s.mdc.mode = .ready ∨ s.mdc.mode = .park)
    (trims : 50 ≤ i.val → i.val ≤ 53 → s.stc.machine ≠ .search) : s.ownerRefuses i = none := by
  unfold State.ownerRefuses
  rw [if_neg, if_neg]
  · rintro ⟨trim, searches⟩
    simp only [isTrimItem, Bool.and_eq_true, decide_eq_true_eq] at trim
    exact trims trim.1 trim.2 searches
  · rintro ⟨isCells, notReady, notPark⟩
    exact (cells isCells).elim notReady notPark

theorem State.ownerRefuses_cells {s : State} {i : Fin 78} (cells : i = Item.cellCount) (notReady : s.mdc.mode ≠ .ready)
    (notPark : s.mdc.mode ≠ .park) : s.ownerRefuses i = some .badState := by
  unfold State.ownerRefuses
  rw [if_pos ⟨cells, notReady, notPark⟩]

theorem State.ownerRefuses_trims {s : State} {i : Fin 78} (low : 50 ≤ i.val) (high : i.val ≤ 53)
    (searches : s.stc.machine = .search) : s.ownerRefuses i = some .busy := by
  have trim : isTrimItem i = true := by simp [isTrimItem, low, high]
  unfold State.ownerRefuses
  rw [if_neg, if_pos ⟨trim, searches⟩]
  rintro ⟨rfl, -⟩
  exact absurd low (by decide)

/-- A SET that the store refuses. -/
theorem exec_set_refused {s : State} (serving : s.Serving) {tag id : Byte} {v : Word} {why : Status}
    (refused : ∀ q, s.admitted.serveSet q id v = s.admitted.refuse q why) :
    ∃ t, exec (.set tag id v) s = .next t ∧ s.sent t (replyFrame 0x30 tag why []) ∧ s.onlyLink t :=
  ⟨_, by rw [exec_set serving, refused], s.admitted_refuse _ _⟩

/-! ## An accepted SET (R179) -/

/-- The state after an accepted SET. -/
def State.afterSet (s : State) (q : RawRequest) (i : Fin 78) (v : Int) : State :=
  ((s.admitted.itemSet q i v).settingTakesEffect i).holdAutoPark

section Accepted
variable (s : State) (q : RawRequest) (i : Fin 78) (v : Int)

theorem State.afterSet_ws : (s.afterSet q i v).ws = s.ws.setItem i v := by
  unfold State.afterSet State.ws
  rw [State.holdAutoPark_sst, State.settingTakesEffect_sst]
  rfl

theorem State.afterSet_sent : s.sent (s.afterSet q i v) (replyFrame q.kind q.tag .ok []) := by
  unfold State.sent State.afterSet
  rw [State.holdAutoPark_link, State.settingTakesEffect_outgoing _ _ (s.admitted.itemSet_busy q i v)]
  exact s.admitted.itemSet_sent q i v

theorem State.afterSet_pkm :
    (s.afterSet q i v).pkm = if i = Item.cellCount then s.pkm.restartCounts else s.pkm := by
  unfold State.afterSet
  rw [State.holdAutoPark_pkm, State.settingTakesEffect_pkm]
  rfl

theorem State.afterSet_cau_other (other : isAllotItem i = false) : (s.afterSet q i v).cau = s.cau := by
  unfold State.afterSet
  rw [State.holdAutoPark_cau, State.settingTakesEffect_cau, other]
  rfl

/-- CAU recomputes where the item is one of its own (R75). -/
theorem State.afterSet_recomputes (own : isAllotItem i = true) : s.recomputes (s.afterSet q i v) := by
  have done := (s.admitted.itemSet q i v).recomputeCau_recomputes
  have cau : (s.afterSet q i v).cau = (s.admitted.itemSet q i v).recomputeCau.cau := by
    unfold State.afterSet
    rw [State.holdAutoPark_cau, State.settingTakesEffect_cau, own, if_pos rfl]
  have ws : (s.admitted.itemSet q i v).recomputeCau.ws = (s.afterSet q i v).ws := by
    rw [s.afterSet_ws, State.ws, State.recomputeCau_sst]
    rfl
  unfold State.recomputes State.grantRule at done ⊢
  rw [← cau, ws] at done
  exact done

theorem State.afterSet_axles : s.axlesFollowMode (s.afterSet q i v) := by
  have follows := (s.admitted.itemSet q i v).settingTakesEffect_axles i
  unfold State.axlesFollowMode at follows ⊢
  unfold State.afterSet
  rw [State.holdAutoPark_drc, State.holdAutoPark_mdc_mode, follows]
  rfl

theorem State.afterSet_changes :
    s.changesOnly (s.afterSet q i v) [.queue, .output, .mode, .timers, .pkm, .cau, .drc, .wnc, .working] := by
  refine State.changesOnly_parked (State.changesOnly_trans (State.changesOnly_trans
    (State.changesOnly_mono s.admitted_changes (by simp))
    (State.changesOnly_mono (s.admitted.itemSet_changes q i v) (by simp)))
    (State.changesOnly_mono (State.settingTakesEffect_changes _ i) (by simp))) (by simp)

/-- A setting that brings about a mode (R37, R41). -/
theorem State.afterSet_enters {m : VehicleMode} (enters : (s.admitted.itemSet q i v).settingEnters i = some m) :
    s.afterSet q i v = ((s.admitted.itemSet q i v).setMode m).holdAutoPark := by
  rw [State.afterSet, State.settingTakesEffect_eq, enters]

/-- A setting that brings about none. -/
theorem State.afterSet_stays (stays : (s.admitted.itemSet q i v).settingEnters i = none) :
    s.afterSet q i v = ((s.admitted.itemSet q i v).settingActs i).holdAutoPark := by
  rw [State.afterSet, State.settingTakesEffect_eq, stays]

/-- The mode that a setting brings about, the winch, and the MODE notice (R29, R37, R41, R157). -/
theorem State.afterSet_mode {m : VehicleMode} (enters : (s.admitted.itemSet q i v).settingEnters i = some m)
    (mask : i ≠ Item.noticeMask) :
    (s.afterSet q i v).mdc = { s.mdc.enter (s.ws.setItem i v) m with
        autoParkMs := (s.afterSet q i v).mdc.autoParkMs } ∧
      (s.afterSet q i v).wnc =
        (if s.wnc.state.moves = true then s.wnc.endByLoad (s.ws.setItem i v) true else s.wnc) ∧
      (s.ws.notices .mode = true →
        (s.afterSet q i v).noticed (.mode ⟨m, .run, s.mdc.wakeSet, s.mdc.wakeFirst⟩)) := by
  obtain ⟨run, into⟩ := State.settingEnters_some enters
  have run : s.mdc.mode = .run := run
  have other : (s.admitted.itemSet q i v).mdc.mode ≠ m := by
    change s.mdc.mode ≠ m
    rw [run]
    rintro rfl
    exact into.elim (by decide) (by decide)
  have away : m ≠ .run ∧ m ≠ .shutdown := by
    obtain rfl | rfl := into <;> decide
  have mdc : ((s.admitted.itemSet q i v).setMode m).mdc = s.mdc.enter (s.ws.setItem i v) m := by
    rw [State.setMode_setting enters, State.modeEntered_mdc]
    rfl
  rw [s.afterSet_enters q i v enters]
  refine ⟨?_, ?_, fun inMask => ?_⟩
  · rw [State.holdAutoPark_mdc, mdc]
  · rw [State.holdAutoPark_wnc, State.setMode_wnc other]
    simp only [away.1, away.2, false_and, if_false, ne_eq, not_false_eq_true, true_and]
    rfl
  · refine State.noticed_of_link (State.holdAutoPark_link _) ?_
    obtain ⟨-, -, told⟩ := (s.admitted.itemSet q i v).setMode_followed m
    have inMask : ((s.admitted.itemSet q i v).setMode m).ws.notices .mode = true := by
      rw [State.ws, State.setMode_sst]
      change (s.ws.setItem i v).notices .mode = true
      rwa [WorkingSet.notices, WorkingSet.nat_setItem_of_ne i v s.ws mask.symm]
    rw [State.modeNoticed, State.setMode_mode, mdc] at told
    have told := told other.symm inMask
    rwa [State.itemSet_mdc, show s.admitted.mdc.mode = VehicleMode.run from run] at told

/-- The silence timer has reached its new figure (R37). -/
theorem State.afterSet_silent (silent : i = Item.silenceMs ∧ s.mdc.mode = .run ∧ v ≤ s.mdc.silenceMs) :
    (s.afterSet q i v).mdc.mode = .failsafe ∧ (s.afterSet q i v).mdc.resumeCount = 0 ∧
      (s.afterSet q i v).mdc.silenceMs = 0 ∧
      (s.ws.notices .mode = true →
        (s.afterSet q i v).noticed (.mode ⟨.failsafe, .run, s.mdc.wakeSet, s.mdc.wakeFirst⟩)) ∧
      (s.afterSet q i v).wnc = if s.wnc.state.moves then
        { s.wnc with state := idleState s.ws s.wnc.load, duty := 0, demand := 0, jamMs := 0, rearm := true }
        else s.wnc := by
  have enters := s.admitted.itemSet_silent q i v silent
  obtain ⟨rfl, -, -⟩ := silent
  obtain ⟨mdc, wnc, told⟩ := s.afterSet_mode q Item.silenceMs v enters (by decide)
  refine ⟨by rw [mdc]; rfl, by rw [mdc]; rfl, by rw [mdc]; rfl, told, ?_⟩
  rw [wnc, Wnc.endByLoad, Wnc.byLoad, WorkingSet.nat_setItem_of_ne _ v s.ws (by decide)]
  rfl

/-- The auto-park timer has reached its new figure (R41). -/
theorem State.afterSet_parks (parks : i = Item.autoParkS ∧ 0 < v ∧ s.mdc.mode = .run ∧ s.parkFailure = none ∧
    s.mdc.lastNonNeutral = false ∧ v * 1000 ≤ s.mdc.autoParkMs) :
    (s.afterSet q i v).mdc.mode = .park ∧ (s.afterSet q i v).mdc.motionCount = 0 ∧ (s.afterSet q i v).wnc = s.wnc ∧
      (s.afterSet q i v).mdc.parkTimer =
        (if s.ws.nat Item.parkTimerS = 0 then none else some (s.ws.nat Item.parkTimerS * 1000)) ∧
      (s.ws.notices .mode = true →
        (s.afterSet q i v).noticed (.mode ⟨.park, .run, s.mdc.wakeSet, s.mdc.wakeFirst⟩)) := by
  have enters := s.admitted.itemSet_parks q i v parks
  obtain ⟨rfl, -, -, holds, -, -⟩ := parks
  obtain ⟨mdc, wnc, told⟩ := s.afterSet_mode q Item.autoParkS v enters (by decide)
  refine ⟨by rw [mdc]; rfl, by rw [mdc]; rfl, ?_, ?_, told⟩
  · rw [wnc, Wnc.stopped_of_parkFailure holds]
    rfl
  · have timer : (s.afterSet q Item.autoParkS v).mdc.parkTimer =
        (s.mdc.enter (s.ws.setItem Item.autoParkS v) .park).parkTimer := by rw [mdc]
    rw [timer, Mdc.enter, WorkingSet.nat_setItem_of_ne _ v s.ws (by decide)]
    by_cases never : s.ws.nat Item.parkTimerS = 0 <;> simp [never, Nat.pos_iff_ne_zero]

/-- Neither timer has reached its new figure: modes and winch stand, and no notice is raised. -/
theorem State.afterSet_still (silent : ¬(i = Item.silenceMs ∧ s.mdc.mode = .run ∧ v ≤ s.mdc.silenceMs))
    (parks : ¬(i = Item.autoParkS ∧ 0 < v ∧ s.mdc.mode = .run ∧ s.parkFailure = none ∧
      s.mdc.lastNonNeutral = false ∧ v * 1000 ≤ s.mdc.autoParkMs)) :
    (s.afterSet q i v).mdc =
        { s.mdc with autoParkMs := if (s.afterSet q i v).autoParkRuns then s.mdc.autoParkMs else 0 } ∧
      (s.afterSet q i v).wnc = s.wnc ∧
      (i ≠ Item.noticeMask → (s.afterSet q i v).link.notices = s.link.notices) := by
  rw [s.afterSet_stays q i v (s.admitted.itemSet_stays q i v silent parks)]
  refine ⟨?_, ?_, fun other => ?_⟩
  · rw [State.holdAutoPark_autoParkRuns, State.holdAutoPark_mdc, State.settingActs_mdc]
    rfl
  · rw [State.holdAutoPark_wnc, State.settingActs_wnc]
    rfl
  · rw [State.holdAutoPark_link, State.settingActs_link _ _ other, State.itemSet_notices]
    rfl

/-- A new NOTICE_MASK removes the pending notices that it leaves out (R10). -/
theorem State.afterSet_noticeMask (k : NoticeKind) :
    (s.afterSet q Item.noticeMask v).link.notices.get k =
      if (s.afterSet q Item.noticeMask v).ws.notices k then s.link.notices.get k else none := by
  have stays : (s.admitted.itemSet q Item.noticeMask v).settingEnters Item.noticeMask = none := by
    unfold State.settingEnters
    rw [if_neg fun silence => absurd silence.1 (by decide), if_neg fun park => absurd park.1 (by decide)]
  rw [s.afterSet_ws, s.afterSet_stays q _ v stays, State.holdAutoPark_link]
  have pruned : ((s.admitted.itemSet q Item.noticeMask v).settingActs Item.noticeMask).link.notices =
      (s.admitted.itemSet q Item.noticeMask v).link.notices.keep (s.ws.setItem Item.noticeMask v).notices := rfl
  rw [pruned, NoticeSet.get_keep, State.itemSet_notices]
  rfl

/-- AUTO_PARK_S of 0 stops the auto-park timer (R41). -/
theorem State.afterSet_autoPark_zero : (s.afterSet q Item.autoParkS 0).mdc.autoParkMs = 0 := by
  obtain ⟨mdc, -, -⟩ := s.afterSet_still q Item.autoParkS 0 (fun silent => absurd silent.1 (by decide))
    (fun parks => absurd parks.2.1 (by decide))
  have stopped : (s.afterSet q Item.autoParkS 0).autoParkRuns = false := by
    unfold State.autoParkRuns
    rw [State.afterSet_ws, WorkingSet.nat_setItem_self]
    simp
  rw [mdc, stopped]
  rfl

end Accepted

/-- A SET that passes the five tests is accepted (R179). -/
theorem exec_set_accepted {s : State} (serving : s.Serving) (tag : Byte) {i : Fin 78} {spec : ItemSpec} {v : Word}
    (row : itemSpec i.val = some spec) (free : s.sst.store ≠ .writing) (admits : spec.allowed.admits v.toInt = true)
    (ordered : (s.ws.setItem i v.toInt).ordered = true) (owner : s.ownerRefuses i = none) :
    exec (.set tag (BitVec.ofNat 8 i.val) v) s =
      .next (s.afterSet ⟨0x30, tag, [BitVec.ofNat 8 i.val] ++ word v⟩ i v.toInt) := by
  have sameFree : s.admitted.sst.store ≠ .writing := free
  have sameOrder : (s.admitted.ws.setItem i v.toInt).ordered = true := ordered
  have sameOwner : s.admitted.ownerRefuses i = none := owner
  rw [exec_set serving, State.serveSet_known _ _ v row, if_neg sameFree, admits, sameOrder, sameOwner]
  rfl

/-- Settles O52: GET reads, and a SET is refused by the first test that fails, or written and taken up. -/
theorem setWritesAndGetReads : Obligations.SetWritesAndGetReads := by
  intro s tag i spec v serving row
  have known := fun q => s.admitted.serveSet_known q v row
  have owner : s.admitted.ownerRefuses i = s.ownerRefuses i := rfl
  rw [show s.admitted.sst.store = s.sst.store from rfl, show s.admitted.ws = s.ws from rfl, owner] at known
  refine ⟨⟨_, exec_get serving tag _, ?_⟩, fun id none => ⟨_, exec_get serving tag id, ?_⟩, fun writing => ?_,
    fun free outside => ?_, fun free id none => ?_, fun free inside order => ?_, fun free inside order cells notReady notPark => ?_,
    fun free inside order low high searches => ?_, fun free inside order cells trims => ?_⟩
  · rw [State.serveGet_known _ _ row]
    exact s.admitted_ok _ _
  · rw [State.serveGet_unknown _ _ none]
    exact s.admitted_refuse _ _
  · exact exec_set_refused serving fun q => by rw [known, if_pos writing]
  · exact exec_set_refused serving fun q => by rw [known, if_neg free, if_pos outside]
  · exact exec_set_refused serving fun q => State.serveSet_unknown _ _ _ free none
  · exact exec_set_refused serving fun q => by
      rw [known, if_neg free, inside, if_neg Bool.noConfusion, if_pos order]
  · exact exec_set_refused serving fun q => by
      rw [known, if_neg free, inside, if_neg Bool.noConfusion, order, if_neg Bool.noConfusion,
        State.ownerRefuses_cells cells notReady notPark]
  · exact exec_set_refused serving fun q => by
      rw [known, if_neg free, inside, if_neg Bool.noConfusion, order, if_neg Bool.noConfusion,
        State.ownerRefuses_trims low high searches]
  · refine ⟨_, exec_set_accepted serving tag row free inside order (State.ownerRefuses_none cells trims), ?_⟩
    have ws := fun q => s.afterSet_ws q i v.toInt
    refine ⟨by rw [ws, WorkingSet.int_setItem_self], fun j other => ?_, by rw [ws]; rfl, by rw [ws]; rfl,
      by rw [ws]; rfl, by rw [ws]; rfl, s.afterSet_sent _ i _, ?_,
      ⟨s.afterSet_silent _ i _, s.afterSet_parks _ i _, s.afterSet_still _ i _⟩, ?_, fun isCells => ?_,
      fun notCells => ?_, fun allot => ?_, fun notAllot => ?_, s.afterSet_axles _ i _, s.afterSet_changes _ i _⟩
    · rw [ws, WorkingSet.int_setItem_of_ne _ _ other]
    · rintro rfl
      exact s.afterSet_noticeMask _ _
    · rintro rfl zero
      rw [zero]
      exact s.afterSet_autoPark_zero _
    · rw [State.countsRestart, s.afterSet_pkm, if_pos isCells]
      rfl
    · rw [s.afterSet_pkm, if_neg notCells]
    · exact s.afterSet_recomputes _ i _ (by simpa [isAllotItem, and_assoc] using allot)
    · refine s.afterSet_cau_other _ i _ (Bool.eq_false_iff.mpr fun allot => notAllot ?_)
      simpa [isAllotItem, and_assoc] using allot

end Sys2Proof.Machine
end

section
/-! PROOF. Loading and defaults (R175, R182): the map that LMP derives, the generators it restarts, and what the blocks
take up. -/
namespace Sys2Proof.Machine

/-! ## Giving spares one after another (R174, R175) -/

theorem mem_functionIds : ∀ f : FunctionId, f ∈ functionIds := by decide

theorem nodup_functionIds : functionIds.Nodup := by decide

theorem nodup_channelIds : channelIds.Nodup := by decide

/-- A channel is a spare where the failed set leaves it out and the map gives it to none (R165). -/
theorem WorkingSet.spare_iff (w : WorkingSet) (c : ChannelId) :
    w.spare c = true ↔ w.failed[c] = false ∧ ∀ f : FunctionId, w.map[f] ≠ some c := by
  simp [WorkingSet.spare, WorkingSet.carried, mem_functionIds]

/-- The spares of a working set, in channel order. -/
theorem WorkingSet.filter_spare (w : WorkingSet) : channelIds.filter w.spare = sparesOf w.map w.failed := by
  unfold sparesOf
  congr 1
  funext c
  rw [Bool.eq_iff_iff, WorkingSet.spare_iff]
  simp [mem_functionIds]

/-- The lowest spare is the first of them. -/
theorem WorkingSet.lowestSpare_eq (w : WorkingSet) : w.lowestSpare = (sparesOf w.map w.failed).head? := by
  rw [WorkingSet.lowestSpare, ← List.head?_filter, WorkingSet.filter_spare]

theorem WorkingSet.mapTo_self (w : WorkingSet) (f : FunctionId) (c : Option ChannelId) : (w.mapTo f c).map[f] = c := by
  simp [WorkingSet.mapTo]

theorem WorkingSet.mapTo_other (w : WorkingSet) {f g : FunctionId} (c : Option ChannelId) (other : g ≠ f) :
    (w.mapTo f c).map[g] = w.map[g] :=
  Vector.getElem_set_ne f.isLt g.isLt fun e => other (Fin.ext e.symm)

/-- A DARK function that takes the first spare leaves the others (R165). -/
theorem WorkingSet.sparesOf_mapTo {w : WorkingSet} {f : FunctionId} {c : ChannelId} {rest : List ChannelId}
    (dark : w.map[f] = none) (spares : sparesOf w.map w.failed = c :: rest) :
    sparesOf (w.mapTo f (some c)).map (w.mapTo f (some c)).failed = rest := by
  have ordered : (c :: rest).Nodup := by
    rw [← spares, ← WorkingSet.filter_spare]
    exact nodup_channelIds.filter _
  have left : ∀ d, (w.mapTo f (some c)).spare d = (decide (d ≠ c) && w.spare d) := by
    intro d
    rw [Bool.eq_iff_iff, Bool.and_eq_true, decide_eq_true_eq, WorkingSet.spare_iff, WorkingSet.spare_iff]
    constructor
    · rintro ⟨works, free⟩
      refine ⟨fun same => free f ?_, works, fun g carries => ?_⟩
      · rw [WorkingSet.mapTo_self, same]
      · have other : g ≠ f := by rintro rfl; rw [dark] at carries; cases carries
        exact free g (by rw [WorkingSet.mapTo_other w _ other, carries])
    · rintro ⟨other, works, free⟩
      refine ⟨works, fun g => ?_⟩
      by_cases same : g = f
      · subst same
        rw [WorkingSet.mapTo_self]
        exact fun e => other (Option.some.inj e).symm
      · rw [WorkingSet.mapTo_other w _ same]
        exact free g
  rw [← WorkingSet.filter_spare, funext left, ← List.filter_filter, WorkingSet.filter_spare, spares,
    List.filter_cons_of_neg (by simp)]
  refine List.filter_eq_self.mpr fun d hd => decide_eq_true fun same => ?_
  exact (List.nodup_cons.mp ordered).1 (same ▸ hd)

/-- The record of a function allows it a spare (R165). -/
def WorkingSet.mayMove (w : WorkingSet) (f : FunctionId) : Bool := (w.functions[f]).remap

/-- A function whose record forbids it takes no spare. -/
theorem WorkingSet.giveSpare_fixed {w : WorkingSet} {f : FunctionId} (fixed : w.mayMove f = false) :
    w.giveSpare f = w := by
  rw [WorkingSet.giveSpare, show (w.functions[f]).remap = false from fixed, if_neg Bool.false_ne_true]

/-- One whose record allows it takes the first, if there is one. -/
theorem WorkingSet.giveSpare_moves {w : WorkingSet} {f : FunctionId} (moves : w.mayMove f = true) :
    w.giveSpare f = match sparesOf w.map w.failed with
      | [] => w
      | c :: _ => w.mapTo f (some c) := by
  rw [WorkingSet.giveSpare, show (w.functions[f]).remap = true from moves, if_pos rfl, WorkingSet.lowestSpare_eq]
  cases sparesOf w.map w.failed <;> rfl

/-- DARK functions that take spares one after another: each whose record allows it takes the spare at its own place
(R175). -/
theorem WorkingSet.foldl_giveSpare_map (fs : List FunctionId) : ∀ w : WorkingSet, fs.Nodup →
    (∀ f ∈ fs, w.map[f] = none) → ∀ f : FunctionId, (fs.foldl WorkingSet.giveSpare w).map[f] =
      if f ∈ fs ∧ w.mayMove f = true then (sparesOf w.map w.failed)[(fs.filter w.mayMove).idxOf f]? else w.map[f] := by
  induction fs with
  | nil => exact fun w _ _ f => (if_neg fun h => absurd h.1 List.not_mem_nil).symm
  | cons a fs ih =>
    intro w distinct dark f
    obtain ⟨fresh, distinct⟩ := List.nodup_cons.mp distinct
    have darkA := dark a List.mem_cons_self
    have darkRest : ∀ g ∈ fs, w.map[g] = none := fun g hg => dark g (List.mem_cons_of_mem _ hg)
    rw [List.foldl_cons]
    cases moves : w.mayMove a with
    | false =>
      rw [WorkingSet.giveSpare_fixed moves, ih w distinct darkRest, List.filter_cons_of_neg (by rw [moves]; decide)]
      by_cases isA : f = a
      · subst isA
        rw [if_neg fun h => fresh h.1, if_neg fun h => Bool.false_ne_true (moves.symm.trans h.2)]
      · simp only [List.mem_cons, isA, false_or]
    | true =>
      rw [WorkingSet.giveSpare_moves moves, List.filter_cons_of_pos moves]
      cases spares : sparesOf w.map w.failed with
      | nil =>
        rw [ih w distinct darkRest, spares]
        by_cases isA : f = a
        · subst isA
          rw [if_neg fun h => fresh h.1, if_pos ⟨List.mem_cons_self, moves⟩, List.getElem?_nil, darkA]
        · simp only [List.mem_cons, isA, false_or, List.getElem?_nil]
      | cons c rest =>
        have stillDark : ∀ g ∈ fs, (w.mapTo a (some c)).map[g] = none := by
          intro g hg
          have other : g ≠ a := by rintro rfl; exact fresh hg
          rw [WorkingSet.mapTo_other w _ other, darkRest g hg]
        have records : (w.mapTo a (some c)).mayMove = w.mayMove := rfl
        dsimp only
        rw [ih _ distinct stillDark, WorkingSet.sparesOf_mapTo darkA spares, records]
        by_cases isA : f = a
        · subst isA
          rw [if_neg fun h => fresh h.1, if_pos ⟨List.mem_cons_self, moves⟩, List.idxOf_cons_self,
            WorkingSet.mapTo_self, List.getElem?_cons_zero]
        · rw [WorkingSet.mapTo_other w _ isA, List.idxOf_cons_ne _ fun e => isA e.symm]
          simp only [List.mem_cons, isA, false_or, List.getElem?_cons_succ]

/-! ## The working set that LMP derives (R175) -/

section Rederive
variable (old w : WorkingSet)

theorem joinFailed_get (ch : ChannelId) : (joinFailed old w)[ch] = (w.failed[ch] || old.failed[ch]) := by
  simp [joinFailed]

/-- The spares go to the functions that a failed set leaves without a channel. -/
theorem mappedToFailed_eq (failed : Vector Bool 12) (f : FunctionId) :
    mappedToFailed w failed f = w.homeless failed f := by
  unfold mappedToFailed WorkingSet.homeless
  cases w.map[f] <;> rfl

theorem displaced_eq : displaced old w = functionIds.filter (w.homeless (joinFailed old w)) := by
  unfold displaced
  congr 1
  funext f
  exact mappedToFailed_eq _ _ _

/-- The working set with the functions of failed channels DARK, before they take spares. -/
def darkened (failed : Vector Bool 12) : WorkingSet :=
  { w with
    failed := failed
    map := Vector.ofFn fun f : Fin 10 => if w.homeless failed f then none else w.map[f] }

theorem darkened_map (failed : Vector Bool 12) (f : FunctionId) :
    (darkened w failed).map[f] = if w.homeless failed f then none else w.map[f] := by
  simp [darkened]

/-- A function of a failed channel gives no spare back. -/
theorem sparesOf_darkened (failed : Vector Bool 12) :
    sparesOf (darkened w failed).map failed = sparesOf w.map failed := by
  unfold sparesOf
  refine List.filter_congr fun c _ => ?_
  cases works : failed[c] with
  | true => rfl
  | false =>
    congr 1
    refine List.all_congr rfl fun f => ?_
    refine decide_eq_decide.mpr ?_
    rw [darkened_map]
    by_cases away : w.homeless failed f = true
    · have other : w.map[f] ≠ some c := by
        intro carries
        rw [WorkingSet.homeless, carries, Option.any_some, works] at away
        cases away
      rw [if_pos away]
      exact ⟨fun _ => other, fun _ => by simp⟩
    · rw [if_neg away]

theorem rederive_eq : rederive old w =
    (displaced old w).foldl WorkingSet.giveSpare (darkened w (joinFailed old w)) := by
  refine congrArg (fun map => (displaced old w).foldl WorkingSet.giveSpare
    { w with failed := joinFailed old w, map := map }) (congrArg Vector.ofFn (funext fun f => ?_))
  rw [← mappedToFailed_eq]
  cases mappedToFailed w (joinFailed old w) f <;> rfl

/-- Giving spares changes the map alone. -/
theorem foldl_giveSpare_rest (fs : List FunctionId) (v : WorkingSet) :
    (fs.foldl WorkingSet.giveSpare v).items = v.items ∧ (fs.foldl WorkingSet.giveSpare v).functions = v.functions ∧
      (fs.foldl WorkingSet.giveSpare v).gens = v.gens ∧ (fs.foldl WorkingSet.giveSpare v).failed = v.failed := by
  induction fs generalizing v with
  | nil => exact ⟨rfl, rfl, rfl, rfl⟩
  | cons f fs ih => simpa using ih (v.giveSpare f)

theorem rederive_items : (rederive old w).items = w.items := by
  rw [rederive_eq]; exact (foldl_giveSpare_rest _ _).1

theorem rederive_functions : (rederive old w).functions = w.functions := by
  rw [rederive_eq]; exact (foldl_giveSpare_rest _ _).2.1

theorem rederive_gens : (rederive old w).gens = w.gens := by
  rw [rederive_eq]; exact (foldl_giveSpare_rest _ _).2.2.1

theorem rederive_failed : (rederive old w).failed = joinFailed old w := by
  rw [rederive_eq]; exact (foldl_giveSpare_rest _ _).2.2.2

/-- The derived map: a function whose channel is in the joined failed set has the spare at its place, or none (R175). -/
theorem rederive_map (f : FunctionId) :
    let homeless := w.homeless (joinFailed old w)
    (rederive old w).map[f] =
      if homeless f then spareFor w.functions homeless (sparesOf w.map (joinFailed old w)) f else w.map[f] := by
  intro homeless
  have records : (darkened w (joinFailed old w)).mayMove = w.mayMove := rfl
  have distinct : (displaced old w).Nodup := by
    rw [displaced_eq]; exact nodup_functionIds.filter _
  have member : ∀ g, g ∈ displaced old w ↔ homeless g = true := by
    intro g
    rw [displaced_eq, List.mem_filter]
    exact and_iff_right (mem_functionIds g)
  have dark : ∀ g ∈ displaced old w, (darkened w (joinFailed old w)).map[g] = none := by
    intro g hg
    rw [darkened_map, if_pos ((member g).mp hg)]
  have places : (displaced old w).filter w.mayMove = functionIds.filter fun g => homeless g && (w.functions[g]).remap := by
    rw [displaced_eq, List.filter_filter]
    exact List.filter_congr fun g _ => Bool.and_comm _ _
  have spares : sparesOf (darkened w (joinFailed old w)).map (darkened w (joinFailed old w)).failed =
      sparesOf w.map (joinFailed old w) := sparesOf_darkened w _
  rw [rederive_eq, WorkingSet.foldl_giveSpare_map _ _ distinct dark f, records, spares, places]
  unfold spareFor
  by_cases away : homeless f = true
  · rw [if_pos away]
    by_cases moves : w.mayMove f = true
    · rw [if_pos ⟨(member f).mpr away, moves⟩, if_pos (show (w.functions[f]).remap = true from moves)]
    · rw [if_neg fun h => moves h.2, if_neg (show ¬(w.functions[f]).remap = true from moves),
        dark f ((member f).mpr away)]
  · rw [if_neg away, if_neg fun h => away ((member f).mp h.1), darkened_map, if_neg away]

end Rederive

/-! ## Generators that restart (R167, R175) -/

/-- A running generator whose record is not the old one (R175). -/
def State.restarts (s : State) (old : WorkingSet) (g : GenId) : Prop :=
  (s.lmp.gens.get g).running = true ∧ s.ws.gens.get g ≠ old.gens.get g

theorem PerGen.get_put_self {α : Type} (t : PerGen α) (g : GenId) (x : α) : (t.put g x).get g = x := by
  cases g <;> rfl

theorem PerGen.get_put_other {α : Type} (t : PerGen α) {g k : GenId} (x : α) (other : k ≠ g) :
    (t.put g x).get k = t.get k := by
  cases g <;> cases k <;> first | rfl | exact absurd rfl other

/-- A channel after an ON edge of a generator (R167). -/
theorem State.onEdge_channel (s : State) (g : GenId) (ch : ChannelId) :
    (s.onEdge g).lmp.channels[ch] =
      if s.drivenBy g ch = true then (s.lmp.channels[ch]).onEdge else s.lmp.channels[ch] := by
  simp [State.onEdge, Lmp.mapChannels]

/-- An ON edge leaves which generator drives a channel (log 24). -/
theorem State.onEdge_drivenBy (s : State) (g k : GenId) (ch : ChannelId) :
    (s.onEdge g).drivenBy k ch = s.drivenBy k ch := by
  unfold State.drivenBy
  rw [State.onEdge_channel]
  split <;> rfl

/-- What restarting a list of generators does to LMP. -/
structure State.RestartsTo (s : State) (old : WorkingSet) (gs : List GenId) (t : State) : Prop where
  hit : ∀ g ∈ gs, s.restarts old g → t.lmp.gens.get g = { running := true, on := true, ms := 0 }
  missed : ∀ g, ¬(g ∈ gs ∧ s.restarts old g) → t.lmp.gens.get g = s.lmp.gens.get g
  relit : ∀ ch : ChannelId, (∃ g ∈ gs, s.drivenBy g ch = true ∧ s.restarts old g) →
    t.lmp.channels[ch] = (s.lmp.channels[ch]).onEdge
  stands : ∀ ch : ChannelId, (¬∃ g ∈ gs, s.drivenBy g ch = true ∧ s.restarts old g) →
    t.lmp.channels[ch] = s.lmp.channels[ch]
  rest : t.lmp = { s.lmp with channels := t.lmp.channels, gens := t.lmp.gens }

theorem State.RestartsTo.congr {s t u : State} {old : WorkingSet} {gs : List GenId} (same : u.lmp = t.lmp)
    (h : s.RestartsTo old gs t) : s.RestartsTo old gs u := by
  obtain ⟨hit, missed, relit, stands, rest⟩ := h
  rw [← same] at hit missed relit stands rest
  exact ⟨hit, missed, relit, stands, rest⟩

/-- One generator restarts before the others. -/
theorem State.RestartsTo.cons {s t : State} {old : WorkingSet} {g : GenId} {gs : List GenId} (fresh : g ∉ gs)
    (restarts : s.restarts old g) (after : (s.onEdge g).RestartsTo old gs t) : s.RestartsTo old (g :: gs) t := by
  have gens : ∀ k, k ≠ g → (s.onEdge g).lmp.gens.get k = s.lmp.gens.get k := fun k other =>
    PerGen.get_put_other _ _ other
  have same : ∀ k, k ≠ g → ((s.onEdge g).restarts old k ↔ s.restarts old k) := by
    intro k other
    unfold State.restarts
    rw [gens k other]
    rfl
  have others : ∀ ch, (∃ k ∈ gs, (s.onEdge g).drivenBy k ch = true ∧ (s.onEdge g).restarts old k) ↔
      ∃ k ∈ gs, s.drivenBy k ch = true ∧ s.restarts old k := by
    intro ch
    refine exists_congr fun k => and_congr_right fun member => ?_
    rw [State.onEdge_drivenBy, same k fun e => fresh (e ▸ member)]
  refine ⟨fun k member restartsK => ?_, fun k outside => ?_, fun ch driven => ?_, fun ch dark => ?_, ?_⟩
  · by_cases isG : k = g
    · subst isG
      rw [after.missed k fun h => fresh h.1]
      exact PerGen.get_put_self _ _ _
    · exact after.hit k ((List.mem_cons.mp member).resolve_left isG) ((same k isG).mpr restartsK)
  · have other : k ≠ g := by rintro rfl; exact outside ⟨List.mem_cons_self, restarts⟩
    rw [after.missed k fun h => outside ⟨List.mem_cons_of_mem _ h.1, (same k other).mp h.2⟩, gens k other]
  · by_cases later : ∃ k ∈ gs, (s.onEdge g).drivenBy k ch = true ∧ (s.onEdge g).restarts old k
    · rw [after.relit ch later, State.onEdge_channel]
      split <;> rfl
    · have byG : s.drivenBy g ch = true := by
        obtain ⟨k, member, drives, restartsK⟩ := driven
        obtain rfl | member := List.mem_cons.mp member
        · exact drives
        · exact absurd ((others ch).mpr ⟨k, member, drives, restartsK⟩) later
      rw [after.stands ch later, State.onEdge_channel, if_pos byG]
  · have notByG : s.drivenBy g ch ≠ true := fun drives => dark ⟨g, List.mem_cons_self, drives, restarts⟩
    have notLater : ¬∃ k ∈ gs, (s.onEdge g).drivenBy k ch = true ∧ (s.onEdge g).restarts old k := by
      rw [others ch]
      rintro ⟨k, member, driven⟩
      exact dark ⟨k, List.mem_cons_of_mem _ member, driven⟩
    rw [after.stands ch notLater, State.onEdge_channel, if_neg notByG]
  · rw [after.rest]
    rfl

/-- A generator that does not restart before the others. -/
theorem State.RestartsTo.skip {s t : State} {old : WorkingSet} {g : GenId} {gs : List GenId}
    (stays : ¬s.restarts old g) (after : s.RestartsTo old gs t) : s.RestartsTo old (g :: gs) t := by
  have others : ∀ ch, (∃ k ∈ g :: gs, s.drivenBy k ch = true ∧ s.restarts old k) ↔
      ∃ k ∈ gs, s.drivenBy k ch = true ∧ s.restarts old k := by
    intro ch
    constructor
    · rintro ⟨k, member, driven⟩
      obtain rfl | member := List.mem_cons.mp member
      · exact absurd driven.2 stays
      · exact ⟨k, member, driven⟩
    · rintro ⟨k, member, driven⟩
      exact ⟨k, List.mem_cons_of_mem _ member, driven⟩
  refine ⟨fun k member restarts => ?_, fun k outside => ?_, fun ch driven => ?_, fun ch dark => ?_, after.rest⟩
  · obtain rfl | member := List.mem_cons.mp member
    · exact absurd restarts stays
    · exact after.hit k member restarts
  · exact after.missed k fun h => outside ⟨List.mem_cons_of_mem _ h.1, h.2⟩
  · exact after.relit ch ((others ch).mp driven)
  · exact after.stands ch fun driven => dark ((others ch).mpr driven)

/-- Every running generator whose record changed restarts at ON, and lights its channels (R175). -/
theorem State.restartGens_restarts (s : State) (old : WorkingSet) : s.RestartsTo old genIds (s.restartGens old) := by
  have distinct : genIds.Nodup := by decide
  unfold State.restartGens
  revert distinct
  generalize genIds = gs
  induction gs generalizing s with
  | nil =>
    exact fun _ => ⟨fun g h => absurd h List.not_mem_nil, fun _ _ => rfl,
      fun ch ⟨g, h, _⟩ => absurd h List.not_mem_nil, fun _ _ => rfl, rfl⟩
  | cons g gs ih =>
    intro distinct
    obtain ⟨fresh, distinct⟩ := List.nodup_cons.mp distinct
    rw [List.foldl_cons]
    by_cases restarts : s.restarts old g
    · rw [if_pos (show _ ∧ _ from restarts)]
      exact State.RestartsTo.cons fresh restarts (ih _ distinct)
    · rw [if_neg (show ¬(_ ∧ _) from restarts)]
      exact State.RestartsTo.skip restarts (ih _ distinct)

/-! ## LMP takes up a working set (R175) -/

/-- After a remap a channel whose function stands has its record, and one whose function changed is driven by none
(R165). -/
theorem State.remap_drivenBy (s : State) (w : WorkingSet) (g : GenId) (ch : ChannelId) :
    (s.remap w).drivenBy g ch = (decide (s.ws.carried ch = w.carried ch) && s.drivenBy g ch) := by
  unfold State.drivenBy
  rw [State.remap_channel]
  by_cases same : s.ws.carried ch = w.carried ch
  · rw [if_pos same, decide_eq_true same, Bool.true_and]
  · rw [if_neg same, decide_eq_false same, Bool.false_and]
    rfl

/-- Pruning leaves a raised notice whose kind is in NOTICE_MASK (R10). -/
theorem State.noticed_pruneNotices {s : State} {n : Notice} (inMask : s.ws.notices n.kind = true) (h : s.noticed n) :
    s.pruneNotices.noticed n := by
  obtain pending | sent := h
  · refine .inl ?_
    rw [State.pruneNotices, State.setLink_link, NoticeSet.get_keep, if_pos inMask, pending]
  · exact .inr sent

section Replace
variable (s : State) (w : WorkingSet)

theorem mem_genIds (g : GenId) : g ∈ genIds := by cases g <;> decide

/-- Replacing the working set leaves what LMP and the settings are once LMP has taken it up (R182). -/
theorem State.replaceWorking_lmp : (s.replaceWorking w).lmp = (s.rederiveLamps w).lmp ∧
    (s.replaceWorking w).ws = rederive s.ws w := by
  obtain ⟨-, -, -, -, working⟩ := s.rederiveLamps_rest w
  have settings : (s.rederiveLamps w).pruneNotices.recomputeCau.ws = rederive s.ws w := by
    rw [State.ws, State.recomputeCau_sst]
    exact working
  unfold State.replaceWorking
  dsimp only
  split
  · exact ⟨State.recomputeCau_lmp _, settings⟩
  · exact ⟨State.recomputeCau_lmp _, settings⟩

/-- LMP's part of a re-derivation: the remap and the restarts (R175). -/
theorem State.rederiveLamps_lmp :
    (s.rederiveLamps w).lmp = ((s.remap (rederive s.ws w)).restartGens s.ws).lmp := by
  unfold State.rederiveLamps
  split <;> rfl

/-- A re-derivation that leaves a function without its channel is told (R175). -/
theorem State.rederiveLamps_told {f : FunctionId} (away : w.homeless (rederive s.ws w).failed f = true)
    (inMask : (rederive s.ws w).notices .lamp = true) :
    (s.rederiveLamps w).noticed
      (.lamp ⟨.loaded, none, none, none, (rederive s.ws w).failed, (rederive s.ws w).map⟩) := by
  have moved : (displaced s.ws w).isEmpty = false := by
    rw [rederive_failed] at away
    rw [← Bool.not_eq_true, List.isEmpty_iff, displaced_eq]
    exact fun none => List.not_mem_nil (none ▸ List.mem_filter.mpr ⟨mem_functionIds f, away⟩)
  have settings : ((s.remap (rederive s.ws w)).restartGens s.ws).ws = rederive s.ws w := by
    obtain ⟨-, -, -, -, sst⟩ := (s.remap (rederive s.ws w)).restartGens_rest s.ws
    rw [State.ws, sst]
    rfl
  unfold State.rederiveLamps
  dsimp only
  rw [moved, if_neg Bool.false_ne_true, State.lampNotice, settings]
  exact State.raise_noticed _ (by rw [← settings] at inMask; exact inMask)

/-- The LOADED notice stands once every block has taken the working set up (R10, R182). -/
theorem State.replaceWorking_told {f : FunctionId} (away : w.homeless (rederive s.ws w).failed f = true)
    (inMask : (rederive s.ws w).notices .lamp = true) :
    (s.replaceWorking w).noticed
      (.lamp ⟨.loaded, none, none, none, (rederive s.ws w).failed, (rederive s.ws w).map⟩) := by
  obtain ⟨-, -, -, -, working⟩ := s.rederiveLamps_rest w
  have told := State.noticed_pruneNotices (n := .lamp _) (by rw [working]; exact inMask)
    (s.rederiveLamps_told w away inMask)
  unfold State.replaceWorking
  dsimp only
  split
  · exact State.noticed_of_link (State.recomputeCau_link _) told
  · exact State.noticed_of_link (State.recomputeCau_link _) told

/-- LMP follows a working set that replaces the present one (R165, R175). -/
theorem State.replaceWorking_lampsFollow : s.lampsFollow (s.replaceWorking w) w := by
  obtain ⟨lmp, ws⟩ := s.replaceWorking_lmp w
  have restarted : (s.remap (rederive s.ws w)).RestartsTo s.ws genIds (s.replaceWorking w) :=
    State.RestartsTo.congr (by rw [lmp, State.rederiveLamps_lmp]) (State.restartGens_restarts _ _)
  unfold State.lampsFollow State.darkened
  rw [ws]
  refine ⟨fun f => ?_, fun ⟨f, away⟩ inMask => s.replaceWorking_told w away inMask, fun g => ?_, fun ch => ?_,
    restarted.rest⟩
  · rw [rederive_failed]
    exact rederive_map s.ws w f
  · by_cases restarts : (s.lmp.gens.get g).running = true ∧ (rederive s.ws w).gens.get g ≠ s.ws.gens.get g
    · rw [if_pos restarts]
      exact restarted.hit g (mem_genIds g) restarts
    · rw [if_neg restarts]
      exact restarted.missed g fun h => restarts h.2
  · refine ⟨fun changed => ?_, fun same relit => ?_, fun same dark => ?_⟩
    · have undriven : ¬∃ g ∈ genIds, (s.remap (rederive s.ws w)).drivenBy g ch = true ∧
          (s.remap (rederive s.ws w)).restarts s.ws g := by
        rintro ⟨g, -, drives, -⟩
        rw [State.remap_drivenBy, decide_eq_false fun e => changed e.symm] at drives
        cases drives
      rw [restarted.stands ch undriven]
      exact s.remap_darkened fun e => changed e.symm
    · obtain ⟨g, drives, restarts⟩ := relit
      have driven : (s.remap (rederive s.ws w)).drivenBy g ch = true := by
        rw [State.remap_drivenBy, decide_eq_true same.symm, drives, Bool.and_self]
      rw [restarted.relit ch ⟨g, mem_genIds g, driven, restarts⟩, State.remap_channel, if_pos same.symm]
      rfl
    · have undriven : ¬∃ g ∈ genIds, (s.remap (rederive s.ws w)).drivenBy g ch = true ∧
          (s.remap (rederive s.ws w)).restarts s.ws g := by
        rintro ⟨g, -, drives, restarts⟩
        rw [State.remap_drivenBy, decide_eq_true same.symm, Bool.true_and] at drives
        exact dark ⟨g, drives, restarts⟩
      rw [restarted.stands ch undriven, State.remap_channel, if_pos same.symm]

/-- What is on its way stays on its way (R10, R11). -/
theorem State.replaceWorking_sends {f : TxFrame} (sent : f ∈ s.link.outgoing) :
    f ∈ (s.replaceWorking w).link.outgoing := by
  have still : f ∈ (s.rederiveLamps w).link.outgoing := by
    obtain ⟨same | ⟨b, n, -, raised⟩, -⟩ := s.rederiveLamps_rest w
    · rwa [same]
    · obtain ⟨ahead, grows, -⟩ := s.link.raise_outgoing b n
      rw [raised, grows]
      exact List.mem_append_left _ sent
  have link : (s.replaceWorking w).link = (s.rederiveLamps w).pruneNotices.link := by
    unfold State.replaceWorking
    dsimp only
    split <;> exact State.recomputeCau_link _
  rw [link]
  exact still

end Replace

/-! ## What the blocks take up (R10, R66, R75, R175) -/

/-- From `s` to `t` the blocks took up a working set that replaced the present one (R182). -/
structure State.TakesUp (s t : State) (w : WorkingSet) : Prop where
  items : t.ws.items = w.items
  functions : t.ws.functions = w.functions
  gens : t.ws.gens = w.gens
  failed : ∀ ch : ChannelId, t.ws.failed[ch] = (w.failed[ch] || s.ws.failed[ch])
  lamps : s.lampsFollow t w
  budget : s.recomputes t
  mask : t.noticesFollowMask
  kept : ∀ k, k ≠ .lamp → t.ws.notices k = true → s.link.tx ≠ none → t.link.notices.get k = s.link.notices.get k
  counts : w.int Item.cellCount ≠ s.ws.int Item.cellCount → s.countsRestart t
  pack : w.int Item.cellCount = s.ws.int Item.cellCount → t.pkm = s.pkm

/-- Replacing the working set has every block take it up. -/
theorem State.replaceWorking_takesUp (s : State) (w : WorkingSet) : s.TakesUp (s.replaceWorking w) w := by
  obtain ⟨budget, mask, kept, counts, pack⟩ := s.replaceWorking_spec w
  obtain ⟨-, ws⟩ := s.replaceWorking_lmp w
  have cells : (rederive s.ws w).int Item.cellCount = w.int Item.cellCount := by
    rw [WorkingSet.int, rederive_items, WorkingSet.int]
  rw [cells] at counts pack
  exact {
    items := by rw [ws, rederive_items]
    functions := by rw [ws, rederive_functions]
    gens := by rw [ws, rederive_gens]
    failed := fun ch => by rw [ws, rederive_failed, joinFailed_get]
    lamps := s.replaceWorking_lampsFollow w
    budget := budget
    mask := mask
    kept := kept
    counts := counts
    pack := pack }

/-- What a block took up is judged by the settings, by LMP's, CAU's and PKM's records, and by the link. -/
theorem State.TakesUp.congr {s t u : State} {w : WorkingSet} (h : s.TakesUp t w) (ws : u.ws = t.ws)
    (lmp : u.lmp = t.lmp) (cau : u.cau = t.cau) (pkm : u.pkm = t.pkm) (notices : u.link.notices = t.link.notices)
    (outgoing : u.link.outgoing = t.link.outgoing) : s.TakesUp u w := by
  obtain ⟨items, functions, gens, failed, lamps, budget, mask, kept, counts, pack⟩ := h
  unfold State.lampsFollow State.darkened State.noticed at lamps
  unfold State.recomputes State.grantRule at budget
  unfold State.noticesFollowMask at mask
  unfold State.countsRestart at counts
  rw [← ws] at items functions gens failed lamps mask
  rw [← lmp, ← notices, ← outgoing] at lamps
  rw [← ws, ← cau] at budget
  rw [← notices] at mask
  rw [← ws, ← notices] at kept
  rw [← pkm] at counts pack
  exact ⟨items, functions, gens, failed, lamps, budget, mask, kept, counts, pack⟩

/-- What was taken up after a reply was taken up from the state before it, where no notice was lost meanwhile. -/
theorem State.TakesUp.after {s b t : State} {w : WorkingSet} (h : b.TakesUp t w)
    (frame : s.changesOnly b [.queue, .output]) (notices : b.link.notices = s.link.notices)
    (busy : ∃ f, b.link.tx = some f) : s.TakesUp t w := by
  obtain ⟨-, -, -, same⟩ := frame
  have ws : b.ws = s.ws := same .working (by decide)
  have lmp : b.lmp = s.lmp := same .lmp (by decide)
  have cau : b.cau = s.cau := same .cau (by decide)
  have pkm : b.pkm = s.pkm := same .pkm (by decide)
  have mode : b.mdc.startDone = s.mdc.startDone := by
    have timers : b.mdc = _ := same .timers (by decide)
    rw [timers]
  obtain ⟨items, functions, gens, failed, lamps, budget, mask, kept, counts, pack⟩ := h
  obtain ⟨f, tx⟩ := busy
  unfold State.lampsFollow State.drivenBy at lamps
  unfold State.recomputes at budget
  unfold State.countsRestart at counts
  rw [ws, lmp] at lamps
  rw [cau, pkm, mode] at budget
  rw [ws] at failed
  rw [ws, pkm] at counts pack
  rw [notices, tx] at kept
  exact ⟨items, functions, gens, failed, lamps, budget, mask,
    fun k other inMask _ => kept k other inMask (Option.some_ne_none f), counts, pack⟩

/-- Judging the auto-park timer leaves what was taken up. -/
theorem State.TakesUp.parked {s t : State} {w : WorkingSet} (h : s.TakesUp t w) : s.TakesUp t.holdAutoPark w :=
  h.congr (by rw [State.ws, State.holdAutoPark_sst, State.ws]) t.holdAutoPark_lmp t.holdAutoPark_cau t.holdAutoPark_pkm
    (by rw [State.holdAutoPark_link]) (by rw [State.holdAutoPark_link])

theorem PerCorner.get_map {α β : Type} (f : α → β) (t : PerCorner α) (i : CornerId) : (t.map f).get i = f (t.get i) := by
  cases i <;> rfl

/-! ## The tests of STORE_LOAD and STORE_DEFAULTS (R124, R182) -/

section Tests
variable {s : State}

theorem State.loadRefused_busy (h : s.sst.store = .writing ∨ s.tse.running = true) : s.loadRefused = some .busy := by
  unfold State.loadRefused State.saving
  obtain writing | searching := h
  · rw [decide_eq_true writing, if_pos rfl]
  · rw [searching, if_pos rfl, ite_self]

theorem State.loadRefused_badState (free : s.sst.store ≠ .writing) (searches : s.tse.running = false)
    (notReady : s.mdc.mode ≠ .ready) (notPark : s.mdc.mode ≠ .park) : s.loadRefused = some .badState := by
  unfold State.loadRefused State.saving
  rw [decide_eq_false free, searches, if_neg Bool.false_ne_true, if_neg Bool.false_ne_true,
    if_pos ⟨notReady, notPark⟩]

theorem State.loadRefused_none (free : s.sst.store ≠ .writing) (searches : s.tse.running = false)
    (mode : s.mdc.mode = .ready ∨ s.mdc.mode = .park) : s.loadRefused = none := by
  unfold State.loadRefused State.saving
  rw [decide_eq_false free, searches, if_neg Bool.false_ne_true, if_neg Bool.false_ne_true,
    if_neg fun other => mode.elim other.1 other.2]

end Tests

section Requests
variable {s : State} (serving : s.Serving) (tag : Byte)
include serving

theorem exec_storeLoad : exec (.storeLoad tag) s = .next (s.admitted.serveStoreLoad ⟨0x33, tag, []⟩).holdAutoPark := by
  have defined : (definedLen 0x33).isSome = true := by decide
  have parsed : parseRequest 0x33 [] = some .storeLoad := by decide
  exact exec_serving (i := .storeLoad tag) (q := ⟨0x33, tag, []⟩) (r := .storeLoad) serving rfl rfl defined parsed

theorem exec_storeDefaults :
    exec (.storeDefaults tag) s = .next (s.admitted.serveStoreDefaults ⟨0x34, tag, []⟩).holdAutoPark := by
  have defined : (definedLen 0x34).isSome = true := by decide
  have parsed : parseRequest 0x34 [] = some .storeDefaults := by decide
  exact exec_serving (i := .storeDefaults tag) (q := ⟨0x34, tag, []⟩) (r := .storeDefaults) serving rfl rfl defined
    parsed

/-- Both requests are refused by the tests that they share (R182). -/
theorem exec_loads_refused {why : Status} (refused : s.loadRefused = some why) :
    (∃ t, exec (.storeLoad tag) s = .next t ∧ s.sent t (replyFrame 0x33 tag why []) ∧ s.onlyLink t) ∧
      ∃ t, exec (.storeDefaults tag) s = .next t ∧ s.sent t (replyFrame 0x34 tag why []) ∧ s.onlyLink t := by
  have same : s.admitted.loadRefused = some why := refused
  refine ⟨⟨_, exec_storeLoad serving tag, ?_⟩, ⟨_, exec_storeDefaults serving tag, ?_⟩⟩
  · rw [State.serveStoreLoad, same]
    exact s.admitted_refuse _ _
  · rw [State.serveStoreDefaults, same]
    exact s.admitted_refuse _ _

end Requests

/-! ## A load begins and ends, defaults at once (R182) -/

/-- STORE_LOAD accepted: the dispatcher and the ACTIVE corners are held (R182, R109). -/
theorem exec_storeLoad_begins {s : State} (serving : s.Serving) (tag : Byte)
    (mode : s.mdc.mode = .ready ∨ s.mdc.mode = .park) (searches : s.tse.running = false) (valid : s.sst.store = .valid) :
    ∃ t, exec (.storeLoad tag) s = .next t ∧ s.sent t (replyFrame 0x33 tag .ok []) ∧ t.link.held = true ∧
      t.link.loadMs = 0 ∧
      (∀ i, (s.stc.corners.get i).state = .active → (t.stc.corners.get i).state = .held ∧
        (t.stc.corners.get i).commanded = (s.stc.corners.get i).commanded ∧
        (t.stc.corners.get i).target = (s.stc.corners.get i).commanded) ∧
      s.changesOnly t [.queue, .output, .stc] := by
  have passes : s.admitted.loadRefused = none :=
    State.loadRefused_none (by change s.sst.store ≠ _; rw [valid]; decide) searches mode
  have hasImage : ¬s.admitted.sst.store ≠ .valid := not_not_intro valid
  have acts := exec_storeLoad serving tag
  rw [State.serveStoreLoad, passes] at acts
  dsimp only at acts
  rw [if_neg hasImage] at acts
  have answered : s.changesOnly (s.admitted.ok ⟨0x33, tag, []⟩ []) [.queue, .output] :=
    State.changesOnly_trans (State.changesOnly_mono s.admitted_changes (by simp))
      (State.changesOnly_mono (State.answer_changes _ _ _) (by simp))
  have sent : s.sent (s.admitted.ok ⟨0x33, tag, []⟩ []) (replyFrame 0x33 tag .ok []) := State.ok_sent s.admitted _ _
  have mdc : (s.admitted.ok ⟨0x33, tag, []⟩ []).mdc = s.mdc := rfl
  have stc : (s.admitted.ok ⟨0x33, tag, []⟩ []).stc = s.stc := rfl
  generalize s.admitted.ok ⟨0x33, tag, []⟩ [] = u at acts answered sent mdc stc
  have holds : u.changesOnly (u.setLink { u.link with held := true, loadMs := 0 }) [.queue] := by
    refine ⟨rfl, rfl, rfl, fun p hp => ?_⟩
    cases p <;> simp_all [State.sameIn]
  refine ⟨_, acts, ?_, ?_, ?_, fun i active => ?_, State.changesOnly_held (State.changesOnly_trans
    (State.changesOnly_trans (State.changesOnly_mono answered (by simp)) (State.changesOnly_mono holds (by simp)))
    (State.changesOnly_mono (State.setStc_changes _ _) (by simp))) mdc⟩
  · unfold State.sent
    rw [State.holdAutoPark_link]
    exact sent
  · rw [State.holdAutoPark_link]; rfl
  · rw [State.holdAutoPark_link]; rfl
  · have corner : (u.stc.mapCorners Corner.holdForLoad).corners.get i = _ :=
      (PerCorner.get_map Corner.holdForLoad u.stc.corners i).trans (Corner.holdForLoad_active (by rw [stc]; exact active))
    rw [State.holdAutoPark_stc, State.setStc_stc, corner, stc]
    exact ⟨rfl, rfl, rfl⟩

/-- The end of a load with no request waiting (R182). -/
theorem exec_storeLoadEnd_idle {s : State} (powered : s.powered = true) (held : s.link.held = true)
    (waiting : s.link.waiting = []) : exec .storeLoadEnd s = .next s.finishLoad.holdAutoPark := by
  have acts : exec .storeLoadEnd s =
      act s fun s => if s.link.held then s.finishLoad.holdAutoPark.dispatchAll else s := rfl
  have none_waits : s.finishLoad.holdAutoPark.link.waiting = [] := by
    rw [State.holdAutoPark_link]
    exact (congrArg Account.waiting s.account_finishLoad).trans waiting
  rw [acts, act_powered powered, held, if_pos rfl, State.dispatchAll, none_waits, List.length_nil, State.dispatchUpTo,
    State.holdAutoPark_idem]

section Ended
variable (s : State)

theorem State.replaceWorking_mdc (w : WorkingSet) : (s.replaceWorking w).mdc = s.mdc :=
  congrArg Account.mdc (s.account_replaceWorking w)

/-- The blocks take up the image at the end of a load (R182). -/
theorem State.finishLoad_takesUp : s.TakesUp s.finishLoad s.sst.image.content := by
  have taken := s.replaceWorking_takesUp s.sst.image.content
  unfold State.finishLoad
  generalize s.replaceWorking s.sst.image.content = u at taken ⊢
  exact taken.congr rfl rfl rfl rfl rfl rfl

theorem State.finishLoad_corner (i : CornerId) :
    s.finishLoad.stc.corners.get i = (s.stc.corners.get i).releaseLoad s.stc.machine := by
  obtain ⟨-, -, -, parts⟩ := s.replaceWorking_changes s.sst.image.content
  have same : (s.replaceWorking s.sst.image.content).stc = s.stc := parts .stc (by decide)
  change (((s.replaceWorking s.sst.image.content).stc.mapCorners _).corners).get i = _
  rw [same]
  exact PerCorner.get_map _ _ _

end Ended

/-- STORE_DEFAULTS accepted: answered, and the blocks take the defaults up (R182). -/
theorem exec_storeDefaults_takesUp {s : State} (serving : s.Serving) (tag : Byte) (free : s.sst.store ≠ .writing)
    (searches : s.tse.running = false) (mode : s.mdc.mode = .ready ∨ s.mdc.mode = .park) :
    ∃ t, exec (.storeDefaults tag) s = .next t ∧ replyFrame 0x34 tag .ok [] ∈ t.link.outgoing ∧
      s.TakesUp t WorkingSet.defaults ∧
      (∀ k, k ≠ .lamp → t.ws.notices k = true → t.link.notices.get k = s.link.notices.get k) ∧
      s.changesOnly t [.queue, .output, .pkm, .cau, .lmp, .working] := by
  have acts := exec_storeDefaults serving tag
  have passes : s.admitted.loadRefused = none := State.loadRefused_none free searches mode
  rw [State.serveStoreDefaults, passes] at acts
  have answered : s.changesOnly (s.admitted.ok ⟨0x34, tag, []⟩ []) [.queue, .output] :=
    State.changesOnly_trans (State.changesOnly_mono s.admitted_changes (by simp))
      (State.changesOnly_mono (State.answer_changes _ _ _) (by simp))
  have sent : replyFrame 0x34 tag .ok [] ∈ (s.admitted.ok ⟨0x34, tag, []⟩ []).link.outgoing := by
    have behind : (s.admitted.ok ⟨0x34, tag, []⟩ []).link.outgoing = _ := State.ok_sent s.admitted _ _
    rw [behind]
    exact List.mem_append_right _ (List.mem_singleton.mpr rfl)
  have notices : (s.admitted.ok ⟨0x34, tag, []⟩ []).link.notices = s.link.notices := Link.answer_notices _ _
  have busy : ∃ f, (s.admitted.ok ⟨0x34, tag, []⟩ []).link.tx = some f := Link.answer_busy _ _
  have mdc : (s.admitted.ok ⟨0x34, tag, []⟩ []).mdc = s.mdc := rfl
  dsimp only at acts
  generalize s.admitted.ok ⟨0x34, tag, []⟩ [] = b at acts answered sent notices busy mdc
  have taken := (b.replaceWorking_takesUp WorkingSet.defaults).parked
  refine ⟨_, acts, ?_, taken.after answered notices busy, fun k other inMask => ?_,
    State.changesOnly_held (State.changesOnly_trans (State.changesOnly_mono answered (by simp))
      (State.changesOnly_mono (b.replaceWorking_changes _) (by simp))) ?_⟩
  · rw [State.holdAutoPark_link]
    exact State.replaceWorking_sends _ _ sent
  · obtain ⟨f, tx⟩ := busy
    rw [taken.kept k other inMask (by rw [tx]; exact Option.some_ne_none f), notices]
  · rw [State.replaceWorking_mdc, mdc]

/-- Settles O54: LMP derives its map from the loaded set, the other blocks take it up, and the tests refuse in order. -/
theorem loadAndDefaultsReplaceTheWorkingSet : Obligations.LoadAndDefaultsReplaceTheWorkingSet := by
  intro s tag w
  refine ⟨fun serving mode searches valid => exec_storeLoad_begins serving tag mode searches valid,
    fun powered held waiting image => ?_, fun serving free searches mode => ?_,
    fun serving busy => exec_loads_refused serving tag (State.loadRefused_busy busy),
    fun serving free searches notReady notPark =>
      exec_loads_refused serving tag (State.loadRefused_badState free searches notReady notPark),
    fun serving free searches mode invalid => ?_⟩
  · subst image
    obtain ⟨items, functions, gens, failed, lamps, budget, mask, kept, counts, pack⟩ := s.finishLoad_takesUp.parked
    refine ⟨_, exec_storeLoadEnd_idle powered held waiting, ?_, items, functions, gens, failed, fun i => ?_,
      fun i loaded => ?_, lamps, budget, mask, kept, counts, pack,
      State.changesOnly_held s.finishLoad_changes (congrArg Account.mdc s.account_finishLoad)⟩
    · rw [State.holdAutoPark_link]; rfl
    · rw [State.holdAutoPark_stc, State.finishLoad_corner]
      cases loaded : (s.stc.corners.get i).loadHeld with
      | false => rw [Corner.releaseLoad_other _ loaded, loaded]
      | true => rw [Corner.releaseLoad_held _ loaded]
    · rw [State.holdAutoPark_stc, State.finishLoad_corner, Corner.releaseLoad_held _ loaded]
      exact ⟨rfl, fun moves => if_pos moves⟩
  · obtain ⟨t, acts, sent, taken, kept, frame⟩ := exec_storeDefaults_takesUp serving tag free searches mode
    have three : WorkingSet.defaults.int Item.cellCount = 3 := by decide
    obtain ⟨items, functions, gens, failed, lamps, budget, mask, -, counts, pack⟩ := taken
    rw [three] at counts pack
    have noneFailed : ∀ ch : ChannelId, WorkingSet.defaults.failed[ch] = false := by decide
    refine ⟨t, acts, sent, items, functions, gens, fun ch => ?_, lamps, budget, mask, kept,
      fun other => counts other.symm, fun same => pack same.symm, frame⟩
    rw [failed, noneFailed, Bool.false_or]
  · have passes : s.admitted.loadRefused = none := State.loadRefused_none free searches mode
    have noImage : s.admitted.sst.store ≠ .valid := invalid
    refine ⟨_, exec_storeLoad serving tag, ?_⟩
    rw [State.serveStoreLoad, passes]
    dsimp only
    rw [if_pos noImage]
    exact s.admitted_refuse _ _

end Sys2Proof.Machine
end

section
/-! PROOF. The winch update up to the solenoid's check (R146 to R149, R159): what it reads, the code it takes, the movement
that ends and the clutch that engages. -/
namespace Sys2Proof.Machine

/-! ## The states of the winch (R145, R146) -/

/-- The solenoid is powered while the clutch is released or releasing (R145). -/
theorem WinchState.solenoid_iff (x : WinchState) : x.solenoid = true ↔ x = .clutchReleasing ∨ x = .freespool := by
  cases x <;> simp [WinchState.solenoid]

/-- What reels moves (R146). -/
theorem WinchState.moves_of_reels {x : WinchState} (reels : x.reels = true) : x.moves = true := by
  cases x <;> simp_all [WinchState.reels, WinchState.moves]

/-! ## Parts of a winch update -/

theorem State.setWnc_changes (s : State) (w : Wnc) : s.changesOnly (s.setWnc w) [.wnc] := by
  refine ⟨rfl, rfl, rfl, fun p hp => ?_⟩
  cases p <;> simp_all [State.sameIn]

theorem State.setIntent_changes (s : State) (x : Intent) : s.changesOnly (s.setIntent x) [.intent] := by
  refine ⟨rfl, rfl, rfl, fun p hp => ?_⟩
  cases p <;> simp_all [State.sameIn]

theorem State.winchNotice_changes (s : State) (e : WinchEvent) (c : Option EngageCause) :
    s.changesOnly (s.winchNotice e c) [.output] := s.raise_changes _

/-- From `s` to `t` at most the winch, its code and the way out moved: what a winch update reads elsewhere stands. -/
structure State.WinchOnly (s t : State) : Prop where
  frame : s.changesOnly t [.output, .intent, .wnc]
  mdc : t.mdc = s.mdc
  axes : t.intent.axes = s.intent.axes
  steer : t.intent.steer = s.intent.steer
  drive : t.intent.drive = s.intent.drive
  light : t.intent.light = s.intent.light

namespace State.WinchOnly
variable {s t u : State}

theorem ws (h : s.WinchOnly t) : t.ws = s.ws := h.frame.2.2.2 .working (by decide)
theorem drc (h : s.WinchOnly t) : t.drc = s.drc := h.frame.2.2.2 .drc (by decide)
theorem cau (h : s.WinchOnly t) : t.cau = s.cau := h.frame.2.2.2 .cau (by decide)
theorem pkm (h : s.WinchOnly t) : t.pkm = s.pkm := h.frame.2.2.2 .pkm (by decide)

theorem refl (s : State) : s.WinchOnly s := ⟨s.changesOnly_refl _, rfl, rfl, rfl, rfl, rfl⟩

theorem trans (first : s.WinchOnly u) (after : u.WinchOnly t) : s.WinchOnly t where
  frame := State.changesOnly_trans first.frame after.frame
  mdc := after.mdc.trans first.mdc
  axes := after.axes.trans first.axes
  steer := after.steer.trans first.steer
  drive := after.drive.trans first.drive
  light := after.light.trans first.light

end State.WinchOnly

theorem State.winchOnly_setWnc (s : State) (w : Wnc) : s.WinchOnly (s.setWnc w) :=
  ⟨State.changesOnly_mono (s.setWnc_changes w) (by simp), rfl, rfl, rfl, rfl, rfl⟩

theorem State.winchOnly_notice (s : State) (w : Wnc) (e : WinchEvent) (c : Option EngageCause) :
    s.WinchOnly ((s.setWnc w).winchNotice e c) :=
  (s.winchOnly_setWnc w).trans
    ⟨State.changesOnly_mono (State.winchNotice_changes _ e c) (by simp), rfl, rfl, rfl, rfl, rfl⟩

/-- A sending transmitter goes on while notices are raised (R10, R11). -/
theorem State.winchNotice_tx {s : State} {f : TxFrame} (tx : s.link.tx = some f) (e : WinchEvent)
    (c : Option EngageCause) : (s.winchNotice e c).link.tx = some f := by
  unfold State.winchNotice
  rw [State.raise_link]
  cases s.sst.working.notices _ with
  | true => rw [Link.raise_busy tx]; exact tx
  | false => exact tx

/-- A winch notice that is in NOTICE_MASK is raised, with the winch as it stands (R161). -/
theorem State.winchNotice_told (s : State) (e : WinchEvent) (c : Option EngageCause)
    (inMask : s.ws.notices .winch = true) :
    (s.winchNotice e c).noticed (.winch ⟨e, c, s.wnc.state, s.wnc.clutch, s.wnc.line, s.wnc.load⟩) :=
  State.raise_noticed s inMask

/-- From one winch record to another the clutch and the readings stand. -/
def Wnc.turns (a b : Wnc) : Prop :=
  b = { a with state := b.state, rearm := b.rearm, jamMs := b.jamMs, duty := b.duty, demand := b.demand }

theorem Wnc.turns_trans {a b c : Wnc} (first : a.turns b) (after : b.turns c) : a.turns c := by
  unfold Wnc.turns at first after ⊢
  rw [after, first]

theorem Wnc.turns_endByLoad (w : Wnc) (ws : WorkingSet) (b : Bool) : w.turns (w.endByLoad ws b) := rfl

theorem Wnc.endByLoad_state (w : Wnc) (ws : WorkingSet) (b : Bool) : (w.endByLoad ws b).state = idleState ws w.load := rfl

/-- The idle states (R148). -/
theorem idleState_idle (ws : WorkingSet) (load : Nat) :
    idleState ws load = .stopped ∨ idleState ws load = .holding := by
  unfold idleState
  split
  · exact .inr rfl
  · exact .inl rfl

/-! ## Steps 1 to 3: the line, the load, the current (R147) -/

/-- The winch once it has read the line speed and the line-in switch. -/
def Wnc.lineRead (w : Wnc) (ws : WorkingSet) (r : WinchReading) : Wnc :=
  let w1 := w.readSpool ws r.counts
  { w1 with
    lineIn := if r.lineInClosed = w.lineInPrev then r.lineInClosed else w.lineIn
    lineInPrev := r.lineInClosed }

/-- The winch where the line-in switch closes: referenced, and a reel ends by the load last read (R147). -/
def Wnc.lineHome (w : Wnc) (ws : WorkingSet) (r : WinchReading) : Wnc :=
  let w1 := { w.lineRead ws r with line := some ⟨0, 0⟩ }
  if w.state.reels then w1.endByLoad ws true else w1

section Read
variable (s : State) (r : WinchReading)

/-- Steps 1 and 2 where the line-in switch closes. -/
theorem State.readLine_closes (closes : s.lineInCloses r) :
    (s.setWnc (s.wnc.readSpool s.ws r.counts)).readLineIn r.lineInClosed =
      (s.setWnc (s.wnc.lineHome s.ws r)).winchNotice .referenced none := by
  obtain ⟨closed, before, open_⟩ := closes
  unfold State.readLineIn
  have now : (if r.lineInClosed = s.wnc.lineInPrev then r.lineInClosed else s.wnc.lineIn) = true := by
    rw [closed, before, if_pos rfl]
  have was : (s.setWnc (s.wnc.readSpool s.ws r.counts)).wnc.lineIn = false := open_
  have prev : (s.setWnc (s.wnc.readSpool s.ws r.counts)).wnc.lineInPrev = s.wnc.lineInPrev := rfl
  dsimp only
  rw [was, prev, closed, before, if_pos rfl, Bool.not_false, Bool.and_self, if_pos rfl]
  unfold Wnc.lineHome Wnc.lineRead
  rw [closed, before, if_pos rfl]
  rfl

/-- And where it does not. -/
theorem State.readLine_open (open_ : ¬s.lineInCloses r) :
    (s.setWnc (s.wnc.readSpool s.ws r.counts)).readLineIn r.lineInClosed = s.setWnc (s.wnc.lineRead s.ws r) := by
  have quiet : ((if r.lineInClosed = s.wnc.lineInPrev then r.lineInClosed else s.wnc.lineIn) && !s.wnc.lineIn) = false := by
    rw [Bool.eq_false_iff]
    intro both
    rw [Bool.and_eq_true, Bool.not_eq_true'] at both
    obtain ⟨now, was⟩ := both
    split at now
    · rename_i same
      exact open_ ⟨now, same ▸ now, was⟩
    · rw [was] at now; cases now
  unfold State.readLineIn
  dsimp only
  have same : ∀ w : Wnc, (s.setWnc w).wnc = w := fun _ => rfl
  rw [same, show (s.wnc.readSpool s.ws r.counts).lineInPrev = s.wnc.lineInPrev from rfl,
    show (s.wnc.readSpool s.ws r.counts).lineIn = s.wnc.lineIn from rfl, quiet, if_neg Bool.false_ne_true]
  rfl

/-- The state after steps 1 to 3. -/
def State.winchRead : State :=
  let t := (s.setWnc (s.wnc.readSpool s.ws r.counts)).readLineIn r.lineInClosed
  t.setWnc (t.wnc.readLoad r.load r.current)

theorem State.winchRead_closes (closes : s.lineInCloses r) :
    s.winchRead r = ((s.setWnc (s.wnc.lineHome s.ws r)).winchNotice .referenced none).setWnc
      ((s.wnc.lineHome s.ws r).readLoad r.load r.current) := by
  unfold State.winchRead
  rw [s.readLine_closes r closes]
  rfl

theorem State.winchRead_open (open_ : ¬s.lineInCloses r) :
    s.winchRead r = s.setWnc ((s.wnc.lineRead s.ws r).readLoad r.load r.current) := by
  unfold State.winchRead
  rw [s.readLine_open r open_]
  rfl

theorem State.winchRead_only : s.WinchOnly (s.winchRead r) := by
  by_cases closes : s.lineInCloses r
  · rw [s.winchRead_closes r closes]
    exact (s.winchOnly_notice _ _ _).trans (State.winchOnly_setWnc _ _)
  · rw [s.winchRead_open r closes]
    exact s.winchOnly_setWnc _

theorem State.winchRead_intent : (s.winchRead r).intent = s.intent := by
  by_cases closes : s.lineInCloses r
  · rw [s.winchRead_closes r closes]; rfl
  · rw [s.winchRead_open r closes]; rfl

/-- What steps 1 to 3 read, and what they leave of the winch (R147; log 15). -/
structure State.WinchReads (s : State) (r : WinchReading) (w : Wnc) : Prop where
  lineSpeed : w.lineSpeed = max (-3000) (min 3000 ((r.counts * 50000).tdiv (s.ws.int Item.spoolCountsPerM)))
  load : w.load = min 1000 r.load
  current : w.current = min 40000 r.current
  lineInPrev : w.lineInPrev = r.lineInClosed
  lineIn : w.lineIn = if r.lineInClosed = s.wnc.lineInPrev then r.lineInClosed else s.wnc.lineIn
  home : s.lineInCloses r → w.line = some ⟨0, 0⟩
  unreferenced : ¬s.lineInCloses r → s.wnc.line = none → w.line = none
  counted : ∀ l, ¬s.lineInCloses r → s.wnc.line = some l →
    let spool := (max 0 (min 65535 (l.spool - r.counts))).toNat
    w.line = some ⟨spool, min 65535 (spool * 1000 / s.ws.nat Item.spoolCountsPerM)⟩

theorem State.winchRead_reads : s.WinchReads r (s.winchRead r).wnc := by
  by_cases closes : s.lineInCloses r
  · rw [s.winchRead_closes r closes]
    unfold Wnc.lineHome
    split
    all_goals exact {
      lineSpeed := rfl
      load := rfl
      current := rfl
      lineInPrev := rfl
      lineIn := rfl
      home := fun _ => rfl
      unreferenced := fun h => absurd closes h
      counted := fun _ h => absurd closes h }
  · rw [s.winchRead_open r closes]
    exact {
      lineSpeed := rfl
      load := rfl
      current := rfl
      lineInPrev := rfl
      lineIn := rfl
      home := fun h => absurd h closes
      unreferenced := fun _ unknown => by
        change s.wnc.line.map _ = none
        rw [unknown]; rfl
      counted := fun l _ known => by
        change s.wnc.line.map _ = _
        rw [known]; rfl }

/-- The limit count, the ceiling and the selection stand in steps 1 to 3. -/
theorem State.winchRead_stands : (s.winchRead r).wnc.limitCount = s.wnc.limitCount ∧
    (s.winchRead r).wnc.ceiling = s.wnc.ceiling ∧ (s.winchRead r).wnc.selection = s.wnc.selection := by
  by_cases closes : s.lineInCloses r
  · rw [s.winchRead_closes r closes]
    unfold Wnc.lineHome
    split <;> exact ⟨rfl, rfl, rfl⟩
  · rw [s.winchRead_open r closes]
    exact ⟨rfl, rfl, rfl⟩

end Read

/-! ## A movement that ends, and one that goes on (R147, R149) -/

/-- A movement ended by load, re-arm set. -/
def Wnc.ended (w : Wnc) : Prop := (w.state = .stopped ∨ w.state = .holding) ∧ w.rearm = true

theorem Wnc.endByLoad_ended (w : Wnc) (ws : WorkingSet) : (w.endByLoad ws true).ended := ⟨idleState_idle _ _, rfl⟩

/-- From one winch record to another state, re-arm, jam timer, duty and clutch stand. -/
structure Wnc.Stands (a b : Wnc) : Prop where
  state : b.state = a.state
  rearm : b.rearm = a.rearm
  jamMs : b.jamMs = a.jamMs
  duty : b.duty = a.duty
  clutch : b.clutch = a.clutch
  clutchMs : b.clutchMs = a.clutchMs

theorem Wnc.Stands.trans {a b c : Wnc} (first : a.Stands b) (after : b.Stands c) : a.Stands c where
  state := after.state.trans first.state
  rearm := after.rearm.trans first.rearm
  jamMs := after.jamMs.trans first.jamMs
  duty := after.duty.trans first.duty
  clutch := after.clutch.trans first.clutch
  clutchMs := after.clutchMs.trans first.clutchMs

theorem State.winchRead_ended {s : State} {r : WinchReading} (reels : s.wnc.state.reels = true)
    (closes : s.lineInCloses r) : (s.winchRead r).wnc.ended := by
  rw [s.winchRead_closes r closes]
  unfold Wnc.lineHome
  rw [if_pos reels]
  exact Wnc.endByLoad_ended _ _

theorem State.winchRead_goes {s : State} {r : WinchReading} (goes : s.wnc.state.reels = true → ¬s.lineInCloses r) :
    s.wnc.Stands (s.winchRead r).wnc := by
  by_cases closes : s.lineInCloses r
  · have still : s.wnc.state.reels = false := Bool.eq_false_iff.mpr fun reels => goes reels closes
    rw [s.winchRead_closes r closes]
    unfold Wnc.lineHome
    rw [still, if_neg Bool.false_ne_true]
    exact ⟨rfl, rfl, rfl, rfl, rfl, rfl⟩
  · rw [s.winchRead_open r closes]
    exact ⟨rfl, rfl, rfl, rfl, rfl, rfl⟩

/-- The codes that end a movement are those of R149. -/
theorem codeEnds_iff (state : WinchState) (c : WinchSel) :
    codeEnds state c = true ↔ (state, c) ∈ [(WinchState.reeling, WinchSel.off), (.reeling, .assist), (.assist, .off),
      (.assist, .manual), (.paying, .off)] := by
  cases state <;> cases c <;> decide

/-- No code ends what does not move. -/
theorem codeEnds_idle {state : WinchState} (idle : state = .stopped ∨ state = .holding) (c : WinchSel) :
    codeEnds state c = false := by
  obtain rfl | rfl := idle <;> cases c <;> rfl

section Code
variable (s : State)

theorem State.takeWinchCode_nil (empty : s.intent.winch.queue = []) : s.takeWinchCode = s := by
  unfold State.takeWinchCode
  rw [empty]

theorem State.takeWinchCode_cons {c : WinchSel} {rest : List WinchSel} (head : s.intent.winch.queue = c :: rest) :
    s.takeWinchCode =
      (s.setIntent { s.intent with winch := { s.intent.winch with queue := rest } }).setWnc
        (if codeEnds s.wnc.state c then ({ s.wnc with selection := c } : Wnc).endByLoad s.ws true
          else { s.wnc with selection := c }) := by
  unfold State.takeWinchCode
  rw [head]

theorem State.takeWinchCode_link : s.takeWinchCode.link = s.link := by
  cases head : s.intent.winch.queue with
  | nil => rw [s.takeWinchCode_nil head]
  | cons c rest => rw [s.takeWinchCode_cons head]; rfl

theorem State.takeWinchCode_only : s.WinchOnly s.takeWinchCode := by
  cases head : s.intent.winch.queue with
  | nil => rw [s.takeWinchCode_nil head]; exact .refl s
  | cons c rest =>
    rw [s.takeWinchCode_cons head]
    refine State.WinchOnly.trans ?_ (State.winchOnly_setWnc _ _)
    exact ⟨State.changesOnly_mono (s.setIntent_changes _) (by simp), rfl, rfl, rfl, rfl, rfl⟩

/-- The code's reading stands: the line, the load, the current, the limit count, the ceiling. -/
theorem State.takeWinchCode_reads :
    s.takeWinchCode.wnc = { s.takeWinchCode.wnc with
      lineSpeed := s.wnc.lineSpeed, load := s.wnc.load, current := s.wnc.current, lineIn := s.wnc.lineIn
      lineInPrev := s.wnc.lineInPrev, line := s.wnc.line, limitCount := s.wnc.limitCount, ceiling := s.wnc.ceiling
      clutch := s.wnc.clutch, clutchMs := s.wnc.clutchMs } := by
  cases head : s.intent.winch.queue with
  | nil => rw [s.takeWinchCode_nil head]
  | cons c rest =>
    rw [s.takeWinchCode_cons head]
    split <;> rfl

theorem State.takeWinchCode_ended (ended : s.wnc.ended) : s.takeWinchCode.wnc.ended := by
  cases head : s.intent.winch.queue with
  | nil => rwa [s.takeWinchCode_nil head]
  | cons c rest =>
    rw [s.takeWinchCode_cons head, codeEnds_idle ended.1, if_neg Bool.false_ne_true]
    exact ended

theorem State.takeWinchCode_stops (stops : s.codeStops) : s.takeWinchCode.wnc.ended := by
  obtain ⟨c, rest, head, ends⟩ := stops
  rw [s.takeWinchCode_cons head, if_pos ((codeEnds_iff _ _).mpr ends)]
  exact Wnc.endByLoad_ended _ _

theorem State.takeWinchCode_goes (goes : ¬s.codeStops) : s.wnc.Stands s.takeWinchCode.wnc := by
  cases head : s.intent.winch.queue with
  | nil => rw [s.takeWinchCode_nil head]; exact ⟨rfl, rfl, rfl, rfl, rfl, rfl⟩
  | cons c rest =>
    rw [s.takeWinchCode_cons head, if_neg fun ends => goes ⟨c, rest, head, (codeEnds_iff _ _).mp ends⟩]
    exact ⟨rfl, rfl, rfl, rfl, rfl, rfl⟩

end Code

/-! ## Step 5: the solenoid (R159) -/

/-- The clutch engages: too little grant, or the vehicle drives away (R159). -/
def State.engageDue (s : State) : Prop :=
  s.grant .winch < 300 ∨ (s.mdc.mode = .run ∧ s.drc.braking = false ∧ 0 < s.drc.speed)

section Solenoid
variable (s : State)

theorem State.checkSolenoid_unpowered (off : s.wnc.state.solenoid = false) : s.checkSolenoid = s := by
  unfold State.checkSolenoid State.forcedEngage
  rw [off]
  simp only [Bool.false_eq_true, if_false, ite_self]

theorem State.checkSolenoid_stays (stays : ¬s.engageDue) : s.checkSolenoid = s := by
  unfold State.checkSolenoid
  rw [if_neg fun low => stays (.inl low), if_neg]
  rintro ⟨run, free, moves⟩
  exact stays (.inr ⟨run, by simpa using free, moves⟩)

theorem State.checkSolenoid_engages (powered : s.wnc.state.solenoid = true) (due : s.engageDue) :
    s.checkSolenoid = (s.setWnc s.wnc.engage).winchNotice .forcedEngage
      (some (if s.grant .winch < 300 then .lowGrant else .driveAway)) := by
  unfold State.checkSolenoid State.forcedEngage
  rw [powered, if_pos rfl, if_pos rfl]
  by_cases low : s.grant .winch < 300
  · rw [if_pos low, if_pos low]
  · obtain ⟨run, free, moves⟩ := due.resolve_left low
    rw [if_neg low, if_neg low, if_pos ⟨run, by simpa using free, moves⟩]

theorem State.checkSolenoid_cases :
    s.checkSolenoid = s ∨ (s.wnc.state.solenoid = true ∧ s.engageDue ∧ s.checkSolenoid =
      (s.setWnc s.wnc.engage).winchNotice .forcedEngage
        (some (if s.grant .winch < 300 then .lowGrant else .driveAway))) := by
  cases powered : s.wnc.state.solenoid with
  | false => exact .inl (s.checkSolenoid_unpowered powered)
  | true =>
    by_cases due : s.engageDue
    · exact .inr ⟨rfl, due, s.checkSolenoid_engages powered due⟩
    · exact .inl (s.checkSolenoid_stays due)

theorem State.checkSolenoid_only : s.WinchOnly s.checkSolenoid := by
  obtain same | ⟨-, -, engages⟩ := s.checkSolenoid_cases
  · rw [same]; exact .refl s
  · rw [engages]; exact s.winchOnly_notice _ _ _

theorem State.checkSolenoid_intent : s.checkSolenoid.intent = s.intent := by
  obtain same | ⟨-, -, engages⟩ := s.checkSolenoid_cases
  · rw [same]
  · rw [engages]; rfl

/-- The solenoid's check leaves what was read, the selection, re-arm, the timers of the movement and the duty. -/
theorem State.checkSolenoid_reads : s.checkSolenoid.wnc = { s.wnc with
    state := s.checkSolenoid.wnc.state, clutch := s.checkSolenoid.wnc.clutch
    clutchMs := s.checkSolenoid.wnc.clutchMs } := by
  obtain same | ⟨-, -, engages⟩ := s.checkSolenoid_cases
  · rw [same]
  · rw [engages]; rfl

end Solenoid

/-! ## Steps 1 to 5 together -/

section Taken
variable (s : State) (r : WinchReading)

/-- The state after steps 1 to 5. -/
def State.winchTaken : State := (s.winchRead r).takeWinchCode.checkSolenoid

theorem State.winchTaken_only : s.WinchOnly (s.winchTaken r) :=
  ((s.winchRead_only r).trans (State.takeWinchCode_only _)).trans (State.checkSolenoid_only _)

/-- What was read stands from step 4 on. -/
theorem State.winchTaken_wnc : (s.winchTaken r).wnc = { (s.winchTaken r).wnc with
    lineSpeed := (s.winchRead r).wnc.lineSpeed, load := (s.winchRead r).wnc.load
    current := (s.winchRead r).wnc.current, lineIn := (s.winchRead r).wnc.lineIn
    lineInPrev := (s.winchRead r).wnc.lineInPrev, line := (s.winchRead r).wnc.line
    limitCount := (s.winchRead r).wnc.limitCount, ceiling := (s.winchRead r).wnc.ceiling } := by
  unfold State.winchTaken
  rw [State.checkSolenoid_reads, State.takeWinchCode_reads]

theorem State.winchTaken_reads : s.WinchReads r (s.winchTaken r).wnc := by
  obtain ⟨lineSpeed, load, current, lineInPrev, lineIn, home, unreferenced, counted⟩ := s.winchRead_reads r
  rw [s.winchTaken_wnc r]
  exact ⟨lineSpeed, load, current, lineInPrev, lineIn, home, unreferenced, counted⟩

theorem State.winchTaken_limits : (s.winchTaken r).wnc.limitCount = s.wnc.limitCount ∧
    (s.winchTaken r).wnc.ceiling = s.wnc.ceiling := by
  obtain ⟨limitCount, ceiling, -⟩ := s.winchRead_stands r
  rw [s.winchTaken_wnc r]
  exact ⟨limitCount, ceiling⟩

/-- The selection of the update is that of the code at the head of the queue, if there is one (R149). -/
theorem State.winchTaken_noCode (empty : s.intent.winch.queue = []) :
    (s.winchTaken r).wnc.selection = s.wnc.selection ∧ (s.winchTaken r).intent.winch = s.intent.winch := by
  have none_waits : (s.winchRead r).intent.winch.queue = [] := by rw [s.winchRead_intent]; exact empty
  obtain ⟨-, -, selection⟩ := s.winchRead_stands r
  unfold State.winchTaken
  rw [State.checkSolenoid_intent, State.checkSolenoid_reads, State.takeWinchCode_nil _ none_waits, s.winchRead_intent]
  exact ⟨selection, rfl⟩

theorem State.winchTaken_code {c : WinchSel} {rest : List WinchSel} (head : s.intent.winch.queue = c :: rest) :
    (s.winchTaken r).wnc.selection = c ∧
      (s.winchTaken r).intent.winch = { s.intent.winch with queue := rest } := by
  have waits : (s.winchRead r).intent.winch.queue = c :: rest := by rw [s.winchRead_intent]; exact head
  unfold State.winchTaken
  rw [State.checkSolenoid_intent, State.checkSolenoid_reads, State.takeWinchCode_cons _ waits, s.winchRead_intent]
  split <;> exact ⟨rfl, rfl⟩

/-- A reel that comes home, and a movement that a code ends, end by load with re-arm set (R147, R149). -/
theorem State.winchTaken_ended
    (ends : (s.wnc.state.reels = true ∧ s.lineInCloses r) ∨ s.codeStops) : (s.winchTaken r).wnc.ended := by
  have coded : (s.winchRead r).takeWinchCode.wnc.ended := by
    by_cases home : s.wnc.state.reels = true ∧ s.lineInCloses r
    · exact State.takeWinchCode_ended _ (State.winchRead_ended home.1 home.2)
    · have goes := State.winchRead_goes fun reels closes => home ⟨reels, closes⟩
      obtain ⟨c, rest, head, ends⟩ := ends.resolve_left home
      refine State.takeWinchCode_stops _ ⟨c, rest, by rw [s.winchRead_intent]; exact head, ?_⟩
      rw [goes.state]
      exact ends
  have off : (s.winchRead r).takeWinchCode.wnc.state.solenoid = false := by
    obtain ⟨idle | idle, -⟩ := coded <;> rw [idle] <;> rfl
  unfold State.winchTaken
  rw [State.checkSolenoid_unpowered _ off]
  exact coded

/-- Where neither happens the movement comes to step 5 as it was. -/
theorem State.winchCoded_goes (home : s.wnc.state.reels = true → ¬s.lineInCloses r) (goes : ¬s.codeStops) :
    s.wnc.Stands (s.winchRead r).takeWinchCode.wnc := by
  have read := State.winchRead_goes home
  refine read.trans (State.takeWinchCode_goes _ fun ⟨c, rest, head, ends⟩ => goes ⟨c, rest, ?_, ?_⟩)
  · rw [s.winchRead_intent] at head; exact head
  · rw [read.state] at ends; exact ends

/-- The clutch is engaged at step 5 as the state before the update gives (R159). -/
theorem State.winchCoded_engageDue : (s.winchRead r).takeWinchCode.engageDue ↔ s.engageDue := by
  have only := (s.winchRead_only r).trans (State.takeWinchCode_only _)
  unfold State.engageDue State.grant
  rw [only.cau, only.mdc, only.drc]

/-- And to step 6, where the clutch is not engaged at this update. -/
theorem State.winchTaken_goes (home : s.wnc.state.reels = true → ¬s.lineInCloses r) (goes : ¬s.codeStops)
    (stays : s.wnc.state.solenoid = true → ¬s.engageDue) : s.wnc.Stands (s.winchTaken r).wnc := by
  have coded := s.winchCoded_goes r home goes
  unfold State.winchTaken
  obtain same | ⟨powered, due, -⟩ := (s.winchRead r).takeWinchCode.checkSolenoid_cases
  · rw [same]; exact coded
  · rw [coded.state] at powered
    exact absurd ((s.winchCoded_engageDue r).mp due) (stays powered)

/-- What does not move neither comes home nor is ended by a code. -/
theorem State.still_goes {s : State} {r : WinchReading} (still : s.wnc.state.moves = false) :
    (s.wnc.state.reels = true → ¬s.lineInCloses r) ∧ ¬s.codeStops := by
  constructor
  · intro reels
    cases state : s.wnc.state <;> rw [state] at still reels <;> cases still <;> cases reels
  · rintro ⟨c, rest, -, ends⟩
    cases state : s.wnc.state <;> rw [state] at still ends
    case reeling => cases still
    case assist => cases still
    case paying => cases still
    all_goals simp at ends

/-- A forced engage begins the clutch's travel, with its notice (R159; log 54). -/
theorem State.winchTaken_engages (powered : s.wnc.state.solenoid = true) (due : s.engageDue) :
    (s.winchTaken r).wnc.state = .clutchEngaging ∧ (s.winchTaken r).wnc.clutch = .moving ∧
      (s.winchTaken r).wnc.clutchMs = 150 ∧ (s.ws.notices .winch = true →
        (s.winchTaken r).noticed (.winch ⟨.forcedEngage,
          some (if s.grant .winch < 300 then .lowGrant else .driveAway), .clutchEngaging, .moving,
          (s.winchTaken r).wnc.line, (s.winchTaken r).wnc.load⟩)) := by
  have still : s.wnc.state.moves = false := by
    obtain e | e := (WinchState.solenoid_iff _).mp powered <;> rw [e] <;> rfl
  obtain ⟨home, goes⟩ := State.still_goes (r := r) still
  have coded := s.winchCoded_goes r home goes
  have only := (s.winchRead_only r).trans (State.takeWinchCode_only _)
  have acts := State.checkSolenoid_engages (s.winchRead r).takeWinchCode (by rw [coded.state]; exact powered)
    ((s.winchCoded_engageDue r).mpr due)
  unfold State.winchTaken
  rw [acts]
  refine ⟨rfl, rfl, rfl, fun inMask => ?_⟩
  have told := State.winchNotice_told
    ((s.winchRead r).takeWinchCode.setWnc (s.winchRead r).takeWinchCode.wnc.engage) .forcedEngage
    (some (if (s.winchRead r).takeWinchCode.grant .winch < 300 then .lowGrant else .driveAway))
    (by rw [show ∀ u : State, ∀ w, (u.setWnc w).ws = u.ws from fun _ _ => rfl, only.ws]; exact inMask)
  have grant : (s.winchRead r).takeWinchCode.grant .winch = s.grant .winch := by
    unfold State.grant
    rw [only.cau]
  rw [grant] at told ⊢
  exact told

/-- The notice that tells of a line that has come home (R147, R161). -/
def State.referencedNotice : Notice :=
  .winch ⟨.referenced, none, if s.wnc.state.reels then idleState s.ws s.wnc.load else s.wnc.state, s.wnc.clutch,
    some ⟨0, 0⟩, s.wnc.load⟩

/-- The line's coming home raises it. -/
theorem State.winchRead_link (closes : s.lineInCloses r) :
    (s.winchRead r).link = s.link.raise (s.ws.notices .winch) s.referencedNotice := by
  rw [s.winchRead_closes r closes]
  unfold State.referencedNotice Wnc.lineHome State.winchNotice
  rw [State.setWnc_link, State.raise_link]
  split <;> rfl

/-- A powered solenoid at step 5 was powered before the update. -/
theorem State.solenoid_of_winchCoded {s : State} {r : WinchReading}
    (powered : (s.winchRead r).takeWinchCode.wnc.state.solenoid = true) : s.wnc.state.solenoid = true := by
  have unended : ¬(s.winchRead r).takeWinchCode.wnc.ended := by
    rintro ⟨idle | idle, -⟩ <;> rw [idle] at powered <;> cases powered
  have home : s.wnc.state.reels = true → ¬s.lineInCloses r := fun reels closes =>
    unended (State.takeWinchCode_ended _ (State.winchRead_ended reels closes))
  have read := State.winchRead_goes home
  have goes : ¬(s.winchRead r).codeStops := fun stops => unended (State.takeWinchCode_stops _ stops)
  rwa [(read.trans (State.takeWinchCode_goes _ goes)).state] at powered

/-- A taken code leaves the link; so does a clutch that does not engage. -/
theorem State.winchTaken_link (stays : s.wnc.state.solenoid = true → ¬s.engageDue) :
    (s.winchTaken r).link = (s.winchRead r).link := by
  have off : (s.winchRead r).takeWinchCode.checkSolenoid = (s.winchRead r).takeWinchCode := by
    obtain same | ⟨powered, due, -⟩ := (s.winchRead r).takeWinchCode.checkSolenoid_cases
    · exact same
    · have was : s.wnc.state.solenoid = true := State.solenoid_of_winchCoded powered
      exact absurd ((s.winchCoded_engageDue r).mp due) (stays was)
  unfold State.winchTaken
  rw [off, State.takeWinchCode_link]

/-- A sending transmitter goes on through steps 4 and 5. -/
theorem State.winchTaken_tx {f : TxFrame} (tx : (s.winchRead r).link.tx = some f) :
    (s.winchTaken r).link.tx = some f := by
  rw [← State.takeWinchCode_link] at tx
  unfold State.winchTaken
  obtain same | ⟨-, -, engages⟩ := (s.winchRead r).takeWinchCode.checkSolenoid_cases
  · rw [same]; exact tx
  · rw [engages]
    generalize (s.winchRead r).takeWinchCode = u at tx ⊢
    exact State.winchNotice_tx (s := u.setWnc u.wnc.engage) tx _ _

end Taken

end Sys2Proof.Machine
end

section
/-! PROOF. The winch update from its state on (R148, R150 to R154): the axis, the guards, the hard load, the jam, the duty
and the wish. -/
namespace Sys2Proof.Machine

/-! ## Step 6 as one winch record and its tests -/

section Moves
variable (s : State)

/-- The winch axis as step 6 reads it (R151). -/
def State.winchInput : Int := shaped s.ws s.intent.axes.winch

/-- The axis acts: in RUN, with a selection (R151). -/
def State.winchActs : Prop := s.mdc.mode = .run ∧ s.wnc.selection ≠ .off

/-- The winch once an idle one is placed by its load and a neutral axis has cleared re-arm (R148, R150). -/
def State.winchSettled : Wnc :=
  { s.wnc with
    state := if s.wnc.state = .stopped ∨ s.wnc.state = .holding then idleState s.ws s.wnc.load else s.wnc.state
    rearm := s.wnc.rearm && decide (s.winchInput ≠ 0) }

/-- The winch once the axis and the guards have acted (R151). -/
def State.winchMoved : Wnc :=
  let u := s.setWnc s.winchSettled
  (u.setWnc (if s.mdc.mode = .run ∧ s.wnc.selection ≠ .off then u.winchAxis s.winchInput else u.wnc)).winchGuards

theorem State.winchState_eq : s.winchState = (s.setWnc s.winchMoved).hardHold.jamTest := by
  have settled : (if s.winchInput = 0 then
      (s.setWnc (s.wnc.placeIdle s.ws)).setWnc { (s.setWnc (s.wnc.placeIdle s.ws)).wnc with rearm := false }
      else s.setWnc (s.wnc.placeIdle s.ws)) = s.setWnc s.winchSettled := by
    unfold State.winchSettled Wnc.placeIdle
    by_cases idle : s.wnc.state = .stopped ∨ s.wnc.state = .holding
    · by_cases zero : s.winchInput = 0 <;> simp [idle, zero] <;> rfl
    · by_cases zero : s.winchInput = 0
      · simp [idle, zero]; rfl
      · simp [idle, zero]
  unfold State.winchState
  dsimp only
  change State.jamTest (State.hardHold _) = _
  unfold State.winchInput at settled
  rw [settled]
  unfold State.winchMoved
  dsimp only
  by_cases acts : s.mdc.mode = .run ∧ s.wnc.selection ≠ .off
  · have acts' : (s.setWnc s.winchSettled).mdc.mode = .run ∧ (s.setWnc s.winchSettled).wnc.selection ≠ .off := acts
    rw [if_pos acts', if_pos acts]
    rfl
  · have acts' : ¬((s.setWnc s.winchSettled).mdc.mode = .run ∧ (s.setWnc s.winchSettled).wnc.selection ≠ .off) := acts
    rw [if_neg acts', if_neg acts]
    rfl

end Moves

/-! ## The axis (R151) -/

/-- A reel starts, as the selection gives (R151). -/
def Wnc.startReel (w : Wnc) : Wnc := { w with state := reelState w.selection, jamMs := 0 }

/-- Paying out starts (R151). -/
def Wnc.startPay (w : Wnc) : Wnc := { w with state := .paying, jamMs := 0 }

theorem reelState_reels (sel : WinchSel) : (reelState sel).reels = true := by
  unfold reelState
  split <;> rfl

section Axis
variable {s : State} (axis : Int)

theorem State.winchAxis_idle (idle : s.wnc.state = .stopped ∨ s.wnc.state = .holding) :
    s.winchAxis axis =
      if 0 < axis then (if s.reelMayStart then s.wnc.startReel else s.wnc)
      else if axis < 0 then (if !s.wnc.rearm && !s.wnc.atPayoutLimit s.ws then s.wnc.startPay else s.wnc)
      else s.wnc := by
  unfold State.winchAxis
  obtain state | state := idle <;> dsimp only <;> rw [state] <;> rfl

theorem State.winchAxis_reels (reels : s.wnc.state.reels = true) :
    s.winchAxis axis =
      if axis < 0 then s.wnc.startPay else if axis = 0 then s.wnc.endByLoad s.ws false else s.wnc := by
  have reel : s.wnc.state = .reeling ∨ s.wnc.state = .assist := by
    cases state : s.wnc.state <;> rw [state] at reels <;> simp_all [WinchState.reels]
  unfold State.winchAxis
  obtain state | state := reel <;> dsimp only <;> rw [state] <;> rfl

theorem State.winchAxis_paying (paying : s.wnc.state = .paying) :
    s.winchAxis axis =
      if 0 < axis then (if s.reelMayStart then s.wnc.startReel else s.wnc.endByLoad s.ws true)
      else if axis = 0 then s.wnc.endByLoad s.ws false
      else s.wnc := by
  unfold State.winchAxis
  dsimp only
  rw [paying]
  rfl

end Axis

/-- A winch that neither idles nor moves: its clutch is away from the drum, or it is JAMMED (R145, R154). -/
def WinchState.away (x : WinchState) : Prop :=
  x = .clutchReleasing ∨ x = .freespool ∨ x = .clutchEngaging ∨ x = .jammed

theorem State.winchAxis_away {s : State} (axis : Int) (away : s.wnc.state.away) : s.winchAxis axis = s.wnc := by
  unfold State.winchAxis
  obtain state | state | state | state := away <;> dsimp only <;> rw [state]

/-- A winch idles, reels, pays out, or is away. -/
theorem WinchState.four (x : WinchState) :
    (x = .stopped ∨ x = .holding) ∨ x.reels = true ∨ x = .paying ∨ x.away := by
  unfold WinchState.away
  cases x <;> simp [WinchState.reels]

/-- What the axis can do: it leaves the winch, starts or turns a movement, or ends one by load. -/
theorem State.winchAxis_cases (s : State) (axis : Int) :
    s.winchAxis axis = s.wnc ∨ (s.reelMayStart = true ∧ s.winchAxis axis = s.wnc.startReel) ∨
      s.winchAxis axis = s.wnc.startPay ∨ ∃ b, s.winchAxis axis = s.wnc.endByLoad s.ws b := by
  obtain idle | reels | paying | away := s.wnc.state.four
  · rw [State.winchAxis_idle axis idle]
    split_ifs with up starts
    · exact .inr (.inl ⟨starts, rfl⟩)
    · exact .inl rfl
    · exact .inr (.inr (.inl rfl))
    · exact .inl rfl
    · exact .inl rfl
  · rw [State.winchAxis_reels axis reels]
    split_ifs
    · exact .inr (.inr (.inl rfl))
    · exact .inr (.inr (.inr ⟨false, rfl⟩))
    · exact .inl rfl
  · rw [State.winchAxis_paying axis paying]
    split_ifs with up starts
    · exact .inr (.inl ⟨starts, rfl⟩)
    · exact .inr (.inr (.inr ⟨true, rfl⟩))
    · exact .inr (.inr (.inr ⟨false, rfl⟩))
    · exact .inl rfl
  · exact .inl (State.winchAxis_away axis away)

section Guards
variable {s : State}

/-- No guard acts (R151). -/
theorem State.winchGuards_none (limit : s.wnc.state = .paying → s.wnc.atPayoutLimit s.ws = false)
    (backs : s.wnc.state = .reeling → s.drc.reversing = false) : s.winchGuards = s.wnc := by
  unfold State.winchGuards
  dsimp only
  rw [if_neg, if_neg]
  · rintro ⟨reeling, reverses⟩
    rw [backs reeling] at reverses
    cases reverses
  · rintro ⟨paying, reached⟩
    rw [limit paying] at reached
    cases reached

/-- The line is paid out to its limit (R151). -/
theorem State.winchGuards_limit (paying : s.wnc.state = .paying) (limit : s.wnc.atPayoutLimit s.ws = true) :
    s.winchGuards = s.wnc.endByLoad s.ws true := if_pos ⟨paying, limit⟩

/-- The vehicle backs over its line (R151). -/
theorem State.winchGuards_backs (reeling : s.wnc.state = .reeling) (backs : s.drc.reversing = true) :
    s.winchGuards = s.wnc.endByLoad s.ws true := by
  unfold State.winchGuards
  dsimp only
  rw [if_neg, if_pos ⟨reeling, backs⟩]
  rintro ⟨paying, -⟩
  rw [reeling] at paying
  cases paying

theorem State.winchGuards_cases (s : State) :
    s.winchGuards = s.wnc ∨ s.winchGuards = s.wnc.endByLoad s.ws true := by
  unfold State.winchGuards
  dsimp only
  split_ifs
  · exact .inr rfl
  · exact .inr rfl
  · exact .inl rfl

end Guards

/-! ## The winch after the axis and the guards -/

section Moved
variable (s : State)

/-- The reel's start conditions as step 6 finds them (R150, R151). -/
def State.reelReady : Bool := (s.setWnc s.winchSettled).reelMayStart

/-- What step 6 can make of the winch before the hard-load test. -/
theorem State.winchMoved_cases :
    s.winchMoved = s.winchSettled ∨ (s.reelReady = true ∧ s.winchMoved = s.winchSettled.startReel) ∨
      s.winchMoved = s.winchSettled.startPay ∨ (s.winchMoved.state.moves = false ∧ s.winchSettled.turns s.winchMoved) := by
  have acted : ∀ a : Wnc, (a = s.winchSettled ∨ (s.reelReady = true ∧ a = s.winchSettled.startReel) ∨
      a = s.winchSettled.startPay ∨ (a.state.moves = false ∧ s.winchSettled.turns a)) →
      ((s.setWnc a).winchGuards = s.winchSettled ∨ (s.reelReady = true ∧ (s.setWnc a).winchGuards = s.winchSettled.startReel) ∨
        (s.setWnc a).winchGuards = s.winchSettled.startPay ∨
        ((s.setWnc a).winchGuards.state.moves = false ∧ s.winchSettled.turns (s.setWnc a).winchGuards)) := by
    intro a outcome
    obtain same | ended := (s.setWnc a).winchGuards_cases
    · rw [same]
      exact outcome
    · rw [ended]
      have turned : s.winchSettled.turns a := by
        obtain rfl | ⟨-, rfl⟩ | rfl | ⟨-, turned⟩ := outcome
        · rfl
        · rfl
        · rfl
        · exact turned
      refine .inr (.inr (.inr ⟨?_, Wnc.turns_trans turned (Wnc.turns_endByLoad _ _ _)⟩))
      rw [Wnc.endByLoad_state]
      obtain idle | idle := idleState_idle (s.setWnc a).ws (s.setWnc a).wnc.load <;> rw [idle] <;> rfl
  unfold State.winchMoved
  dsimp only
  refine acted _ ?_
  split
  · obtain same | ⟨starts, same⟩ | same | ⟨b, same⟩ := (s.setWnc s.winchSettled).winchAxis_cases s.winchInput
    · rw [same]; exact .inl rfl
    · rw [same]; exact .inr (.inl ⟨starts, rfl⟩)
    · rw [same]; exact .inr (.inr (.inl rfl))
    · rw [same]
      refine .inr (.inr (.inr ⟨?_, Wnc.turns_endByLoad _ _ _⟩))
      rw [Wnc.endByLoad_state]
      obtain idle | idle := idleState_idle (s.setWnc s.winchSettled).ws (s.setWnc s.winchSettled).wnc.load <;>
        rw [idle] <;> rfl
  · exact .inl rfl

theorem State.winchSettled_turns : s.wnc.turns s.winchSettled := rfl

theorem State.winchMoved_turns : s.wnc.turns s.winchMoved := by
  refine Wnc.turns_trans s.winchSettled_turns ?_
  obtain same | ⟨-, same⟩ | same | ⟨-, turned⟩ := s.winchMoved_cases
  · rw [same]; rfl
  · rw [same]; rfl
  · rw [same]; rfl
  · exact turned

/-- A winch that moves after step 6 has the duty that it came with. -/
theorem State.winchMoved_duty (moves : s.winchMoved.state.moves = true) : s.winchMoved.duty = s.wnc.duty := by
  obtain same | ⟨-, same⟩ | same | ⟨still, -⟩ := s.winchMoved_cases
  · rw [same]; rfl
  · rw [same]; rfl
  · rw [same]; rfl
  · rw [still] at moves; cases moves

/-- The settled state of a winch that does not idle is its own. -/
theorem State.winchSettled_state (busy : ¬(s.wnc.state = .stopped ∨ s.wnc.state = .holding)) :
    s.winchSettled.state = s.wnc.state := if_neg busy

theorem State.winchSettled_idle (idle : s.wnc.state = .stopped ∨ s.wnc.state = .holding) :
    s.winchSettled.state = idleState s.ws s.wnc.load := if_pos idle

/-- Unless a reel may start, what does not reel does not reel after step 6 (R147, R151). -/
theorem State.winchMoved_quiet (still : s.wnc.state.reels = false) (barred : s.reelReady = false) :
    s.winchMoved.state.reels = false := by
  have settled : s.winchSettled.state.reels = false := by
    by_cases idle : s.wnc.state = .stopped ∨ s.wnc.state = .holding
    · rw [s.winchSettled_idle idle]
      obtain at_ | at_ := idleState_idle s.ws s.wnc.load <;> rw [at_] <;> rfl
    · rw [s.winchSettled_state idle, still]
  obtain same | ⟨starts, -⟩ | same | ⟨idle, -⟩ := s.winchMoved_cases
  · rw [same, settled]
  · rw [barred] at starts; cases starts
  · rw [same]; rfl
  · rw [Bool.eq_false_iff]
    intro reels
    rw [WinchState.moves_of_reels reels] at idle
    cases idle

/-- No guard acts on a movement that has ended. -/
theorem State.winchGuards_ended (b : Bool) :
    (s.setWnc (s.winchSettled.endByLoad s.ws b)).winchGuards = s.winchSettled.endByLoad s.ws b := by
  have idle := idleState_idle s.ws s.wnc.load
  refine State.winchGuards_none (fun paying => ?_) fun reeling => ?_
  · have e : idleState s.ws s.wnc.load = .paying := paying
    rw [e] at idle
    obtain e | e := idle <;> cases e
  · have e : idleState s.ws s.wnc.load = .reeling := reeling
    rw [e] at idle
    obtain e | e := idle <;> cases e

/-! ### An idle winch -/

section Idle
variable {s} (idle : s.wnc.state = .stopped ∨ s.wnc.state = .holding)
include idle

theorem State.winchSettled_still : s.winchSettled.state = .stopped ∨ s.winchSettled.state = .holding := by
  rw [s.winchSettled_idle idle]
  exact idleState_idle _ _

/-- No guard acts on an idle winch. -/
theorem State.winchMoved_idle_eq : s.winchMoved = (s.setWnc (if s.mdc.mode = .run ∧ s.wnc.selection ≠ .off then
      (if 0 < s.winchInput then (if s.reelReady then s.winchSettled.startReel else s.winchSettled)
      else if s.winchInput < 0 then
        (if !s.winchSettled.rearm && !s.wnc.atPayoutLimit s.ws then s.winchSettled.startPay else s.winchSettled)
      else s.winchSettled)
    else s.winchSettled)).winchGuards := by
  unfold State.winchMoved
  dsimp only
  rw [State.winchAxis_idle (s := s.setWnc s.winchSettled) s.winchInput (State.winchSettled_still idle)]
  rfl

theorem State.winchMoved_stays
    (stays : ¬s.winchActs ∨ s.winchInput = 0 ∨ (0 < s.winchInput ∧ s.reelReady = false) ∨
      (s.winchInput < 0 ∧ (s.wnc.rearm = true ∨ s.wnc.atPayoutLimit s.ws = true))) :
    s.winchMoved = s.winchSettled := by
  have settled := State.winchSettled_still idle
  have guards : (s.setWnc s.winchSettled).winchGuards = s.winchSettled := by
    refine State.winchGuards_none (fun paying => ?_) fun reeling => ?_
    · obtain e | e := settled <;> exact absurd (e.symm.trans paying) (by decide)
    · obtain e | e := settled <;> exact absurd (e.symm.trans reeling) (by decide)
  rw [State.winchMoved_idle_eq idle]
  by_cases acts : s.mdc.mode = .run ∧ s.wnc.selection ≠ .off
  · rw [if_pos acts]
    obtain quiet | zero | ⟨up, barred⟩ | ⟨down, barred⟩ := stays
    · exact absurd acts quiet
    · rw [zero, if_neg (by decide), if_neg (by decide)]; exact guards
    · rw [if_pos up, barred, if_neg Bool.false_ne_true]; exact guards
    · have rearm : s.winchSettled.rearm = s.wnc.rearm := by
        change (s.wnc.rearm && decide (s.winchInput ≠ 0)) = _
        rw [decide_eq_true (by omega), Bool.and_true]
      rw [if_neg (by omega), if_pos down, rearm, if_neg]
      · exact guards
      · obtain barred | barred := barred <;> rw [barred] <;> simp
  · rw [if_neg acts]; exact guards

theorem State.winchMoved_starts (acts : s.winchActs) (up : 0 < s.winchInput) (ready : s.reelReady = true)
    (forward : s.drc.reversing = false) : s.winchMoved = s.winchSettled.startReel := by
  rw [State.winchMoved_idle_eq idle, if_pos (show _ ∧ _ from acts), if_pos up, if_pos ready]
  refine State.winchGuards_none (fun paying => ?_) fun _ => forward
  have reels : (s.setWnc s.winchSettled.startReel).wnc.state.reels = true := reelState_reels _
  rw [paying] at reels
  cases reels

theorem State.winchMoved_pays (acts : s.winchActs) (down : s.winchInput < 0) (rearm : s.wnc.rearm = false)
    (room : s.wnc.atPayoutLimit s.ws = false) : s.winchMoved = s.winchSettled.startPay := by
  have ready : s.winchSettled.rearm = false := by
    change (s.wnc.rearm && decide (s.winchInput ≠ 0)) = _
    rw [rearm, Bool.false_and]
  rw [State.winchMoved_idle_eq idle, if_pos (show _ ∧ _ from acts), if_neg (by omega), if_pos down, ready, room,
    Bool.not_false, Bool.and_self, if_pos rfl]
  exact State.winchGuards_none (fun _ => room) fun reeling => nomatch (show WinchState.paying = .reeling from reeling)

end Idle

/-! ### A reel -/

section Reel
variable {s} (reels : s.wnc.state.reels = true) (acts : s.winchActs)
include reels

theorem State.winchSettled_reels : s.winchSettled.state = s.wnc.state := by
  refine s.winchSettled_state ?_
  rintro (e | e) <;> rw [e] at reels <;> cases reels

include acts

theorem State.winchMoved_reel_eq : s.winchMoved = (s.setWnc (if s.winchInput < 0 then s.winchSettled.startPay
    else if s.winchInput = 0 then s.winchSettled.endByLoad s.ws false else s.winchSettled)).winchGuards := by
  have same : (s.setWnc s.winchSettled).wnc.state.reels = true := by
    change s.winchSettled.state.reels = true
    rw [State.winchSettled_reels reels, reels]
  unfold State.winchMoved
  dsimp only
  rw [State.winchAxis_reels s.winchInput same, if_pos (show _ ∧ _ from acts)]
  rfl

theorem State.winchMoved_reel_neutral (zero : s.winchInput = 0) :
    s.winchMoved = s.winchSettled.endByLoad s.ws false := by
  rw [State.winchMoved_reel_eq reels acts, if_neg (by omega), if_pos zero, State.winchGuards_ended]

theorem State.winchMoved_reel_out (down : s.winchInput < 0) :
    s.winchMoved = if s.wnc.atPayoutLimit s.ws then s.winchSettled.startPay.endByLoad s.ws true
      else s.winchSettled.startPay := by
  rw [State.winchMoved_reel_eq reels acts, if_pos down]
  by_cases limit : s.wnc.atPayoutLimit s.ws = true
  · rw [if_pos limit]
    exact State.winchGuards_limit rfl limit
  · rw [if_neg limit]
    exact State.winchGuards_none (fun _ => Bool.eq_false_iff.mpr limit)
      fun reeling => nomatch (show WinchState.paying = .reeling from reeling)

theorem State.winchMoved_reel_backs (up : 0 < s.winchInput) (reeling : s.wnc.state = .reeling)
    (backs : s.drc.reversing = true) : s.winchMoved = s.winchSettled.endByLoad s.ws true := by
  rw [State.winchMoved_reel_eq reels acts, if_neg (by omega), if_neg (by omega)]
  exact State.winchGuards_backs ((State.winchSettled_reels reels).trans reeling) backs

theorem State.winchMoved_reel_goes (up : 0 < s.winchInput)
    (forward : ¬(s.wnc.state = .reeling ∧ s.drc.reversing = true)) : s.winchMoved = s.winchSettled := by
  rw [State.winchMoved_reel_eq reels acts, if_neg (by omega), if_neg (by omega)]
  have same := State.winchSettled_reels reels
  refine State.winchGuards_none (fun paying => ?_) fun reeling => ?_
  · have paying : s.wnc.state = .paying := same.symm.trans paying
    rw [paying] at reels
    cases reels
  · exact Bool.eq_false_iff.mpr fun reverses => forward ⟨same.symm.trans reeling, reverses⟩

end Reel

/-! ### Paying out -/

section Pay
variable {s} (paying : s.wnc.state = .paying) (acts : s.winchActs)
include paying

theorem State.winchSettled_paying : s.winchSettled.state = .paying := by
  rw [s.winchSettled_state (by rw [paying]; decide), paying]

include acts

theorem State.winchMoved_pay_eq : s.winchMoved = (s.setWnc (if 0 < s.winchInput then
      (if s.reelReady then s.winchSettled.startReel else s.winchSettled.endByLoad s.ws true)
    else if s.winchInput = 0 then s.winchSettled.endByLoad s.ws false else s.winchSettled)).winchGuards := by
  unfold State.winchMoved
  dsimp only
  rw [State.winchAxis_paying (s := s.setWnc s.winchSettled) s.winchInput (State.winchSettled_paying paying),
    if_pos (show _ ∧ _ from acts)]
  rfl

theorem State.winchMoved_pay_neutral (zero : s.winchInput = 0) :
    s.winchMoved = s.winchSettled.endByLoad s.ws false := by
  rw [State.winchMoved_pay_eq paying acts, if_neg (by omega), if_pos zero, State.winchGuards_ended]

theorem State.winchMoved_pay_goes (down : s.winchInput < 0) :
    s.winchMoved = if s.wnc.atPayoutLimit s.ws then s.winchSettled.endByLoad s.ws true else s.winchSettled := by
  rw [State.winchMoved_pay_eq paying acts, if_neg (by omega), if_neg (by omega)]
  have same := State.winchSettled_paying paying
  by_cases limit : s.wnc.atPayoutLimit s.ws = true
  · rw [if_pos limit]
    exact State.winchGuards_limit same limit
  · rw [if_neg limit]
    refine State.winchGuards_none (fun _ => Bool.eq_false_iff.mpr limit) fun reeling => ?_
    exact nomatch same.symm.trans reeling

theorem State.winchMoved_pay_turns (up : 0 < s.winchInput) (ready : s.reelReady = true)
    (forward : s.drc.reversing = false) : s.winchMoved = s.winchSettled.startReel := by
  rw [State.winchMoved_pay_eq paying acts, if_pos up, if_pos ready]
  refine State.winchGuards_none (fun pays => ?_) fun _ => forward
  have reels : (s.setWnc s.winchSettled.startReel).wnc.state.reels = true := reelState_reels _
  rw [pays] at reels
  cases reels

theorem State.winchMoved_pay_ends (up : 0 < s.winchInput) (barred : s.reelReady = false) :
    s.winchMoved = s.winchSettled.endByLoad s.ws true := by
  rw [State.winchMoved_pay_eq paying acts, if_pos up, barred, if_neg Bool.false_ne_true, State.winchGuards_ended]

end Pay

/-! ### A clutch away from the drum, a jam -/

theorem State.winchMoved_away {s : State} (away : s.wnc.state.away) : s.winchMoved = s.winchSettled := by
  have same : s.winchSettled.state = s.wnc.state := by
    refine s.winchSettled_state ?_
    rintro (e | e) <;> rw [e] at away <;> obtain h | h | h | h := away <;> cases h
  have awayStill : (s.setWnc s.winchSettled).wnc.state.away := by
    change s.winchSettled.state.away
    rw [same]; exact away
  unfold State.winchMoved
  dsimp only
  rw [State.winchAxis_away s.winchInput awayStill, ite_self]
  refine State.winchGuards_none (fun paying => ?_) fun reeling => ?_
  · rw [show s.wnc.state = .paying from same.symm.trans paying] at away
    obtain h | h | h | h := away <;> cases h
  · rw [show s.wnc.state = .reeling from same.symm.trans reeling] at away
    obtain h | h | h | h := away <;> cases h

end Moved

/-! ## The hard load and the jam (R152, R154) -/

section Tests
variable {u : State}

/-- What does not reel is not tested. -/
theorem State.winchTested_still (still : u.wnc.state.reels = false) : u.hardHold.jamTest = u := by
  unfold State.hardHold
  rw [still, if_neg fun h => Bool.false_ne_true h.1]
  unfold State.jamTest
  rw [still, if_neg Bool.false_ne_true]

/-- A reel above TENSION_HARD_N is held, with its notice (R152). -/
theorem State.winchTested_hard (reels : u.wnc.state.reels = true) (hard : u.ws.nat Item.tensionHardN < u.wnc.load) :
    u.hardHold.jamTest = (u.setWnc (u.wnc.endMovement .holding true)).winchNotice .hardHold none := by
  unfold State.hardHold
  rw [if_pos ⟨reels, hard⟩]
  unfold State.jamTest
  exact if_neg Bool.false_ne_true

/-- The jam timer of a reel after the update (R154). -/
def jamAfter (lineSpeed : Int) (before : Nat) : Nat := if lineSpeed = 0 then min 5000 (before + 20) else 0

/-- A reel that stands still long enough jams, with its notice (R154). -/
theorem State.winchTested_jams (reels : u.wnc.state.reels = true) (soft : ¬u.ws.nat Item.tensionHardN < u.wnc.load)
    (stands : u.wnc.lineSpeed = 0) (long : u.ws.nat Item.jamMs ≤ jamAfter u.wnc.lineSpeed u.wnc.jamMs) :
    u.hardHold.jamTest = u.jam (jamAfter u.wnc.lineSpeed u.wnc.jamMs) := by
  unfold jamAfter at long ⊢
  rw [if_pos stands] at long ⊢
  unfold State.hardHold
  rw [if_neg fun h => soft h.2]
  unfold State.jamTest
  dsimp only
  rw [if_pos reels, if_pos stands, if_pos long]

/-- Else its timer moves on (R154). -/
theorem State.winchTested_goes (reels : u.wnc.state.reels = true) (soft : ¬u.ws.nat Item.tensionHardN < u.wnc.load)
    (free : u.wnc.lineSpeed ≠ 0 ∨ jamAfter u.wnc.lineSpeed u.wnc.jamMs < u.ws.nat Item.jamMs) :
    u.hardHold.jamTest = u.setWnc { u.wnc with jamMs := jamAfter u.wnc.lineSpeed u.wnc.jamMs } := by
  unfold State.hardHold
  rw [if_neg fun h => soft h.2]
  unfold State.jamTest
  dsimp only
  rw [if_pos reels]
  by_cases stands : u.wnc.lineSpeed = 0
  · unfold jamAfter at free ⊢
    rw [if_pos stands] at free ⊢
    have short := free.resolve_left (not_not_intro stands)
    rw [if_pos stands, if_neg (by omega)]
  · unfold jamAfter
    rw [if_neg stands, if_neg stands]

/-- What the tests can make of a winch: nothing, another jam timer, or a reel that ends with a notice. -/
theorem State.winchTested_cases (u : State) :
    (u.wnc.state.reels = false ∧ u.hardHold.jamTest = u) ∨
    (u.wnc.state.reels = true ∧ ¬u.ws.nat Item.tensionHardN < u.wnc.load ∧
      ∃ ms, u.hardHold.jamTest = u.setWnc { u.wnc with jamMs := ms }) ∨
    (u.wnc.state.reels = true ∧ ∃ state e ms, (state = .holding ∨ state = .jammed) ∧
      u.hardHold.jamTest = (u.setWnc { u.wnc.endMovement state true with jamMs := ms }).winchNotice e none) := by
  cases reels : u.wnc.state.reels with
  | false => exact .inl ⟨rfl, State.winchTested_still reels⟩
  | true =>
    by_cases hard : u.ws.nat Item.tensionHardN < u.wnc.load
    · exact .inr (.inr ⟨rfl, _, _, 0, .inl rfl, State.winchTested_hard reels hard⟩)
    · by_cases free : u.wnc.lineSpeed ≠ 0 ∨ jamAfter u.wnc.lineSpeed u.wnc.jamMs < u.ws.nat Item.jamMs
      · exact .inr (.inl ⟨rfl, hard, _, State.winchTested_goes reels hard free⟩)
      · obtain ⟨stands, long⟩ := not_or.mp free
        exact .inr (.inr ⟨rfl, _, _, _, .inr rfl,
          State.winchTested_jams reels hard (Classical.not_not.mp stands) (Nat.le_of_not_lt long)⟩)

end Tests

end Sys2Proof.Machine
end

section
/-! PROOF. The whole winch update (R146): the duty, the wish, and what each movement comes to. -/
namespace Sys2Proof.Machine

/-! ## Steps 7 and 8 (R152, R153) -/

section Duty
variable (d : State)

/-- The winch after steps 7 and 8. -/
theorem State.winchDuty_wish_wnc : d.winchDuty.winchWish.wnc = { d.wnc with
    demand := if d.wnc.state.moves then demandOf d.ws d.pkm.level d.wnc.state d.winchInput d.wnc.load else 0
    ceiling := movedCeiling d.wnc.ceiling d.wnc.current (d.grant .winch)
    duty := if d.wnc.state.moves then
        nextDuty d.wnc.duty (demandOf d.ws d.pkm.level d.wnc.state d.winchInput d.wnc.load) d.wnc.lineSpeed
          (movedCeiling d.wnc.ceiling d.wnc.current (d.grant .winch))
      else 0
    limitCount := if d.wnc.state.reels && decide ((d.cau.records.get .winch).scaled < d.wnc.current) then
      min 2 (d.wnc.limitCount + 1) else 0 } := by
  unfold State.winchWish State.winchDuty
  dsimp only
  split <;> rfl

/-- Step 8 writes the winch's wish and no other record (R76, R153). -/
theorem State.winchDuty_wish_cau : d.winchDuty.winchWish.cau = (d.writeWish .winch (d.wnc.state.reels &&
    decide ((if d.wnc.state.reels && decide ((d.cau.records.get .winch).scaled < d.wnc.current) then
      min 2 (d.wnc.limitCount + 1) else 0) = 2))).cau := by
  unfold State.winchWish State.winchDuty
  dsimp only
  split <;> rfl

theorem State.winchDuty_only : d.WinchOnly d.winchDuty := by
  unfold State.winchDuty
  dsimp only
  split <;> exact d.winchOnly_setWnc _

theorem State.winchDuty_wish_link : d.winchDuty.winchWish.link = d.link := by
  unfold State.winchWish State.winchDuty
  dsimp only
  split <;> rfl

theorem State.winchDuty_wish_intent : d.winchDuty.winchWish.intent = d.intent := by
  unfold State.winchWish State.winchDuty
  dsimp only
  split <;> rfl

theorem State.writeWish_changes (k : Consumer) (b : Bool) : d.changesOnly (d.writeWish k b) [.cau] :=
  d.setCau_changes _

theorem State.winchDuty_wish_changes : d.changesOnly d.winchDuty.winchWish [.output, .intent, .cau, .wnc] := by
  refine State.changesOnly_trans (State.changesOnly_mono d.winchDuty_only.frame (by simp)) ?_
  exact State.changesOnly_trans (State.changesOnly_mono (State.setWnc_changes _ _) (by simp))
    (State.changesOnly_mono (State.writeWish_changes _ _ _) (by simp))

end Duty

/-! ## The update from step 6 on -/

/-- From one winch record to another what was read, the selection and the clutch stand. -/
structure Wnc.SameReadings (a b : Wnc) : Prop where
  lineSpeed : b.lineSpeed = a.lineSpeed
  load : b.load = a.load
  current : b.current = a.current
  line : b.line = a.line
  lineIn : b.lineIn = a.lineIn
  lineInPrev : b.lineInPrev = a.lineInPrev
  selection : b.selection = a.selection
  clutch : b.clutch = a.clutch
  clutchMs : b.clutchMs = a.clutchMs

theorem Wnc.turns.sameReadings {a b : Wnc} (h : a.turns b) : a.SameReadings b := by
  unfold Wnc.turns at h
  rw [h]
  exact ⟨rfl, rfl, rfl, rfl, rfl, rfl, rfl, rfl, rfl⟩

section Done
variable (k : State)

/-- The state before step 7. -/
def State.winchTurned : State := (k.setWnc k.winchMoved).hardHold.jamTest

/-- The state after the update, from the state after step 5. -/
def State.winchDone : State := k.winchState.winchDuty.winchWish.holdAutoPark

theorem State.winchTurned_turns : k.wnc.turns k.winchTurned.wnc := by
  refine Wnc.turns_trans k.winchMoved_turns ?_
  unfold State.winchTurned
  obtain ⟨-, same⟩ | ⟨-, -, ms, same⟩ | ⟨-, state, e, ms, -, same⟩ := (k.setWnc k.winchMoved).winchTested_cases
  · rw [same]; rfl
  · rw [same]; rfl
  · rw [same]; rfl

theorem State.winchTurned_only : k.WinchOnly k.winchTurned := by
  refine (k.winchOnly_setWnc k.winchMoved).trans ?_
  unfold State.winchTurned
  obtain ⟨-, same⟩ | ⟨-, -, ms, same⟩ | ⟨-, state, e, ms, -, same⟩ := (k.setWnc k.winchMoved).winchTested_cases
  · rw [same]; exact .refl _
  · rw [same]; exact State.winchOnly_setWnc _ _
  · rw [same]; exact State.winchOnly_notice _ _ _ _

theorem State.winchDone_wnc : k.winchDone.wnc = k.winchTurned.winchDuty.winchWish.wnc := by
  unfold State.winchDone
  rw [State.holdAutoPark_wnc, State.winchState_eq]
  rfl

theorem State.winchDone_link : k.winchDone.link = k.winchTurned.link := by
  unfold State.winchDone
  rw [State.holdAutoPark_link, State.winchDuty_wish_link, State.winchState_eq]
  rfl

theorem State.winchDone_same : k.wnc.SameReadings k.winchDone.wnc := by
  obtain ⟨lineSpeed, load, current, line, lineIn, lineInPrev, selection, clutch, clutchMs⟩ :=
    k.winchTurned_turns.sameReadings
  rw [k.winchDone_wnc, State.winchDuty_wish_wnc]
  exact ⟨lineSpeed, load, current, line, lineIn, lineInPrev, selection, clutch, clutchMs⟩

/-- Steps 7 and 8 leave the state, re-arm and the jam timer. -/
theorem State.winchDone_state : k.winchDone.wnc.state = k.winchTurned.wnc.state ∧
    k.winchDone.wnc.rearm = k.winchTurned.wnc.rearm ∧ k.winchDone.wnc.jamMs = k.winchTurned.wnc.jamMs := by
  rw [k.winchDone_wnc, State.winchDuty_wish_wnc]
  exact ⟨rfl, rfl, rfl⟩

/-- What does not reel after the axis and the guards stands so, and no notice is raised. -/
theorem State.winchDone_still (still : k.winchMoved.state.reels = false) :
    k.winchDone.wnc.state = k.winchMoved.state ∧ k.winchDone.wnc.rearm = k.winchMoved.rearm ∧
      k.winchDone.wnc.jamMs = k.winchMoved.jamMs ∧ k.winchDone.link = k.link := by
  have turned : k.winchTurned = k.setWnc k.winchMoved := State.winchTested_still still
  obtain ⟨state, rearm, jamMs⟩ := k.winchDone_state
  rw [turned] at state rearm jamMs
  refine ⟨state, rearm, jamMs, ?_⟩
  rw [k.winchDone_link, turned]
  rfl

/-- From `k` the update comes to a hard hold (R152). -/
def State.hardHeld (t : State) : Prop :=
  t.wnc.state = .holding ∧ t.wnc.rearm = true ∧ (k.ws.notices .winch = true →
    t.noticed (.winch ⟨.hardHold, none, .holding, t.wnc.clutch, t.wnc.line, t.wnc.load⟩))

theorem State.winchMoved_load : k.winchMoved.load = k.wnc.load ∧ k.winchMoved.lineSpeed = k.wnc.lineSpeed :=
  ⟨k.winchMoved_turns.sameReadings.load, k.winchMoved_turns.sameReadings.lineSpeed⟩

/-- A reel with a load above TENSION_HARD_N is held (R152). -/
theorem State.winchDone_hard (reels : k.winchMoved.state.reels = true)
    (hard : k.ws.nat Item.tensionHardN < k.wnc.load) : k.hardHeld k.winchDone := by
  have turned : k.winchTurned =
      ((k.setWnc k.winchMoved).setWnc (k.winchMoved.endMovement .holding true)).winchNotice .hardHold none :=
    State.winchTested_hard reels (by rw [← k.winchMoved_load.1] at hard; exact hard)
  obtain ⟨state, rearm, -⟩ := k.winchDone_state
  rw [turned] at state rearm
  refine ⟨state, rearm, fun inMask => ?_⟩
  have told := State.winchNotice_told
    ((k.setWnc k.winchMoved).setWnc (k.winchMoved.endMovement .holding true)) .hardHold none inMask
  rw [← turned] at told
  refine State.noticed_of_link k.winchDone_link ?_
  have same := k.winchDone_same
  have moved := k.winchMoved_turns.sameReadings
  rw [same.clutch, same.line, same.load, ← moved.clutch, ← moved.line, ← moved.load]
  exact told

/-- A reel that goes on has its jam timer moved (R154). -/
theorem State.winchDone_goes (reels : k.winchMoved.state.reels = true)
    (soft : ¬k.ws.nat Item.tensionHardN < k.wnc.load)
    (free : k.wnc.lineSpeed ≠ 0 ∨ jamAfter k.wnc.lineSpeed k.winchMoved.jamMs < k.ws.nat Item.jamMs) :
    k.winchDone.wnc.state = k.winchMoved.state ∧ k.winchDone.wnc.rearm = k.winchMoved.rearm ∧
      k.winchDone.wnc.jamMs = jamAfter k.wnc.lineSpeed k.winchMoved.jamMs := by
  rw [← k.winchMoved_load.1] at soft
  rw [← k.winchMoved_load.2] at free ⊢
  have turned : k.winchTurned = (k.setWnc k.winchMoved).setWnc
      { k.winchMoved with jamMs := jamAfter k.winchMoved.lineSpeed k.winchMoved.jamMs } :=
    State.winchTested_goes reels soft free
  have done := k.winchDone_state
  rw [turned] at done
  exact done

/-- A reel that jams (R154). -/
theorem State.winchDone_jams (reels : k.winchMoved.state.reels = true)
    (soft : ¬k.ws.nat Item.tensionHardN < k.wnc.load) (stands : k.wnc.lineSpeed = 0)
    (long : k.ws.nat Item.jamMs ≤ jamAfter k.wnc.lineSpeed k.winchMoved.jamMs) :
    k.winchDone.wnc.state = .jammed ∧ k.winchDone.wnc.jamMs = jamAfter k.wnc.lineSpeed k.winchMoved.jamMs ∧
      k.winchDone.wnc.rearm = true ∧ (k.ws.notices .winch = true →
        k.winchDone.noticed (.winch ⟨.jammed, none, .jammed, k.winchDone.wnc.clutch, k.winchDone.wnc.line,
          k.winchDone.wnc.load⟩)) := by
  rw [← k.winchMoved_load.1] at soft
  rw [← k.winchMoved_load.2] at stands long ⊢
  have turned : k.winchTurned =
      (k.setWnc k.winchMoved).jam (jamAfter k.winchMoved.lineSpeed k.winchMoved.jamMs) :=
    State.winchTested_jams reels soft stands long
  obtain ⟨state, rearm, jamMs⟩ := k.winchDone_state
  rw [turned] at state rearm jamMs
  refine ⟨state, jamMs, rearm, fun inMask => ?_⟩
  have told := State.winchNotice_told ((k.setWnc k.winchMoved).setWnc
    { k.winchMoved.endMovement .jammed true with jamMs := jamAfter k.winchMoved.lineSpeed k.winchMoved.jamMs })
    .jammed none inMask
  refine State.noticed_of_link (k.winchDone_link.trans (congrArg State.link turned)) ?_
  have same := k.winchDone_same
  have moved := k.winchMoved_turns.sameReadings
  rw [same.clutch, same.line, same.load, ← moved.clutch, ← moved.line, ← moved.load]
  exact told

/-! ### The duty, the wish (R152, R153) -/

/-- A winch that moves before step 7 has the duty that it came with. -/
theorem State.winchTurned_duty (moves : k.winchTurned.wnc.state.moves = true) :
    k.winchTurned.wnc.duty = k.wnc.duty := by
  unfold State.winchTurned at moves ⊢
  obtain ⟨-, same⟩ | ⟨-, -, ms, same⟩ | ⟨-, state, e, ms, ended, same⟩ := (k.setWnc k.winchMoved).winchTested_cases
  · rw [same] at moves ⊢
    exact k.winchMoved_duty moves
  · rw [same] at moves ⊢
    exact k.winchMoved_duty moves
  · rw [same] at moves
    have still : state.moves = true := moves
    obtain rfl | rfl := ended <;> cases still

/-- What reels before step 7 has a load of at most TENSION_HARD_N (R152). -/
theorem State.winchTurned_load (reels : k.winchTurned.wnc.state.reels = true) :
    k.wnc.load ≤ k.ws.nat Item.tensionHardN := by
  rw [← k.winchMoved_load.1]
  unfold State.winchTurned at reels
  obtain ⟨still, same⟩ | ⟨-, soft, -⟩ | ⟨-, state, e, ms, ended, same⟩ := (k.setWnc k.winchMoved).winchTested_cases
  · rw [same, still] at reels; cases reels
  · exact Nat.le_of_not_lt soft
  · rw [same] at reels
    have still : state.reels = true := reels
    obtain rfl | rfl := ended <;> cases still

theorem State.winchDone_ceiling :
    k.winchDone.wnc.ceiling = movedCeiling k.wnc.ceiling k.wnc.current (k.grant .winch) := by
  have turned := k.winchTurned_turns
  unfold Wnc.turns at turned
  rw [k.winchDone_wnc, State.winchDuty_wish_wnc, State.grant, k.winchTurned_only.cau, turned]
  rfl

/-- A winch that does not move has duty and demand 0 (R148). -/
theorem State.winchDone_zero (still : k.winchDone.wnc.state.moves = false) :
    k.winchDone.wnc.duty = 0 ∧ k.winchDone.wnc.demand = 0 := by
  rw [k.winchDone_state.1] at still
  rw [k.winchDone_wnc, State.winchDuty_wish_wnc, still]
  exact ⟨rfl, rfl⟩

/-- The demand and the duty of a winch that moves (R152, R153). -/
theorem State.winchDone_drives (moves : k.winchDone.wnc.state.moves = true) :
    k.winchDone.wnc.demand =
        demandOf k.ws k.pkm.level k.winchDone.wnc.state k.winchInput k.winchDone.wnc.load ∧
      k.winchDone.wnc.duty = nextDuty k.wnc.duty k.winchDone.wnc.demand k.winchDone.wnc.lineSpeed
        k.winchDone.wnc.ceiling := by
  have only := k.winchTurned_only
  have input : k.winchTurned.winchInput = k.winchInput := by
    unfold State.winchInput
    rw [only.ws, only.axes]
  rw [k.winchDone_state.1] at moves
  rw [k.winchDone_wnc, State.winchDuty_wish_wnc, moves]
  simp only [if_true]
  rw [k.winchTurned_duty moves, input, only.ws, only.pkm]
  exact ⟨rfl, rfl⟩

theorem State.winchDone_duty_le : k.winchDone.wnc.duty.natAbs ≤ k.winchDone.wnc.ceiling := by
  cases moves : k.winchDone.wnc.state.moves with
  | false =>
    rw [(k.winchDone_zero moves).1]
    exact Nat.zero_le _
  | true =>
    rw [(k.winchDone_drives moves).2, nextDuty, clamp]
    omega

/-- The limit count of the update (R153). -/
theorem State.winchDone_limitCount : k.winchDone.wnc.limitCount =
    if k.winchDone.wnc.state.reels = true ∧ (k.cau.records.get .winch).scaled < k.winchDone.wnc.current then
      min 2 (k.wnc.limitCount + 1) else 0 := by
  have limit : k.winchTurned.wnc.limitCount = k.wnc.limitCount := by
    have turned := k.winchTurned_turns
    unfold Wnc.turns at turned
    rw [turned]
  rw [k.winchDone_wnc, State.winchDuty_wish_wnc]
  simp only [Bool.and_eq_true, decide_eq_true_eq]
  rw [k.winchTurned_only.cau, limit]

/-- The wish stands exactly with a limit count of 2 in a reel (R153). -/
theorem State.winchDone_wish :
    (k.winchDone.wnc.limitCount = 2 ∧ k.winchDone.wnc.state.reels = true ↔
      k.winchDone.cau.records.winch.wish = true) ∧
    ∀ c, c ≠ .winch → k.winchDone.cau.records.get c = k.cau.records.get c := by
  have cau : k.winchDone.cau = k.winchTurned.winchDuty.winchWish.cau := by
    unfold State.winchDone
    rw [State.holdAutoPark_cau, State.winchState_eq]
    rfl
  rw [cau, State.winchDuty_wish_cau, k.winchDone_wnc, State.winchDuty_wish_wnc]
  refine ⟨?_, fun c other => ?_⟩
  · have both : ∀ (reels : Bool) (n : Nat), n = 2 ∧ reels = true ↔ (reels && decide (n = 2)) = true := by
      simp [and_comm]
    exact both _ _
  · rw [← k.winchTurned_only.cau]
    cases c
    case winch => exact absurd rfl other
    all_goals rfl

theorem State.winchDone_changes : k.changesOnly k.winchDone [.output, .intent, .cau, .wnc] := by
  have mdc : k.winchState.winchDuty.winchWish.mdc = k.mdc := by
    have same := State.account_winchWish k.winchState.winchDuty
    rw [State.account_winchDuty, State.account_winchState] at same
    exact congrArg Account.mdc same
  refine State.changesOnly_held (State.changesOnly_trans ?_ (State.winchDuty_wish_changes _)) mdc
  rw [State.winchState_eq]
  exact State.changesOnly_mono k.winchTurned_only.frame (by simp)

theorem State.winchDone_intent : k.winchDone.intent = k.intent := by
  unfold State.winchDone
  rw [State.holdAutoPark_intent, State.winchDuty_wish_intent, State.winchState_eq]
  obtain ⟨-, same⟩ | ⟨-, -, ms, same⟩ | ⟨-, state, e, ms, -, same⟩ := (k.setWnc k.winchMoved).winchTested_cases
  · rw [same]; rfl
  · rw [same]; rfl
  · rw [same]; rfl

/-- A sending transmitter goes on. -/
theorem State.winchDone_tx {f : TxFrame} (tx : k.link.tx = some f) : k.winchDone.link.tx = some f := by
  rw [k.winchDone_link]
  unfold State.winchTurned
  obtain ⟨-, same⟩ | ⟨-, -, ms, same⟩ | ⟨-, state, e, ms, -, same⟩ := (k.setWnc k.winchMoved).winchTested_cases
  · rw [same]; exact tx
  · rw [same]; exact tx
  · rw [same]
    have sends : (k.setWnc k.winchMoved).link.tx = some f := tx
    generalize k.setWnc k.winchMoved = u at sends ⊢
    exact State.winchNotice_tx (s := u.setWnc { u.wnc.endMovement state true with jamMs := ms }) sends e none

end Done

end Sys2Proof.Machine
end

section
/-! PROOF. What each state of the winch comes to at an update (R146 to R154), and the update as a whole. -/
namespace Sys2Proof.Machine

/-! ## From the state after step 5 -/

theorem idleState_still (ws : WorkingSet) (load : Nat) : (idleState ws load).reels = false := by
  obtain e | e := idleState_idle ws load <;> rw [e] <;> rfl

section Steps
variable {k : State}

/-- The start conditions of a reel, re-arm not being cleared by a neutral axis (R150, R151). -/
theorem State.reelReady_iff (input : k.winchInput ≠ 0) :
    k.reelReady = true ↔ k.reelStarts k.wnc.lineIn k.wnc.selection := by
  have rearm : k.winchSettled.rearm = k.wnc.rearm := by
    change (k.wnc.rearm && decide (k.winchInput ≠ 0)) = _
    rw [decide_eq_true input, Bool.and_true]
  have conditions : k.reelReady = (!k.winchSettled.rearm && !k.wnc.lineIn && !k.drc.reversing
      && (decide (k.wnc.selection ≠ .assist) || neutral k.ws k.intent.axes.throttle)) := rfl
  rw [conditions, rearm]
  unfold State.reelStarts
  simp only [Bool.and_eq_true, Bool.not_eq_true', Bool.or_eq_true, decide_eq_true_eq, and_assoc,
    ne_eq, Classical.or_iff_not_imp_left, Classical.not_not]

theorem State.winchSettled_rearm : k.winchSettled.rearm = (k.wnc.rearm && decide (k.winchInput ≠ 0)) := rfl

/-- A line that has just come home bars a reel, and so does re-arm (R147, R150). -/
theorem State.reelReady_barred (barred : k.wnc.lineIn = true ∨ (k.wnc.rearm = true ∧ k.winchInput ≠ 0)) :
    k.reelReady = false := by
  have conditions : k.reelReady = (!k.winchSettled.rearm && !k.wnc.lineIn && !k.drc.reversing
      && (decide (k.wnc.selection ≠ .assist) || neutral k.ws k.intent.axes.throttle)) := rfl
  rw [conditions, State.winchSettled_rearm]
  obtain home | ⟨rearm, input⟩ := barred
  · rw [home, Bool.not_true, Bool.and_false, Bool.false_and, Bool.false_and]
  · rw [rearm, decide_eq_true input, Bool.and_self, Bool.not_true, Bool.false_and, Bool.false_and, Bool.false_and]

/-- A short jam time leaves a reel that has just started free (R154). -/
theorem jamAfter_start {lineSpeed : Int} {n : Nat} (free : lineSpeed ≠ 0 ∨ 20 < n) :
    lineSpeed ≠ 0 ∨ jamAfter lineSpeed 0 < n := by
  obtain moves | long := free
  · exact .inl moves
  · refine .inr (Nat.lt_of_le_of_lt ?_ long)
    unfold jamAfter
    split
    · omega
    · omega

/-! ### Ended by load -/

/-- A movement that the axis or a guard ends comes to the idle state of its load (R148, R151). -/
theorem State.winchDone_ended {w : Wnc} {b : Bool} (load : w.load = k.wnc.load)
    (moved : k.winchMoved = w.endByLoad k.ws b) :
    k.winchDone.wnc.state = idleState k.ws k.winchDone.wnc.load ∧ k.winchDone.wnc.rearm = b := by
  have state : k.winchMoved.state = idleState k.ws k.wnc.load := by rw [moved, Wnc.endByLoad_state, load]
  obtain ⟨same, rearm, -, -⟩ := k.winchDone_still (by rw [state]; exact idleState_still _ _)
  rw [same, state, rearm, k.winchDone_same.load]
  refine ⟨rfl, ?_⟩
  rw [moved]
  rfl

/-! ### From an idle winch -/

section Idle
variable (idle : k.wnc.state = .stopped ∨ k.wnc.state = .holding)
include idle

theorem State.winchDone_idle_stays
    (stays : ¬k.winchActs ∨ k.winchInput = 0 ∨ (0 < k.winchInput ∧ k.reelReady = false) ∨
      (k.winchInput < 0 ∧ (k.wnc.rearm = true ∨ k.wnc.atPayoutLimit k.ws = true))) :
    k.winchDone.wnc.state = idleState k.ws k.winchDone.wnc.load ∧
      k.winchDone.wnc.rearm = (k.wnc.rearm && decide (k.winchInput ≠ 0)) := by
  have moved := State.winchMoved_stays idle stays
  have state : k.winchMoved.state = idleState k.ws k.wnc.load := by rw [moved, k.winchSettled_idle idle]
  obtain ⟨same, rearm, -, -⟩ := k.winchDone_still (by rw [state]; exact idleState_still _ _)
  rw [same, state, rearm, moved, k.winchDone_same.load]
  exact ⟨rfl, rfl⟩

theorem State.winchDone_idle_pays (acts : k.winchActs) (down : k.winchInput < 0) (rearm : k.wnc.rearm = false)
    (room : k.wnc.atPayoutLimit k.ws = false) :
    k.winchDone.wnc.state = .paying ∧ k.winchDone.wnc.jamMs = 0 ∧ k.winchDone.wnc.rearm = false := by
  have moved := State.winchMoved_pays idle acts down rearm room
  obtain ⟨state, rearmed, jamMs, -⟩ := k.winchDone_still (by rw [moved]; rfl)
  rw [state, rearmed, jamMs, moved]
  refine ⟨rfl, rfl, ?_⟩
  change (k.wnc.rearm && _) = false
  rw [rearm, Bool.false_and]

end Idle

/-! ### A reel that starts -/

section Start
variable (moved : k.winchMoved = k.winchSettled.startReel)
include moved

theorem State.winchDone_start_hard (hard : k.ws.nat Item.tensionHardN < k.wnc.load) : k.hardHeld k.winchDone :=
  k.winchDone_hard (by rw [moved]; exact reelState_reels _) hard

theorem State.winchDone_start (soft : ¬k.ws.nat Item.tensionHardN < k.wnc.load)
    (free : k.wnc.lineSpeed ≠ 0 ∨ 20 < k.ws.nat Item.jamMs) :
    k.winchDone.wnc.state = reelState k.wnc.selection ∧ k.winchDone.wnc.jamMs = jamAfter k.wnc.lineSpeed 0 ∧
      k.winchDone.wnc.rearm = (k.wnc.rearm && decide (k.winchInput ≠ 0)) := by
  have timer : k.winchMoved.jamMs = 0 := by rw [moved]; rfl
  obtain ⟨state, rearm, jamMs⟩ := k.winchDone_goes (by rw [moved]; exact reelState_reels _) soft
    (by rw [timer]; exact jamAfter_start free)
  rw [state, rearm, jamMs, timer, moved]
  exact ⟨rfl, rfl, rfl⟩

end Start

/-! ### A winch that is away, and one that was ended -/

theorem State.winchDone_away (away : k.wnc.state.away) :
    k.winchDone.wnc.state = k.wnc.state ∧ k.winchDone.wnc.jamMs = k.wnc.jamMs ∧ k.winchDone.link = k.link := by
  have settled : k.winchSettled.state = k.wnc.state := by
    refine k.winchSettled_state ?_
    rintro (e | e) <;> rw [e] at away <;> obtain h | h | h | h := away <;> cases h
  have moved := State.winchMoved_away away
  have still : k.winchMoved.state.reels = false := by
    rw [moved, settled]
    obtain h | h | h | h := away <;> rw [h] <;> rfl
  obtain ⟨state, -, jamMs, link⟩ := k.winchDone_still still
  rw [state, jamMs, moved, settled]
  exact ⟨rfl, rfl, link⟩

/-- A movement that came home, or that a code ended, stays ended: re-arm bars the axis until it is neutral (R150). -/
theorem State.winchDone_of_ended (ended : k.wnc.ended) :
    k.winchDone.wnc.state = idleState k.ws k.winchDone.wnc.load ∧
      k.winchDone.wnc.rearm = decide (k.winchInput ≠ 0) := by
  obtain ⟨idle, rearm⟩ := ended
  have stays := State.winchDone_idle_stays idle (k := k) ?_
  · rwa [rearm, Bool.true_and] at stays
  · by_cases zero : k.winchInput = 0
    · exact .inr (.inl zero)
    · by_cases up : 0 < k.winchInput
      · exact .inr (.inr (.inl ⟨up, State.reelReady_barred (.inr ⟨rearm, zero⟩)⟩))
      · exact .inr (.inr (.inr ⟨by omega, .inl rearm⟩))

end Steps

/-! ## From the state before the update -/

/-- An update from `s` that comes to step 6 in `k`, the movement as it was. -/
structure State.Comes (s k : State) : Prop where
  only : s.WinchOnly k
  stands : s.wnc.Stands k.wnc

section Update
variable {s k : State}

theorem State.WinchOnly.input (only : s.WinchOnly k) : k.winchInput = shaped s.ws s.intent.axes.winch := by
  unfold State.winchInput
  rw [only.ws, only.axes]

theorem State.WinchOnly.acts (only : s.WinchOnly k) :
    k.winchActs ↔ s.mdc.mode = .run ∧ k.winchDone.wnc.selection ≠ .off := by
  unfold State.winchActs
  rw [only.mdc, k.winchDone_same.selection]

theorem State.Comes.starts (comes : s.Comes k) :
    k.reelStarts k.wnc.lineIn k.wnc.selection ↔ s.reelStarts k.winchDone.wnc.lineIn k.winchDone.wnc.selection := by
  unfold State.reelStarts
  rw [comes.only.ws, comes.only.axes, comes.only.drc, comes.stands.rearm, k.winchDone_same.lineIn,
    k.winchDone_same.selection]

theorem State.WinchOnly.limit (only : s.WinchOnly k) :
    k.wnc.atPayoutLimit k.ws = k.winchDone.wnc.atPayoutLimit s.ws := by
  unfold Wnc.atPayoutLimit
  rw [only.ws, k.winchDone_same.line]

theorem State.WinchOnly.hard (only : s.WinchOnly k) (held : k.hardHeld k.winchDone) : s.hardHeld k.winchDone := by
  unfold State.hardHeld at held ⊢
  rwa [only.ws] at held

/-- What an update makes of an idle winch (R148, R150, R151). -/
theorem State.Comes.idle (comes : s.Comes k) (idle : s.wnc.state = .stopped ∨ s.wnc.state = .holding) :
    let t := k.winchDone
    let axis := shaped s.ws s.intent.axes.winch
    let acts := s.mdc.mode = .run ∧ t.wnc.selection ≠ .off
    let starts := s.reelStarts t.wnc.lineIn t.wnc.selection
    let hard := s.ws.nat Item.tensionHardN < t.wnc.load
    (¬acts ∨ axis = 0 → t.wnc.state = idleState s.ws t.wnc.load ∧
      t.wnc.rearm = (s.wnc.rearm && decide (axis ≠ 0))) ∧
    (acts → 0 < axis → starts → hard → s.hardHeld t) ∧
    (acts → 0 < axis → starts → ¬hard → (t.wnc.lineSpeed ≠ 0 ∨ 20 < s.ws.nat Item.jamMs) →
      t.wnc.state = reelState t.wnc.selection ∧ t.wnc.jamMs = jamAfter t.wnc.lineSpeed 0 ∧ t.wnc.rearm = false) ∧
    (acts → 0 < axis → ¬starts → t.wnc.state = idleState s.ws t.wnc.load ∧ t.wnc.rearm = s.wnc.rearm) ∧
    (acts → axis < 0 → s.wnc.rearm = false → t.wnc.atPayoutLimit s.ws = false →
      t.wnc.state = .paying ∧ t.wnc.jamMs = 0 ∧ t.wnc.rearm = false) ∧
    (acts → axis < 0 → (s.wnc.rearm = true ∨ t.wnc.atPayoutLimit s.ws = true) →
      t.wnc.state = idleState s.ws t.wnc.load ∧ t.wnc.rearm = s.wnc.rearm) := by
  have kIdle : k.wnc.state = .stopped ∨ k.wnc.state = .holding := by rw [comes.stands.state]; exact idle
  have same := k.winchDone_same
  dsimp only
  rw [← comes.only.input, ← comes.only.acts, ← comes.starts, ← comes.only.limit, ← comes.stands.rearm, ← comes.only.ws]
  have keeps : k.winchInput ≠ 0 → (k.wnc.rearm && decide (k.winchInput ≠ 0)) = k.wnc.rearm := fun input => by
    rw [decide_eq_true input, Bool.and_true]
  have begins : k.winchActs → 0 < k.winchInput → k.reelStarts k.wnc.lineIn k.wnc.selection →
      k.winchMoved = k.winchSettled.startReel := fun acts up starts =>
    State.winchMoved_starts kIdle acts up ((State.reelReady_iff (by omega)).mpr starts) starts.2.2.1
  refine ⟨fun stays => ?_, fun acts up starts hard => ?_, fun acts up starts soft free => ?_, fun acts up barred => ?_,
    fun acts down rearm room => State.winchDone_idle_pays kIdle acts down rearm room, fun acts down barred => ?_⟩
  · exact State.winchDone_idle_stays kIdle (stays.imp id .inl)
  · rw [same.load] at hard
    exact comes.only.hard (State.winchDone_start_hard (begins acts up starts) hard)
  · rw [same.load] at soft
    rw [same.lineSpeed] at free ⊢
    obtain ⟨state, jamMs, rearm⟩ := State.winchDone_start (begins acts up starts) soft free
    rw [state, jamMs, rearm, same.selection, starts.1]
    exact ⟨rfl, rfl, rfl⟩
  · have stays := State.winchDone_idle_stays kIdle (.inr (.inr (.inl ⟨up, Bool.eq_false_iff.mpr fun ready =>
      barred ((State.reelReady_iff (by omega)).mp ready)⟩)))
    rwa [keeps (by omega)] at stays
  · have stays := State.winchDone_idle_stays kIdle (.inr (.inr (.inr ⟨down, barred⟩)))
    rwa [keeps (by omega)] at stays

/-- What an update makes of a reel that goes on to the axis (R151, R152, R154). -/
theorem State.Comes.reels (comes : s.Comes k) (reels : s.wnc.state.reels = true)
    (run : s.mdc.mode = .run) (on : k.winchDone.wnc.selection ≠ .off) :
    let t := k.winchDone
    let axis := shaped s.ws s.intent.axes.winch
    let hard := s.ws.nat Item.tensionHardN < t.wnc.load
    let backs := s.wnc.state = .reeling ∧ s.drc.reversing = true
    let jamMs := jamAfter t.wnc.lineSpeed s.wnc.jamMs
    (axis = 0 → t.wnc.state = idleState s.ws t.wnc.load ∧ t.wnc.rearm = false) ∧
    (axis < 0 → t.wnc.atPayoutLimit s.ws = false → t.wnc.state = .paying) ∧
    (axis < 0 → t.wnc.atPayoutLimit s.ws = true → t.wnc.state = idleState s.ws t.wnc.load ∧ t.wnc.rearm = true) ∧
    (0 < axis → backs → t.wnc.state = idleState s.ws t.wnc.load ∧ t.wnc.rearm = true) ∧
    (0 < axis → ¬backs → hard → s.hardHeld t) ∧
    (0 < axis → ¬backs → ¬hard → (t.wnc.lineSpeed ≠ 0 ∨ jamMs < s.ws.nat Item.jamMs) →
      t.wnc.state = s.wnc.state ∧ t.wnc.jamMs = jamMs) ∧
    (0 < axis → ¬backs → ¬hard → t.wnc.lineSpeed = 0 → s.ws.nat Item.jamMs ≤ jamMs →
      t.wnc.state = .jammed ∧ t.wnc.jamMs = jamMs ∧ t.wnc.rearm = true ∧
      (s.ws.notices .winch = true →
        t.noticed (.winch ⟨.jammed, none, .jammed, t.wnc.clutch, t.wnc.line, t.wnc.load⟩))) := by
  have kReels : k.wnc.state.reels = true := by rw [comes.stands.state]; exact reels
  have acts : k.winchActs := comes.only.acts.mpr ⟨run, on⟩
  have same := k.winchDone_same
  have settled : k.winchSettled.state = k.wnc.state := State.winchSettled_reels kReels
  dsimp only
  rw [← comes.only.input, ← comes.only.limit, ← comes.only.ws, ← comes.stands.state, ← comes.stands.jamMs,
    ← comes.only.drc]
  have goes : 0 < k.winchInput → ¬(k.wnc.state = .reeling ∧ k.drc.reversing = true) → k.winchMoved = k.winchSettled :=
    fun up forward => State.winchMoved_reel_goes kReels acts up forward
  refine ⟨fun zero => State.winchDone_ended rfl (State.winchMoved_reel_neutral kReels acts zero), fun down room => ?_,
    fun down limit => ?_, fun up backs =>
      State.winchDone_ended rfl (State.winchMoved_reel_backs kReels acts up backs.1 backs.2), fun up forward hard => ?_,
    fun up forward soft free => ?_, fun up forward soft stands long => ?_⟩
  · have moved := State.winchMoved_reel_out kReels acts down
    rw [room, if_neg Bool.false_ne_true] at moved
    rw [(k.winchDone_still (by rw [moved]; rfl)).1, moved]
    rfl
  · have moved := State.winchMoved_reel_out kReels acts down
    rw [limit, if_pos rfl] at moved
    exact State.winchDone_ended rfl moved
  · rw [same.load] at hard
    refine comes.only.hard (k.winchDone_hard ?_ hard)
    rw [goes up forward, settled, kReels]
  · rw [same.load] at soft
    rw [same.lineSpeed] at free ⊢
    have moved := goes up forward
    have timer : k.winchMoved.jamMs = k.wnc.jamMs := by rw [moved]; rfl
    obtain ⟨state, -, jamMs⟩ := k.winchDone_goes (by rw [moved, settled, kReels]) soft (by rw [timer]; exact free)
    rw [state, jamMs, timer, moved, settled]
    exact ⟨rfl, rfl⟩
  · rw [same.load] at soft
    rw [same.lineSpeed] at stands long ⊢
    have moved := goes up forward
    have timer : k.winchMoved.jamMs = k.wnc.jamMs := by rw [moved]; rfl
    have jams := k.winchDone_jams (by rw [moved, settled, kReels]) soft stands (by rw [timer]; exact long)
    rwa [timer] at jams

/-- What an update makes of paying out that goes on to the axis (R151, R152). -/
theorem State.Comes.pays (comes : s.Comes k) (paying : s.wnc.state = .paying)
    (run : s.mdc.mode = .run) (on : k.winchDone.wnc.selection ≠ .off) :
    let t := k.winchDone
    let axis := shaped s.ws s.intent.axes.winch
    let starts := s.reelStarts t.wnc.lineIn t.wnc.selection
    let hard := s.ws.nat Item.tensionHardN < t.wnc.load
    (axis = 0 → t.wnc.state = idleState s.ws t.wnc.load ∧ t.wnc.rearm = false) ∧
    (axis < 0 → t.wnc.state = if t.wnc.atPayoutLimit s.ws then idleState s.ws t.wnc.load else .paying) ∧
    (axis < 0 → t.wnc.atPayoutLimit s.ws = true → t.wnc.rearm = true) ∧
    (0 < axis → starts → hard → s.hardHeld t) ∧
    (0 < axis → starts → ¬hard → (t.wnc.lineSpeed ≠ 0 ∨ 20 < s.ws.nat Item.jamMs) →
      t.wnc.state = reelState t.wnc.selection) ∧
    (0 < axis → ¬starts → t.wnc.state = idleState s.ws t.wnc.load ∧ t.wnc.rearm = true) := by
  have kPays : k.wnc.state = .paying := by rw [comes.stands.state]; exact paying
  have acts : k.winchActs := comes.only.acts.mpr ⟨run, on⟩
  have same := k.winchDone_same
  have settled : k.winchSettled.state = .paying := State.winchSettled_paying kPays
  dsimp only
  rw [← comes.only.input, ← comes.starts, ← comes.only.limit, ← comes.only.ws]
  have turns : 0 < k.winchInput → k.reelStarts k.wnc.lineIn k.wnc.selection →
      k.winchMoved = k.winchSettled.startReel := fun up starts =>
    State.winchMoved_pay_turns kPays acts up ((State.reelReady_iff (by omega)).mpr starts) starts.2.2.1
  refine ⟨fun zero => State.winchDone_ended rfl (State.winchMoved_pay_neutral kPays acts zero), fun down => ?_,
    fun down limit => ?_, fun up starts hard => ?_, fun up starts soft free => ?_, fun up barred => ?_⟩
  · have moved := State.winchMoved_pay_goes kPays acts down
    by_cases limit : k.wnc.atPayoutLimit k.ws = true
    · rw [if_pos limit] at moved ⊢
      exact (State.winchDone_ended rfl moved).1
    · rw [if_neg limit] at moved ⊢
      rw [(k.winchDone_still (by rw [moved, settled]; rfl)).1, moved, settled]
  · have moved := State.winchMoved_pay_goes kPays acts down
    rw [if_pos limit] at moved
    exact (State.winchDone_ended rfl moved).2
  · rw [same.load] at hard
    exact comes.only.hard (State.winchDone_start_hard (turns up starts) hard)
  · rw [same.load] at soft
    rw [same.lineSpeed] at free
    rw [(State.winchDone_start (turns up starts) soft free).1, same.selection]
  · exact State.winchDone_ended rfl (State.winchMoved_pay_ends kPays acts up (Bool.eq_false_iff.mpr fun ready =>
      barred ((State.reelReady_iff (by omega)).mp ready)))

end Update

end Sys2Proof.Machine
end

section
/-! PROOF. The winch update as a whole (R146 to R153, R159). -/
namespace Sys2Proof.Machine

/-- A pending set with no lowest notice is empty (R11). -/
theorem NoticeSet.get_of_no_lowest {t : NoticeSet} (empty : t.lowest = none) (k : NoticeKind) : t.get k = none :=
  List.findSome?_eq_none_iff.mp empty k (by cases k <;> simp [noticeKinds])

/-- The update is its steps 1 to 5, then the rest. -/
theorem exec_winchUpdate {s : State} (powered : s.powered = true) (r : WinchReading) :
    exec (.winchUpdate r) s = .next (s.winchTaken r).winchDone := by
  have acts : exec (.winchUpdate r) s = act s fun u => (u.winchTaken r).winchState.winchDuty.winchWish := rfl
  rw [acts, act_powered powered]
  rfl

section Whole
variable (s : State) (r : WinchReading)

/-- Step 6 finds a movement that has ended, a clutch that engages, or the winch as it was. -/
theorem State.winchTaken_fate : (s.winchTaken r).wnc.ended ∨ (s.winchTaken r).wnc.state = .clutchEngaging ∨
    s.Comes (s.winchTaken r) := by
  by_cases ends : (s.wnc.state.reels = true ∧ s.lineInCloses r) ∨ s.codeStops
  · exact .inl (s.winchTaken_ended r ends)
  · obtain ⟨home, uncoded⟩ := not_or.mp ends
    by_cases engages : s.wnc.state.solenoid = true ∧ s.engageDue
    · exact .inr (.inl (s.winchTaken_engages r engages.1 engages.2).1)
    · exact .inr (.inr ⟨s.winchTaken_only r,
        s.winchTaken_goes r (not_and.mp home) uncoded (not_and.mp engages)⟩)

/-- What does not move before the update comes to step 6 as it was, unless its clutch engages. -/
theorem State.winchTaken_still (still : s.wnc.state.moves = false) (stays : s.wnc.state.solenoid = true → ¬s.engageDue) :
    s.Comes (s.winchTaken r) := by
  obtain ⟨home, uncoded⟩ := State.still_goes (r := r) still
  exact ⟨s.winchTaken_only r, s.winchTaken_goes r home uncoded stays⟩

/-- A movement that goes on comes to step 6 as it was. -/
theorem State.winchTaken_moves (moves : s.wnc.state.moves = true) (goes : s.movementGoesOn r) :
    s.Comes (s.winchTaken r) := by
  obtain ⟨-, uncoded, home⟩ := goes
  refine ⟨s.winchTaken_only r, s.winchTaken_goes r home uncoded fun powered => ?_⟩
  obtain e | e := (WinchState.solenoid_iff _).mp powered <;> rw [e] at moves <;> cases moves

/-! ## The notice of a line that has come home (R147, R161) -/

/-- Nothing reels after the line has come home. -/
theorem State.winchTaken_home (closes : s.lineInCloses r) : (s.winchTaken r).wnc.state.reels = false := by
  have of_ended : (s.winchTaken r).wnc.ended → (s.winchTaken r).wnc.state.reels = false := by
    rintro ⟨idle | idle, -⟩ <;> rw [idle] <;> rfl
  by_cases reels : s.wnc.state.reels = true
  · exact of_ended (s.winchTaken_ended r (.inl ⟨reels, closes⟩))
  · obtain ended | engaging | comes := s.winchTaken_fate r
    · exact of_ended ended
    · rw [engaging]; rfl
    · rw [comes.stands.state]; exact Bool.eq_false_iff.mpr reels

/-- The steps from the axis on raise nothing at an update at which the line comes home. -/
theorem State.winchUpdate_link (closes : s.lineInCloses r) :
    (s.winchTaken r).winchDone.link = (s.winchTaken r).link := by
  have home : (s.winchTaken r).wnc.lineIn = true := by
    obtain ⟨closed, before, -⟩ := closes
    rw [(s.winchTaken_reads r).lineIn, closed, before, if_pos rfl]
  exact ((s.winchTaken r).winchDone_still
    (State.winchMoved_quiet _ (s.winchTaken_home r closes) (State.reelReady_barred (.inl home)))).2.2.2

theorem State.winchUpdate_referenced (closes : s.lineInCloses r) (inMask : s.ws.notices .winch = true)
    (stays : s.wnc.state.solenoid = true → ¬s.engageDue) :
    (s.winchTaken r).winchDone.noticed s.referencedNotice := by
  have raised : (s.raise s.referencedNotice).noticed s.referencedNotice := s.raise_noticed inMask
  refine State.noticed_of_link ?_ raised
  rw [s.winchUpdate_link r closes, s.winchTaken_link r stays, s.winchRead_link r closes]
  rfl

/-- An idle transmitter with nothing to send takes the notice, and keeps it. -/
theorem State.winchUpdate_referenced_tx (closes : s.lineInCloses r) (inMask : s.ws.notices .winch = true)
    (tx : s.link.tx = none) (replies : s.link.replies = []) (lowest : s.link.notices.lowest = none) :
    (s.winchTaken r).winchDone.link.tx = some s.referencedNotice.frame := by
  refine State.winchDone_tx _ (s.winchTaken_tx r ?_)
  rw [s.winchRead_link r closes, inMask]
  exact Link.raise_idle tx replies (NoticeSet.get_of_no_lowest lowest) _

/-! ## The clutch (R159) -/

/-- A clutch that is forced to engage travels, and its notice is raised. -/
theorem State.winchUpdate_engages (powered : s.wnc.state.solenoid = true) (due : s.engageDue) :
    let t := (s.winchTaken r).winchDone
    t.wnc.state = .clutchEngaging ∧ t.wnc.clutch = .moving ∧ t.wnc.clutchMs = 150 ∧
      (s.ws.notices .winch = true → t.noticed (.winch ⟨.forcedEngage,
        some (if s.grant .winch < 300 then .lowGrant else .driveAway), .clutchEngaging, .moving, t.wnc.line,
        t.wnc.load⟩)) := by
  obtain ⟨engaging, clutch, clutchMs, told⟩ := s.winchTaken_engages r powered due
  generalize s.winchTaken r = k at engaging clutch clutchMs told
  obtain ⟨state, -, link⟩ := State.winchDone_away (k := k) (.inr (.inr (.inl engaging)))
  have same := k.winchDone_same
  dsimp only
  rw [state, engaging, same.clutch, clutch, same.clutchMs, clutchMs, same.line, same.load]
  exact ⟨rfl, rfl, rfl, fun inMask => State.noticed_of_link link (told inMask)⟩

/-- A winch that is away and whose clutch is not forced stays as it is. -/
theorem State.winchUpdate_away (away : s.wnc.state.away) (stays : s.wnc.state.solenoid = true → ¬s.engageDue) :
    let t := (s.winchTaken r).winchDone
    t.wnc.state = s.wnc.state ∧ t.wnc.jamMs = s.wnc.jamMs ∧ t.wnc.clutch = s.wnc.clutch ∧
      t.wnc.clutchMs = s.wnc.clutchMs := by
  have still : s.wnc.state.moves = false := by
    obtain e | e | e | e := away <;> rw [e] <;> rfl
  have comes := s.winchTaken_still r still stays
  generalize s.winchTaken r = k at comes
  obtain ⟨state, jamMs, -⟩ := State.winchDone_away (k := k) (by rw [comes.stands.state]; exact away)
  have same := k.winchDone_same
  dsimp only
  rw [state, jamMs, same.clutch, same.clutchMs]
  exact ⟨comes.stands.state, comes.stands.jamMs, comes.stands.clutch, comes.stands.clutchMs⟩

/-! ## A movement that ends (R147, R149) -/

theorem State.winchUpdate_ended (ends : (s.wnc.state.reels = true ∧ s.lineInCloses r) ∨ s.codeStops) :
    let t := (s.winchTaken r).winchDone
    t.wnc.state = idleState s.ws t.wnc.load ∧ t.wnc.rearm = decide (shaped s.ws s.intent.axes.winch ≠ 0) := by
  have ended := State.winchDone_of_ended (s.winchTaken_ended r ends)
  rwa [(s.winchTaken_only r).input, (s.winchTaken_only r).ws] at ended

/-! ## The readings, the duty, the wish (R147, R152, R153) -/

theorem State.winchUpdate_reads : s.WinchReads r (s.winchTaken r).winchDone.wnc := by
  have reads := s.winchTaken_reads r
  generalize s.winchTaken r = k at reads
  have same := k.winchDone_same
  exact {
    lineSpeed := same.lineSpeed.trans reads.lineSpeed
    load := same.load.trans reads.load
    current := same.current.trans reads.current
    lineInPrev := same.lineInPrev.trans reads.lineInPrev
    lineIn := same.lineIn.trans reads.lineIn
    home := fun closes => same.line.trans (reads.home closes)
    unreferenced := fun open_ none_ => same.line.trans (reads.unreferenced open_ none_)
    counted := fun l open_ known => same.line.trans (reads.counted l open_ known) }

/-- The code at the head of the queue is taken, and kept (R149). -/
theorem State.winchUpdate_noCode (empty : s.intent.winch.queue = []) :
    (s.winchTaken r).winchDone.wnc.selection = s.wnc.selection ∧
      (s.winchTaken r).winchDone.intent.winch = s.intent.winch := by
  rw [(State.winchDone_same _).selection, State.winchDone_intent]
  exact s.winchTaken_noCode r empty

theorem State.winchUpdate_code {c : WinchSel} {rest : List WinchSel} (head : s.intent.winch.queue = c :: rest) :
    (s.winchTaken r).winchDone.wnc.selection = c ∧
      (s.winchTaken r).winchDone.intent.winch = { s.intent.winch with queue := rest } := by
  rw [(State.winchDone_same _).selection, State.winchDone_intent]
  exact s.winchTaken_code r head

/-- A winch that moves after the update came to step 7 with the duty before it. -/
theorem State.winchTaken_duty (moves : (s.winchTaken r).winchDone.wnc.state.moves = true) :
    (s.winchTaken r).wnc.duty = s.wnc.duty := by
  obtain ended | engaging | comes := s.winchTaken_fate r
  · rw [(State.winchDone_of_ended ended).1] at moves
    obtain idle | idle := idleState_idle (s.winchTaken r).ws (s.winchTaken r).winchDone.wnc.load <;>
      rw [idle] at moves <;> cases moves
  · rw [(State.winchDone_away (.inr (.inr (.inl engaging)))).1, engaging] at moves
    cases moves
  · exact comes.stands.duty

theorem State.winchUpdate_ceiling : (s.winchTaken r).winchDone.wnc.ceiling =
    ceilingAfter s.wnc.ceiling (s.winchTaken r).winchDone.wnc.current (s.grant .winch) := by
  rw [State.winchDone_ceiling, (State.winchDone_same _).current, State.grant, (s.winchTaken_only r).cau,
    (s.winchTaken_limits r).2]
  rfl

theorem State.winchUpdate_drives (moves : (s.winchTaken r).winchDone.wnc.state.moves = true) :
    let t := (s.winchTaken r).winchDone
    t.wnc.demand = demandOf s.ws s.pkm.level t.wnc.state (shaped s.ws s.intent.axes.winch) t.wnc.load ∧
      t.wnc.duty = nextDuty s.wnc.duty t.wnc.demand t.wnc.lineSpeed t.wnc.ceiling := by
  have only := s.winchTaken_only r
  have drives := State.winchDone_drives _ moves
  rwa [s.winchTaken_duty r moves, only.ws, only.pkm, only.input] at drives

theorem State.winchUpdate_load (reels : (s.winchTaken r).winchDone.wnc.state.reels = true) :
    (s.winchTaken r).winchDone.wnc.load ≤ s.ws.nat Item.tensionHardN := by
  rw [(State.winchDone_state _).1] at reels
  rw [(State.winchDone_same _).load, ← (s.winchTaken_only r).ws]
  exact State.winchTurned_load _ reels

theorem State.winchUpdate_limitCount : (s.winchTaken r).winchDone.wnc.limitCount =
    if (s.winchTaken r).winchDone.wnc.state.reels = true ∧
      (s.cau.records.get .winch).scaled < (s.winchTaken r).winchDone.wnc.current then
      min 2 (s.wnc.limitCount + 1) else 0 := by
  rw [State.winchDone_limitCount, (s.winchTaken_only r).cau, (s.winchTaken_limits r).1]

theorem State.winchUpdate_wish :
    ((s.winchTaken r).winchDone.wnc.limitCount = 2 ∧ (s.winchTaken r).winchDone.wnc.state.reels = true ↔
      (s.winchTaken r).winchDone.cau.records.winch.wish = true) ∧
    ∀ c, c ≠ .winch → (s.winchTaken r).winchDone.cau.records.get c = s.cau.records.get c := by
  have wish := State.winchDone_wish (s.winchTaken r)
  rwa [(s.winchTaken_only r).cau] at wish

theorem State.winchUpdate_frame :
    s.changesOnly (s.winchTaken r).winchDone [.output, .intent, .cau, .wnc] :=
  State.changesOnly_trans (State.changesOnly_mono (s.winchTaken_only r).frame (by simp))
    (State.winchDone_changes _)

end Whole

/-- Settles O43: the update is cut at step 6 (`winchTaken`, `winchDone`). What steps 1 to 5 make of the winch
(`winchTaken_fate`) tells which paragraph of the statement applies. -/
theorem winchUpdateReadsAndGuards : Obligations.WinchUpdateReadsAndGuards := by
  unfold Obligations.WinchUpdateReadsAndGuards
  intro s r powered
  refine ⟨(s.winchTaken r).winchDone, exec_winchUpdate powered r, ?_⟩
  have reads := s.winchUpdate_reads r
  have only := s.winchTaken_only r
  have intent := (s.winchTaken r).winchDone_intent
  have wish := s.winchUpdate_wish r
  refine ⟨reads.lineSpeed, reads.load, reads.current, reads.lineInPrev, reads.lineIn, reads.home, reads.unreferenced,
    reads.counted, s.winchUpdate_noCode r, fun c rest => s.winchUpdate_code r,
    fun reels closes => s.winchUpdate_ended r (.inl ⟨reels, closes⟩), fun closes inMask => ⟨fun unforced => ?_,
      s.winchUpdate_referenced_tx r closes inMask⟩,
    fun _ stops => s.winchUpdate_ended r (.inr stops), fun clutch => ⟨fun due => ?_, fun enough parked => ?_⟩,
    fun away => ?_, fun jammed => ?_, fun idle => ?_, fun reels goes on => ?_, fun paying goes on => ?_,
    s.winchUpdate_ceiling r, State.winchDone_zero _, s.winchUpdate_drives r, s.winchUpdate_load r,
    State.winchDone_duty_le _, s.winchUpdate_limitCount r, wish.1, wish.2, s.winchUpdate_frame r, ?_, ?_, ?_, ?_⟩
  · exact s.winchUpdate_referenced r closes inMask fun on due =>
      unforced ⟨(WinchState.solenoid_iff _).mp on, due⟩
  · exact s.winchUpdate_engages r ((WinchState.solenoid_iff _).mpr clutch) due
  · obtain ⟨state, -, rest⟩ := s.winchUpdate_away r (clutch.imp id .inl) fun _ => not_or.mpr ⟨enough, parked⟩
    exact ⟨state, rest⟩
  · refine (s.winchUpdate_away r (.inr (.inr away)) fun on => ?_).1
    obtain e | e := away <;> rw [e] at on <;> cases on
  · refine (s.winchUpdate_away r (.inr (.inr (.inr jammed))) fun on => ?_).2.1
    rw [jammed] at on
    cases on
  · refine (s.winchTaken_still r ?_ fun on => ?_).idle idle
    · obtain e | e := idle <;> rw [e] <;> rfl
    · obtain e | e := idle <;> rw [e] at on <;> cases on
  · exact (s.winchTaken_moves r (WinchState.moves_of_reels reels) goes).reels reels goes.1 on
  · exact (s.winchTaken_moves r (by rw [paying]; rfl) goes).pays paying goes.1 on
  · rw [intent, only.axes]
  · rw [intent, only.steer]
  · rw [intent, only.drive]
  · rw [intent, only.light]

end Sys2Proof.Machine
end

section
/-! PROOF. The switches (R20, R22): what a look at a code and the taking of a head make of a change queue. -/
namespace Sys2Proof.Machine

/-! ## A change queue (R22) -/

/-- A sound change queue is empty, or holds the last accepted code behind at most one other. -/
theorem Switch.sound_cases {α : Type} {w : Switch α} (h : w.Sound) :
    w.queue = [] ∨ (∃ a, w.queue = [a] ∧ w.last = some a) ∨ ∃ a b, w.queue = [a, b] ∧ a ≠ b ∧ w.last = some b := by
  unfold Switch.Sound at h
  split at h
  · exact .inl ‹_›
  · exact .inr (.inl ⟨_, ‹_›, h⟩)
  · exact .inr (.inr ⟨_, _, ‹_›, h⟩)
  · exact h.elim

/-- Soundness is judged by the queue and the last accepted code. -/
theorem Switch.Sound.congr {α : Type} {w v : Switch α} (h : w.Sound) (queue : v.queue = w.queue)
    (last : v.last = w.last) : v.Sound := by
  unfold Switch.Sound at h ⊢
  rwa [queue, last]

/-- The taking of the head leaves a sound queue (R22). -/
theorem Switch.Sound.tail {α : Type} {w : Switch α} (h : w.Sound) {a : α} {rest : List α}
    (head : w.queue = a :: rest) : Switch.Sound { w with queue := rest } := by
  obtain empty | ⟨b, one, -⟩ | ⟨b, c, two, -, last⟩ := Switch.sound_cases h
  · rw [empty] at head; cases head
  · rw [one] at head; cases head; trivial
  · rw [two] at head; cases head; exact last

section
variable {α : Type} [DecidableEq α]

/-! ## A look at a code (R20) -/

/-- A look makes the code the candidate. -/
@[simp] theorem Switch.see_candidate (w : Switch α) (x : α) : (w.see x).candidate = some x := by
  unfold Switch.see; split <;> rfl

/-- A first look, or one at the last accepted code, accepts nothing. -/
theorem Switch.see_waits {w : Switch α} {x : α} (h : ¬(w.candidate = some x ∧ w.last ≠ some x)) :
    w.see x = { w with candidate := some x } := if_neg h

/-- A second look at a code other than the last accepted one accepts and offers it. -/
theorem Switch.see_accepts {w : Switch α} {x : α} (seen : w.candidate = some x) (new : w.last ≠ some x) :
    w.see x = { candidate := some x, last := some x, queue := offer x w.queue } := if_pos ⟨seen, new⟩

/-- An accepted code offered to a sound queue leaves a sound one (R22). -/
theorem Switch.Sound.offered {w : Switch α} (h : w.Sound) {x : α} (new : w.last ≠ some x) :
    Switch.Sound { candidate := some x, last := some x, queue := offer x w.queue } := by
  obtain empty | ⟨a, one, last⟩ | ⟨a, b, two, -, -⟩ := Switch.sound_cases h
  · rw [empty]; rfl
  · rw [one]
    exact ⟨fun e => new (e ▸ last), rfl⟩
  · rw [two, offer]
    split
    · rename_i same; rw [same]; rfl
    · rename_i other; exact ⟨fun e => other e.symm, rfl⟩

/-- A look keeps a sound queue sound (R20, R22). -/
theorem Switch.Sound.see {w : Switch α} (h : w.Sound) (x : α) : (w.see x).Sound := by
  by_cases accepted : w.candidate = some x ∧ w.last ≠ some x
  · rw [Switch.see_accepts accepted.1 accepted.2]
    exact h.offered accepted.2
  · rw [Switch.see_waits accepted]
    exact h.congr rfl rfl

end

/-- Settles O17: a look waits or accepts, and an accepted code is offered. -/
theorem switchSeesACode : Obligations.SwitchSeesACode := by
  intro α _ w x sound
  refine ⟨w.see_candidate x, sound.see x, fun waits => ?_, fun seen new => ?_⟩
  · rw [Switch.see_waits waits]
    exact ⟨rfl, rfl⟩
  · rw [Switch.see_accepts seen new]
    refine ⟨rfl, fun empty => ?_, fun a one => ?_, fun a b two => ?_⟩
    · rw [empty]; rfl
    · rw [one]; rfl
    · rw [two]; rfl

end Sys2Proof.Machine
end

section
/-! PROOF. What every step keeps of the driver's codes and of the energy counter (R22, R51), first part: the blocks'
operations leave the Intent Filter's and the Pack Monitor's state, but for the taking of a head. -/
namespace Sys2Proof.Machine

/-! ## One operation after another -/

/-- What each operation of a fold leaves, the fold leaves. -/
theorem foldl_leaves {α β : Type} (part : State → β) {f : State → α → State} (leaves : ∀ s x, part (f s x) = part s)
    (l : List α) (s : State) : part (l.foldl f s) = part s := by
  induction l generalizing s with
  | nil => rfl
  | cons x l ih => rw [List.foldl_cons, ih, leaves]

/-! ## Steering and search -/

@[simp] theorem State.steerNotice_rest (s : State) (e : SteerEvent) :
    (s.steerNotice e).intent = s.intent ∧ (s.steerNotice e).pkm = s.pkm := ⟨rfl, rfl⟩

@[simp] theorem State.aimCorners_rest (s : State) :
    s.aimCorners.intent = s.intent ∧ s.aimCorners.pkm = s.pkm := by
  unfold State.aimCorners; split <;> exact ⟨rfl, rfl⟩

@[simp] theorem State.settleEnds_rest (s : State) :
    s.settleEnds.intent = s.intent ∧ s.settleEnds.pkm = s.pkm := ⟨rfl, rfl⟩

@[simp] theorem State.alignExpires_rest (s : State) :
    s.alignExpires.intent = s.intent ∧ s.alignExpires.pkm = s.pkm := by
  unfold State.alignExpires; dsimp only; split <;> simp

@[simp] theorem State.adoptTarget_rest (s : State) :
    s.adoptTarget.intent = s.intent ∧ s.adoptTarget.pkm = s.pkm := by
  unfold State.adoptTarget; split <;> simp

@[simp] theorem State.advanceMachine_rest (s : State) :
    s.advanceMachine.intent = s.intent ∧ s.advanceMachine.pkm = s.pkm := by
  unfold State.advanceMachine; dsimp only; (repeat' split) <;> simp

@[simp] theorem State.putCorner_rest (s : State) (i : CornerId) (k : Corner) :
    (s.putCorner i k).intent = s.intent ∧ (s.putCorner i k).pkm = s.pkm := by
  unfold State.putCorner; dsimp only; split <;> simp

@[simp] theorem State.endSearch_rest (s : State) (c : EndCause) :
    (s.endSearch c).intent = s.intent ∧ (s.endSearch c).pkm = s.pkm := ⟨rfl, rfl⟩

@[simp] theorem State.abortSearch_rest (s : State) (c : EndCause) :
    (s.abortSearch c).intent = s.intent ∧ (s.abortSearch c).pkm = s.pkm := ⟨rfl, rfl⟩

@[simp] theorem State.beginCorner_rest (s : State) :
    s.beginCorner.intent = s.intent ∧ s.beginCorner.pkm = s.pkm := by
  unfold State.beginCorner; (repeat' split) <;> exact ⟨rfl, rfl⟩

@[simp] theorem State.endCorner_rest (s : State) (i : CornerId) (f : ResultEntry → ResultEntry) :
    (s.endCorner i f).intent = s.intent ∧ (s.endCorner i f).pkm = s.pkm := by
  unfold State.endCorner; dsimp only; split <;> exact ⟨rfl, rfl⟩

@[simp] theorem State.edgeFound_rest (s : State) (i : CornerId) :
    (s.edgeFound i).intent = s.intent ∧ (s.edgeFound i).pkm = s.pkm := by
  unfold State.edgeFound; dsimp only; split <;> simp

@[simp] theorem State.probeStep_rest (s : State) (i : CornerId) :
    (s.probeStep i).intent = s.intent ∧ (s.probeStep i).pkm = s.pkm := ⟨rfl, rfl⟩

@[simp] theorem State.judgeWait_rest (s : State) (i : CornerId) :
    (s.judgeWait i).intent = s.intent ∧ (s.judgeWait i).pkm = s.pkm := by
  unfold State.judgeWait; split <;> simp

@[simp] theorem State.judgeStep_rest (s : State) (i : CornerId) :
    (s.judgeStep i).intent = s.intent ∧ (s.judgeStep i).pkm = s.pkm := by
  unfold State.judgeStep; dsimp only; (repeat' split) <;> simp

@[simp] theorem State.searchFrame_rest (s : State) :
    s.searchFrame.intent = s.intent ∧ s.searchFrame.pkm = s.pkm := by
  unfold State.searchFrame; (repeat' split) <;> simp

@[simp] theorem State.followMode_rest (s : State) :
    s.followMode.intent = s.intent ∧ s.followMode.pkm = s.pkm := by
  unfold State.followMode State.abortOnMode; dsimp only; (repeat' split) <;> simp

@[simp] theorem State.workCorners_rest (s : State) :
    s.workCorners.intent = s.intent ∧ s.workCorners.pkm = s.pkm := by
  unfold State.workCorners
  split
  · simp
  · exact ⟨foldl_leaves State.intent (fun u i => (u.putCorner_rest i _).1) _ _,
      foldl_leaves State.pkm (fun u i => (u.putCorner_rest i _).2) _ _⟩

@[simp] theorem State.settleFailures_rest (s : State) (b : PerCorner Bool) :
    (s.settleFailures b).intent = s.intent ∧ (s.settleFailures b).pkm = s.pkm := by
  unfold State.settleFailures; split <;> simp

@[simp] theorem State.afterCorner_rest (s : State) (b : PerCorner Bool) :
    (s.afterCorner b).intent = s.intent ∧ (s.afterCorner b).pkm = s.pkm := by
  simp [State.afterCorner]

@[simp] theorem State.endFrame_rest (s : State) :
    s.endFrame.intent = s.intent ∧ s.endFrame.pkm = s.pkm := by
  simp [State.endFrame, State.sendPulses]

/-! ## Drive and winch -/

@[simp] theorem State.updateFollow_rest (s : State) :
    s.updateFollow.intent = s.intent ∧ s.updateFollow.pkm = s.pkm := ⟨rfl, rfl⟩

@[simp] theorem State.driveAxles_rest (s : State) :
    s.driveAxles.intent = s.intent ∧ s.driveAxles.pkm = s.pkm := ⟨rfl, rfl⟩

@[simp] theorem State.putAxle_rest (s : State) (i : AxleId) (a : Axle) :
    (s.putAxle i a).intent = s.intent ∧ (s.putAxle i a).pkm = s.pkm := ⟨rfl, rfl⟩

@[simp] theorem State.jam_rest (s : State) (ms : Nat) :
    (s.jam ms).intent = s.intent ∧ (s.jam ms).pkm = s.pkm := ⟨rfl, rfl⟩

@[simp] theorem State.cancelAssist_rest (s : State) :
    s.cancelAssist.intent = s.intent ∧ s.cancelAssist.pkm = s.pkm := by
  unfold State.cancelAssist; split <;> exact ⟨rfl, rfl⟩

/-! ## Lamps and store -/

@[simp] theorem State.failChannel_rest (s : State) (ch : ChannelId) :
    (s.failChannel ch).intent = s.intent ∧ (s.failChannel ch).pkm = s.pkm := by
  simp [State.failChannel, State.lampNotice]

@[simp] theorem State.examine_rest (s : State) (ch : ChannelId) :
    (s.examine ch).intent = s.intent ∧ (s.examine ch).pkm = s.pkm := by
  unfold State.examine; dsimp only; (repeat' split) <;> simp

@[simp] theorem State.diagnose_rest (s : State) (c : Vector Nat 12) :
    (s.diagnose c).intent = s.intent ∧ (s.diagnose c).pkm = s.pkm :=
  ⟨foldl_leaves State.intent (fun u ch => (u.examine_rest ch).1) _ _,
    foldl_leaves State.pkm (fun u ch => (u.examine_rest ch).2) _ _⟩

@[simp] theorem State.moveFunction_rest (s : State) (f : FunctionId) (ch : Option ChannelId) :
    (s.moveFunction f ch).intent = s.intent ∧ (s.moveFunction f ch).pkm = s.pkm := by
  unfold State.moveFunction; split <;> exact ⟨rfl, rfl⟩

@[simp] theorem State.clearFailed_rest (s : State) (ch : ChannelId) :
    (s.clearFailed ch).intent = s.intent ∧ (s.clearFailed ch).pkm = s.pkm := ⟨rfl, rfl⟩

@[simp] theorem State.onEdge_intent (s : State) (g : GenId) : (s.onEdge g).intent = s.intent := rfl

@[simp] theorem State.rederiveLamps_intent (s : State) (w : WorkingSet) : (s.rederiveLamps w).intent = s.intent := by
  have restarts : ∀ (u : State) old, (u.restartGens old).intent = u.intent := fun u old =>
    foldl_leaves State.intent (fun v g => by split <;> rfl) _ _
  unfold State.rederiveLamps
  dsimp only
  split <;> exact restarts _ _

/-! ## The Mode Controller -/

@[simp] theorem State.wake_rest (s : State) (c : WakeCause) :
    (s.wake c).intent = s.intent ∧ (s.wake c).pkm = s.pkm := by
  unfold State.wake; dsimp only; (repeat' split) <;> simp

@[simp] theorem State.report_rest (s : State) :
    s.report.intent = s.intent ∧ s.report.pkm = s.pkm := by
  unfold State.report; dsimp only; (repeat' split) <;> simp

@[simp] theorem State.endPackCheck_rest (s : State) :
    s.endPackCheck.intent = s.intent ∧ s.endPackCheck.pkm = s.pkm := by
  simp [State.endPackCheck]

@[simp] theorem State.countSample_rest (s : State) :
    s.countSample.intent = s.intent ∧ s.countSample.pkm = s.pkm := by
  unfold State.countSample; dsimp only; (repeat' split) <;> simp

@[simp] theorem State.silenceExpires_rest (s : State) :
    s.silenceExpires.intent = s.intent ∧ s.silenceExpires.pkm = s.pkm := by
  unfold State.silenceExpires; split <;> simp

@[simp] theorem State.autoParkExpires_rest (s : State) :
    s.autoParkExpires.intent = s.intent ∧ s.autoParkExpires.pkm = s.pkm := by
  unfold State.autoParkExpires; split <;> simp

@[simp] theorem State.parkTimerExpires_rest (s : State) :
    s.parkTimerExpires.intent = s.intent ∧ s.parkTimerExpires.pkm = s.pkm := by
  unfold State.parkTimerExpires; split <;> simp

@[simp] theorem State.judgeMotion_rest (s : State) :
    s.judgeMotion.intent = s.intent ∧ s.judgeMotion.pkm = s.pkm := by
  unfold State.judgeMotion; split <;> simp

@[simp] theorem State.readEncoders_rest (s : State) (r : DriveReading) :
    (s.readEncoders r).intent = s.intent ∧ (s.readEncoders r).pkm = s.pkm := by
  unfold State.readEncoders State.countMotion; dsimp only; split <;> simp

/-! ## The taking of a head (R22) -/

@[simp] theorem State.takeSteerCode_pkm (s : State) : s.takeSteerCode.pkm = s.pkm := by
  unfold State.takeSteerCode State.codeInSteady State.codeInAligning State.codeInSettling State.refuseCode
  dsimp only
  (repeat' split) <;> simp

@[simp] theorem State.takeDriveCode_pkm (s : State) : s.takeDriveCode.pkm = s.pkm := by
  unfold State.takeDriveCode; (repeat' split) <;> rfl

@[simp] theorem State.takeLightCode_pkm (s : State) : s.takeLightCode.pkm = s.pkm := by
  unfold State.takeLightCode; split <;> rfl

/-- STC takes nothing, or the head of its queue (R102). -/
theorem State.takeSteerCode_intent (s : State) :
    s.takeSteerCode.intent = s.intent ∨ ∃ c rest, s.intent.steer.queue = c :: rest ∧
      s.takeSteerCode.intent = { s.intent with steer := { s.intent.steer with queue := rest } } := by
  unfold State.takeSteerCode
  split
  · exact .inl rfl
  · rename_i c rest head
    have taken : ∀ u : State, (∀ m, (u.codeInSteady m).intent = u.intent) ∧
        (∀ m, (u.codeInAligning m).intent = u.intent) ∧ ∀ m, (u.codeInSettling m).intent = u.intent := fun u => by
      refine ⟨fun m => ?_, fun m => ?_, fun m => ?_⟩
      · unfold State.codeInSteady State.refuseCode; (repeat' split) <;> simp
      · unfold State.codeInAligning State.refuseCode; (repeat' split) <;> simp
      · unfold State.codeInSettling State.refuseCode; (repeat' split) <;> simp
    dsimp only
    split
    · exact .inr ⟨c, rest, head, (taken _).1 _⟩
    · exact .inr ⟨c, rest, head, (taken _).2.1 _⟩
    · exact .inr ⟨c, rest, head, (taken _).2.2 _⟩
    all_goals exact .inl rfl

end Sys2Proof.Machine
end

section
/-! PROOF. What every step keeps of the driver's codes and of the energy counter (R22, R51), second part: levels,
requests and commands. -/
namespace Sys2Proof.Machine

/-! ## The invariant -/

/-- The change queues and the energy counter are sound. -/
def State.TalliesSound (s : State) : Prop := s.SwitchesSound ∧ s.EnergySound

/-- From `s` to `t` no code was seen or taken, and the energy counter stands. -/
structure State.KeepsTallies (s t : State) : Prop where
  intent : t.intent = s.intent
  used : t.pkm.usedMah = s.pkm.usedMah
  residue : t.pkm.residue = s.pkm.residue

theorem State.KeepsTallies.refl (s : State) : s.KeepsTallies s := ⟨rfl, rfl, rfl⟩

theorem State.KeepsTallies.trans {s u t : State} (first : s.KeepsTallies u) (after : u.KeepsTallies t) :
    s.KeepsTallies t :=
  ⟨after.intent.trans first.intent, after.used.trans first.used, after.residue.trans first.residue⟩

theorem State.KeepsTallies.of_rest {s t : State} (rest : t.intent = s.intent ∧ t.pkm = s.pkm) : s.KeepsTallies t :=
  ⟨rest.1, by rw [rest.2], by rw [rest.2]⟩

theorem State.SwitchesSound.congr {s t : State} (h : s.SwitchesSound) (intent : t.intent = s.intent) :
    t.SwitchesSound :=
  ⟨intent ▸ h.steer, intent ▸ h.drive, intent ▸ h.light, intent ▸ h.winch⟩

theorem State.EnergySound.congr {s t : State} (h : s.EnergySound) (used : t.pkm.usedMah = s.pkm.usedMah)
    (residue : t.pkm.residue = s.pkm.residue) : t.EnergySound :=
  ⟨used ▸ h.used, residue ▸ h.residue⟩

theorem State.TalliesSound.of_keeps {s t : State} (h : s.TalliesSound) (keeps : s.KeepsTallies t) : t.TalliesSound :=
  ⟨h.1.congr keeps.intent, h.2.congr keeps.used keeps.residue⟩

theorem State.TalliesSound.of_rest {s t : State} (h : s.TalliesSound) (rest : t.intent = s.intent ∧ t.pkm = s.pkm) :
    t.TalliesSound := h.of_keeps (.of_rest rest)

/-- A command that acts keeps the invariant if its act does. -/
theorem State.TalliesSound.act {s t : State} {f : State → State} (h : s.TalliesSound)
    (next : Sys2Proof.Machine.act s f = .next t) (acted : (f s).TalliesSound) : t.TalliesSound := by
  unfold Sys2Proof.Machine.act at next
  obtain rfl := Host.Outcome.next.inj next
  split
  · exact acted.of_rest (by simp)
  · exact h

/-! ## Codes seen and taken (R20, R22) -/

/-- An accepted frame is one look at each switch. -/
theorem State.SwitchesSound.take {s : State} (h : s.SwitchesSound) (v : ControlValues) :
    (s.setIntent (s.intent.take v)).SwitchesSound :=
  ⟨h.steer.see _, h.drive.see _, h.light.see _, h.winch.see _⟩

theorem State.SwitchesSound.takeSteerCode {s : State} (h : s.SwitchesSound) : s.takeSteerCode.SwitchesSound := by
  obtain same | ⟨c, rest, head, same⟩ := s.takeSteerCode_intent
  · exact h.congr same
  · refine State.SwitchesSound.congr (s := s.setIntent _) ?_ same
    exact ⟨h.steer.tail head, h.drive, h.light, h.winch⟩

theorem State.SwitchesSound.takeDriveCode {s : State} (h : s.SwitchesSound) : s.takeDriveCode.SwitchesSound := by
  unfold State.takeDriveCode
  split
  · split
    · exact h.congr rfl
    · rename_i c rest head
      split
      · exact h.congr rfl
      · exact ⟨h.steer, h.drive.tail head, h.light, h.winch⟩
  · exact h

theorem State.SwitchesSound.takeLightCode {s : State} (h : s.SwitchesSound) : s.takeLightCode.SwitchesSound := by
  unfold State.takeLightCode
  split
  · exact h
  · rename_i c rest head
    exact ⟨h.steer, h.drive, h.light.tail head, h.winch⟩

/-- A winch update takes at most the head of its own queue (R149). -/
theorem State.SwitchesSound.winchUpdate {s : State} (h : s.SwitchesSound) (r : WinchReading) :
    (s.winchTaken r).winchDone.SwitchesSound := by
  have only := s.winchTaken_only r
  refine State.SwitchesSound.congr (s := s.winchTaken r) ?_ (State.winchDone_intent _)
  refine ⟨only.steer ▸ h.steer, only.drive ▸ h.drive, only.light ▸ h.light, ?_⟩
  cases head : s.intent.winch.queue with
  | nil =>
    rw [(s.winchTaken_noCode r head).2]
    exact h.winch
  | cons c rest =>
    rw [(s.winchTaken_code r head).2]
    exact h.winch.tail head

/-- A CONTROL frame keeps the invariant, accepted or not (R15 to R17). -/
theorem State.TalliesSound.takeControl {s : State} (h : s.TalliesSound) (f : ControlFrame) :
    (s.takeControl f).TalliesSound := by
  unfold State.takeControl
  split
  · exact h
  · split
    · exact h.of_rest ⟨rfl, rfl⟩
    · split
      · rename_i v _ _
        have reported : ((s.setIntent (s.intent.take v)).report.cancelAssist).SwitchesSound :=
          (h.1.take v).congr (by simp)
        exact ⟨reported.takeLightCode.takeLightCode, h.2.congr (by simp [State.acceptFrame])
          (by simp [State.acceptFrame])⟩
      · exact h

/-! ## The energy counter (R51) -/

/-- A charge keeps the counter within its ranges: used mAh stop at 65,535, and the residue is one of a division. -/
theorem Pkm.addCharge_ranges {p : Pkm} (used : p.usedMah ≤ 65535) (residue : p.residue < 3600000) (charge : Nat) :
    (p.addCharge charge).usedMah ≤ 65535 ∧ (p.addCharge charge).residue < 3600000 := by
  unfold Pkm.addCharge
  split
  · exact ⟨used, residue⟩
  · exact ⟨Nat.min_le_left _ _, Nat.mod_lt _ (by decide)⟩

/-- A sample adds its charge to the counter and moves it in no other way. -/
theorem State.EnergySound.observe {s : State} (h : s.EnergySound) (c : Cau) (ms : Nat) (r : PackReading) :
    (s.setPkm (s.pkm.observe s.ws c ms r)).EnergySound := by
  obtain ⟨used, residue⟩ := Pkm.addCharge_ranges (p := { s.pkm with sample := some (sampleOf s.ws r) }) h.used
    h.residue ((sampleOf s.ws r).current.toNat * ms)
  exact ⟨used, residue⟩

/-! ## The protection level (R57 to R63) -/

theorem State.setLevel_keepsTallies (s : State) (l : Level) (c : LevelCause) : s.KeepsTallies (s.setLevel l c) := by
  refine ⟨?_, ?_, ?_⟩
  · rw [State.setLevel_eq, State.modeOnLevel_eq, State.setMode_intent, State.setMdc_intent]
    exact (s.levelEntered_rest l c).2.2.2.1
  all_goals rw [State.setLevel_pkm]

/-- A rise is a change of the level (R57). -/
theorem State.rise_keepsTallies {s t : State} (rises : s.rise = some t) : s.KeepsTallies t := by
  unfold State.rise at rises
  dsimp only at rises
  split at rises
  · obtain ⟨k, -, rfl⟩ := Option.map_eq_some_iff.mp rises
    exact s.setLevel_keepsTallies _ _
  · cases rises

theorem State.fall_keepsTallies (s : State) (r : Sample) : s.KeepsTallies (s.fall r) := by
  unfold State.fall
  split
  · split
    · exact ⟨rfl, rfl, rfl⟩
    · split
      · exact s.setLevel_keepsTallies _ _
      · exact ⟨rfl, rfl, rfl⟩
  · exact ⟨rfl, rfl, rfl⟩

theorem State.settleLevel_keepsTallies (s : State) (r : Sample) : s.KeepsTallies (s.settleLevel r) := by
  unfold State.settleLevel
  split
  · exact State.rise_keepsTallies ‹_›
  · exact s.fall_keepsTallies r

/-- A condition that reaches its figure counts, and leaves the energy counter (R54, log 6). -/
theorem Pkm.reach_energy {p p' : Pkm} {w : WorkingSet} {exempt : Bool} {k : Condition}
    (reached : p.reach w exempt k = some p') : p'.usedMah = p.usedMah ∧ p'.residue = p.residue := by
  unfold Pkm.reach at reached
  dsimp only at reached
  split at reached
  all_goals
    split at reached
    · obtain rfl := Option.some.inj reached
      exact ⟨rfl, rfl⟩
    · cases reached

/-! ## Requests (R6) -/

theorem State.replaceWorking_keepsTallies (s : State) (w : WorkingSet) : s.KeepsTallies (s.replaceWorking w) := by
  obtain ⟨-, -, -, restarts, stands⟩ := s.replaceWorking_spec w
  have intent : (s.replaceWorking w).intent = s.intent := by
    unfold State.replaceWorking
    dsimp only
    split <;> simp [State.pruneNotices]
  by_cases cells : (rederive s.ws w).int Item.cellCount = s.ws.int Item.cellCount
  · exact .of_rest ⟨intent, stands cells⟩
  · have restarted := restarts cells
    unfold State.countsRestart at restarted
    exact ⟨intent, by rw [restarted], by rw [restarted]⟩

theorem State.settingTakesEffect_keepsTallies (s : State) (i : Fin 78) : s.KeepsTallies (s.settingTakesEffect i) := by
  unfold State.settingTakesEffect
  split_ifs
  · exact ⟨rfl, rfl, rfl⟩
  · exact .of_rest (by simp)
  · exact .refl s
  · exact .of_rest (by simp)
  · exact .refl s
  · exact ⟨rfl, rfl, rfl⟩
  · exact .of_rest (by simp)
  · exact .refl s

theorem State.serveSet_keepsTallies (s : State) (q : RawRequest) (id : Byte) (v : Word) :
    s.KeepsTallies (s.serveSet q id v) := by
  have refused : ∀ st, s.KeepsTallies (s.refuse q st) := fun _ => .of_rest ⟨rfl, rfl⟩
  unfold State.serveSet
  dsimp only
  split
  · exact refused _
  split
  · exact refused _
  split
  · split
    · exact refused _
    split
    · exact refused _
    split
    · exact refused _
    · exact State.KeepsTallies.trans (.of_rest (by simp [State.setWorking]))
        (State.settingTakesEffect_keepsTallies _ _)
  · exact refused _

theorem State.serveClearCutoff_keepsTallies (s : State) (q : RawRequest) : s.KeepsTallies (s.serveClearCutoff q) := by
  have refused : ∀ u : State, u.intent = s.intent ∧ u.pkm = s.pkm → s.KeepsTallies u := fun _ => .of_rest
  have cleared : s.KeepsTallies ((s.setLevel .limit .cleared).ok q []) :=
    (s.setLevel_keepsTallies _ _).trans (.of_rest ⟨rfl, rfl⟩)
  unfold State.serveClearCutoff
  dsimp only
  split
  · exact refused _ ⟨rfl, rfl⟩
  split
  · exact refused _ ⟨rfl, rfl⟩
  split
  · exact refused _ ⟨rfl, rfl⟩
  split
  · exact cleared.trans (.of_rest (by simp))
  · exact cleared

theorem State.serveStoreDefaults_keepsTallies (s : State) (q : RawRequest) :
    s.KeepsTallies (s.serveStoreDefaults q) := by
  unfold State.serveStoreDefaults
  split
  · exact .of_rest ⟨rfl, rfl⟩
  · exact State.KeepsTallies.trans (u := s.ok q []) (.of_rest ⟨rfl, rfl⟩) (State.replaceWorking_keepsTallies _ _)

theorem State.serveHello_rest (s : State) (q : RawRequest) :
    (s.serveHello q).intent = s.intent ∧ (s.serveHello q).pkm = s.pkm := by
  unfold State.serveHello; split <;> simp

theorem State.serveReset_rest (s : State) (q : RawRequest) :
    (s.serveReset q).intent = s.intent ∧ (s.serveReset q).pkm = s.pkm := by
  unfold State.serveReset; split <;> exact ⟨rfl, rfl⟩

theorem State.serveResume_rest (s : State) (q : RawRequest) :
    (s.serveResume q).intent = s.intent ∧ (s.serveResume q).pkm = s.pkm := by
  unfold State.serveResume; (repeat' split) <;> simp

theorem State.servePark_rest (s : State) (q : RawRequest) :
    (s.servePark q).intent = s.intent ∧ (s.servePark q).pkm = s.pkm := by
  unfold State.servePark; (repeat' split) <;> simp

theorem State.serveWake_rest (s : State) (q : RawRequest) :
    (s.serveWake q).intent = s.intent ∧ (s.serveWake q).pkm = s.pkm := by
  unfold State.serveWake; split <;> simp

theorem State.serveClearCorner_rest (s : State) (q : RawRequest) (c : Byte) :
    (s.serveClearCorner q c).intent = s.intent ∧ (s.serveClearCorner q c).pkm = s.pkm := by
  unfold State.serveClearCorner; dsimp only; (repeat' split) <;> exact ⟨rfl, rfl⟩

theorem State.serveTrimSearch_rest (s : State) (q : RawRequest) (m : Byte) :
    (s.serveTrimSearch q m).intent = s.intent ∧ (s.serveTrimSearch q m).pkm = s.pkm := by
  unfold State.serveTrimSearch; dsimp only; split_ifs <;> exact ⟨rfl, rfl⟩

theorem State.serveTrimAbort_rest (s : State) (q : RawRequest) :
    (s.serveTrimAbort q).intent = s.intent ∧ (s.serveTrimAbort q).pkm = s.pkm := by
  unfold State.serveTrimAbort; split <;> simp

theorem State.serveClutchFree_rest (s : State) (q : RawRequest) :
    (s.serveClutchFree q).intent = s.intent ∧ (s.serveClutchFree q).pkm = s.pkm := by
  unfold State.serveClutchFree; split_ifs <;> exact ⟨rfl, rfl⟩

theorem State.serveClutchEngage_rest (s : State) (q : RawRequest) :
    (s.serveClutchEngage q).intent = s.intent ∧ (s.serveClutchEngage q).pkm = s.pkm := by
  unfold State.serveClutchEngage; split_ifs <;> exact ⟨rfl, rfl⟩

theorem State.serveClearWinch_rest (s : State) (q : RawRequest) :
    (s.serveClearWinch q).intent = s.intent ∧ (s.serveClearWinch q).pkm = s.pkm := by
  unfold State.serveClearWinch; split <;> exact ⟨rfl, rfl⟩

theorem State.serveMapLamp_rest (s : State) (q : RawRequest) (f c : Byte) :
    (s.serveMapLamp q f c).intent = s.intent ∧ (s.serveMapLamp q f c).pkm = s.pkm := by
  unfold State.serveMapLamp; (repeat' split) <;> simp

theorem State.serveSetFunction_rest (s : State) (q : RawRequest) (f : Byte) (r : FuncRec) :
    (s.serveSetFunction q f r).intent = s.intent ∧ (s.serveSetFunction q f r).pkm = s.pkm := by
  unfold State.serveSetFunction; (repeat' split) <;> exact ⟨rfl, rfl⟩

theorem State.serveGetFunction_rest (s : State) (q : RawRequest) (f : Byte) :
    (s.serveGetFunction q f).intent = s.intent ∧ (s.serveGetFunction q f).pkm = s.pkm := by
  unfold State.serveGetFunction; split <;> exact ⟨rfl, rfl⟩

theorem State.serveSetGenerator_rest (s : State) (q : RawRequest) (g : Byte) (p : Half) (d : GenDuty) :
    (s.serveSetGenerator q g p d).intent = s.intent ∧ (s.serveSetGenerator q g p d).pkm = s.pkm := by
  unfold State.serveSetGenerator; dsimp only; (repeat' split) <;> exact ⟨rfl, rfl⟩

theorem State.serveClearChannel_rest (s : State) (q : RawRequest) (c : Byte) :
    (s.serveClearChannel q c).intent = s.intent ∧ (s.serveClearChannel q c).pkm = s.pkm := by
  unfold State.serveClearChannel; (repeat' split) <;> simp

theorem State.serveGet_rest (s : State) (q : RawRequest) (i : Byte) :
    (s.serveGet q i).intent = s.intent ∧ (s.serveGet q i).pkm = s.pkm := by
  unfold State.serveGet; (repeat' split) <;> exact ⟨rfl, rfl⟩

theorem State.serveStoreSave_rest (s : State) (q : RawRequest) :
    (s.serveStoreSave q).intent = s.intent ∧ (s.serveStoreSave q).pkm = s.pkm := by
  unfold State.serveStoreSave; split_ifs <;> exact ⟨rfl, rfl⟩

theorem State.serveStoreLoad_rest (s : State) (q : RawRequest) :
    (s.serveStoreLoad q).intent = s.intent ∧ (s.serveStoreLoad q).pkm = s.pkm := by
  unfold State.serveStoreLoad; (repeat' split) <;> exact ⟨rfl, rfl⟩

/-- Every owner but RESET_ENERGY's leaves codes and counter. -/
theorem State.owner_keepsTallies (s : State) (q : RawRequest) {r : Request} (h : r ≠ .resetEnergy) :
    s.KeepsTallies (s.owner q r) := by
  cases r
  case resetEnergy => exact absurd rfl h
  case clearCutoff => exact s.serveClearCutoff_keepsTallies q
  case set id v => exact s.serveSet_keepsTallies q id v
  case storeDefaults => exact s.serveStoreDefaults_keepsTallies q
  case winchClutch engage =>
    cases engage
    · exact .of_rest (s.serveClutchFree_rest q)
    · exact .of_rest (s.serveClutchEngage_rest q)
  case hello => exact .of_rest (s.serveHello_rest q)
  case reset => exact .of_rest (s.serveReset_rest q)
  case resume => exact .of_rest (s.serveResume_rest q)
  case park => exact .of_rest (s.servePark_rest q)
  case wake => exact .of_rest (s.serveWake_rest q)
  case clearCorner c => exact .of_rest (s.serveClearCorner_rest q c)
  case trimSearch m => exact .of_rest (s.serveTrimSearch_rest q m)
  case trimAbort => exact .of_rest (s.serveTrimAbort_rest q)
  case clearWinch => exact .of_rest (s.serveClearWinch_rest q)
  case mapLamp f c => exact .of_rest (s.serveMapLamp_rest q f c)
  case setFunction f r => exact .of_rest (s.serveSetFunction_rest q f r)
  case getFunction f => exact .of_rest (s.serveGetFunction_rest q f)
  case setGenerator g p d => exact .of_rest (s.serveSetGenerator_rest q g p d)
  case clearChannel c => exact .of_rest (s.serveClearChannel_rest q c)
  case get i => exact .of_rest (s.serveGet_rest q i)
  case storeSave => exact .of_rest (s.serveStoreSave_rest q)
  case storeLoad => exact .of_rest (s.serveStoreLoad_rest q)
  all_goals exact .of_rest ⟨rfl, rfl⟩

/-- A served request keeps the invariant: RESET_ENERGY empties the counter (R52). -/
theorem State.TalliesSound.serve {s : State} (h : s.TalliesSound) (q : RawRequest) : (s.serve q).TalliesSound := by
  unfold State.serve
  split
  · exact h.of_rest ⟨rfl, rfl⟩
  · split
    · exact h.of_rest ⟨rfl, rfl⟩
    · rename_i r _
      split
      · by_cases energy : r = .resetEnergy
        · subst energy
          exact ⟨h.1.congr rfl, ⟨Nat.zero_le _, Nat.zero_lt_succ _⟩⟩
        · exact h.of_keeps (s.owner_keepsTallies q energy)
      · exact h.of_rest ⟨rfl, rfl⟩

theorem State.TalliesSound.dispatchOne {s : State} (h : s.TalliesSound) : s.dispatchOne.TalliesSound := by
  unfold State.dispatchOne
  split
  · exact h
  · split
    · exact h
    · rename_i q rest _
      have taken : (s.setLink { s.link with waiting := rest, slots := s.link.slots + 1 }).TalliesSound :=
        h.of_rest ⟨rfl, rfl⟩
      exact (taken.serve q).of_rest (by simp)

theorem State.TalliesSound.dispatchUpTo {s : State} (n : Nat) (h : s.TalliesSound) :
    (s.dispatchUpTo n).TalliesSound := by
  induction n generalizing s with
  | zero => exact h
  | succ n ih => exact ih h.dispatchOne

theorem State.TalliesSound.enqueue {s : State} (h : s.TalliesSound) (q : RawRequest) : (s.enqueue q).TalliesSound := by
  unfold State.enqueue
  split
  · exact h
  · split
    · exact State.TalliesSound.dispatchUpTo _ (h.of_rest ⟨rfl, rfl⟩)
    · exact h.of_rest ⟨rfl, rfl⟩

/-! ## Frames from the link (R1, R3) -/

theorem State.TalliesSound.judgeKind {s : State} (h : s.TalliesSound) (kind tag : Byte) (p : List Byte) :
    (s.judgeKind kind tag p).TalliesSound := by
  have dropped : (s.drop .malformed).TalliesSound := h.of_rest ⟨rfl, rfl⟩
  unfold State.judgeKind
  split
  · exact h
  split
  · split
    · exact h.takeControl _
    · exact dropped
  split
  · split
    · split
      · exact h.enqueue _
      · exact dropped
    · exact h.enqueue _
  · exact dropped

theorem State.TalliesSound.takeByte {s : State} (h : s.TalliesSound) (b : Byte) : (s.takeByte b).TalliesSound := by
  have moved : ∀ rx, (s.setRx rx).TalliesSound := fun _ => h.of_rest ⟨rfl, rfl⟩
  unfold State.takeByte
  split
  · split
    · exact moved _
    · exact h
  · split
    · exact moved _
    · exact h.of_rest ⟨rfl, rfl⟩
  · exact moved _
  · exact moved _
  · exact moved _
  · exact moved _
  · unfold State.judge
    split
    · exact (moved _).judgeKind _ _ _
    · exact h.of_rest ⟨rfl, rfl⟩

/-- The reset of an accepted RESET empties the queues and keeps the counter (R27, R51, R60). -/
theorem State.TalliesSound.takeReset {s : State} (h : s.TalliesSound) : s.takeReset.TalliesSound :=
  ⟨State.reset_switchesSound.congr rfl, h.2.congr rfl rfl⟩

/-- A power-on reset empties the queues and the counter (R22, R51). -/
theorem State.powerOn_talliesSound (s : State) : s.powerOn.TalliesSound :=
  ⟨State.reset_switchesSound.congr rfl, ⟨Nat.zero_le _, Nat.zero_lt_succ _⟩⟩

/-! ## The periodic events (R90, R128, R146) -/

theorem State.TalliesSound.takeSteerCode {s : State} (h : s.TalliesSound) : s.takeSteerCode.TalliesSound :=
  ⟨h.1.takeSteerCode, h.2.congr (by simp) (by simp)⟩

theorem State.TalliesSound.takeDriveCode {s : State} (h : s.TalliesSound) : s.takeDriveCode.TalliesSound :=
  ⟨h.1.takeDriveCode, h.2.congr (by simp) (by simp)⟩

theorem State.TalliesSound.takeLightCode {s : State} (h : s.TalliesSound) : s.takeLightCode.TalliesSound :=
  ⟨h.1.takeLightCode, h.2.congr (by simp) (by simp)⟩

/-- A servo frame takes at most the head of the STEER_SEL queue, at step 4. -/
theorem State.TalliesSound.servoFrame {s : State} (h : s.TalliesSound) (r : ServoReading) :
    (s.beginFrame r).endFrame.TalliesSound := by
  have coded : (s.beginFrame r).TalliesSound := by
    refine State.TalliesSound.of_rest ?_ (State.aimCorners_rest _)
    refine State.TalliesSound.takeSteerCode (h.of_rest ?_)
    simp [State.setSlew]
  exact coded.of_rest (State.endFrame_rest _)

/-- A drive update takes at most the head of the DRIVE_SEL queue, at step 4. -/
theorem State.TalliesSound.driveUpdate {s : State} (h : s.TalliesSound) (r : DriveReading) :
    let read := (s.readEncoders r).setDrc ((s.readEncoders r).drc.readCurrents r)
    read.updateFollow.takeDriveCode.driveAxles.TalliesSound := by
  intro read
  have followed : read.updateFollow.TalliesSound := h.of_rest (by simp [read])
  exact followed.takeDriveCode.of_rest (State.driveAxles_rest _)

/-- A winch update takes at most the head of the WINCH_SEL queue, at step 4. -/
theorem State.TalliesSound.winchUpdate {s : State} (h : s.TalliesSound) (r : WinchReading) :
    (s.winchTaken r).winchState.winchDuty.winchWish.TalliesSound := by
  have done : (s.winchTaken r).winchDone.TalliesSound := by
    have pkm := (s.winchUpdate_frame r).2.2.2 .pkm (by decide)
    exact ⟨h.1.winchUpdate r, h.2.congr (congrArg Pkm.usedMah pkm) (congrArg Pkm.residue pkm)⟩
  exact done.of_rest (by simp [State.winchDone])

/-- A lamp check takes no code: the LIGHT_SEL queue is emptied as it fills (R169). -/
theorem State.lampCheck_rest (s : State) (c : Vector Nat 12) :
    (s.diagnose c).findRequested.shed.findLit.runGens.setChannels.intent = s.intent ∧
      (s.diagnose c).findRequested.shed.findLit.runGens.setChannels.pkm = s.pkm := by
  simp [State.setChannels, State.runGens, State.findLit, State.shed, State.findRequested]

/-! ## Steps -/

/-- A command that is neither a request nor a loss or return of supply acts, and its act keeps the invariant. -/
theorem exec_acts_talliesSound {i : Instr} (request : requestOf i = none)
    (supply : i ≠ .powerOnReset ∧ i ≠ .brownOut) :
    ∃ f : State → State, (∀ s, exec i s = act s f) ∧ ∀ s : State, s.TalliesSound → (f s).TalliesSound := by
  cases i
  case powerOnReset => exact absurd rfl supply.1
  case brownOut => exact absurd rfl supply.2
  case byteReceived b =>
    refine ⟨_, fun _ => rfl, fun s h => ?_⟩
    split
    · exact h
    · exact h.takeByte b
  case gapTimerExpiry => exact ⟨_, fun _ => rfl, fun s h => h.of_rest (by split <;> exact ⟨rfl, rfl⟩)⟩
  case frameSent =>
    refine ⟨_, fun _ => rfl, fun s h => ?_⟩
    split
    · exact h
    · split
      · exact h.takeReset
      · exact h.of_rest ⟨rfl, rfl⟩
  case controlFrame f => exact ⟨_, fun _ => rfl, fun s h => h.takeControl f⟩
  case undefinedRequest kind tag => exact ⟨_, fun _ => rfl, fun s h => h.judgeKind _ _ _⟩
  case packSample r =>
    refine ⟨_, fun _ => rfl, fun s h => ?_⟩
    split
    · have observed : (s.setPkm (s.pkm.observe s.ws s.cau (samplePeriod s.mdc.mode) r)).TalliesSound :=
        ⟨h.1.congr rfl, h.2.observe _ _ _⟩
      exact (observed.of_keeps (State.settleLevel_keepsTallies _ _)).of_rest (State.countSample_rest _)
    · exact h
  case levelRise k =>
    refine ⟨_, fun _ => rfl, fun s h => ?_⟩
    split
    · split
      · rename_i p reached
        obtain ⟨used, residue⟩ := Pkm.reach_energy reached
        cases rises : (s.setPkm p).rise with
        | none => exact h
        | some u =>
          exact h.of_keeps (State.KeepsTallies.trans (u := s.setPkm p) ⟨rfl, used, residue⟩
            (State.rise_keepsTallies rises))
      · exact h
    · exact h
  case levelStepDown =>
    refine ⟨_, fun _ => rfl, fun s h => ?_⟩
    split
    · exact h.of_keeps (s.setLevel_keepsTallies _ _)
    · exact h
  case servoFrame r => exact ⟨_, fun _ => rfl, fun s h => h.servoFrame r⟩
  case driveUpdate r => exact ⟨_, fun _ => rfl, fun s h => h.driveUpdate r⟩
  case pendingLockTaken =>
    refine ⟨_, fun _ => rfl, fun s h => ?_⟩
    split
    · exact h
    · split
      · exact h.takeDriveCode.of_rest ⟨rfl, rfl⟩
      · exact h
  case winchUpdate r => exact ⟨_, fun _ => rfl, fun s h => h.winchUpdate r⟩
  case lightSelTake => exact ⟨_, fun _ => rfl, fun s h => h.takeLightCode⟩
  case storeLoadEnd =>
    refine ⟨_, fun _ => rfl, fun s h => ?_⟩
    split
    · have finished : s.finishLoad.TalliesSound := h.of_keeps
        ((s.replaceWorking_keepsTallies _).trans (.of_rest ⟨rfl, rfl⟩))
      exact State.TalliesSound.dispatchUpTo _ (finished.of_rest (by simp))
    · exact h
  case silenceTimerExpiry => exact ⟨_, fun _ => rfl, fun s h => h.of_rest s.silenceExpires_rest⟩
  case autoParkExpiry => exact ⟨_, fun _ => rfl, fun s h => h.of_rest s.autoParkExpires_rest⟩
  case parkTimerExpiry => exact ⟨_, fun _ => rfl, fun s h => h.of_rest s.parkTimerExpires_rest⟩
  case motionWake => exact ⟨_, fun _ => rfl, fun s h => h.of_rest s.judgeMotion_rest⟩
  case loadingEnd => exact ⟨_, fun _ => rfl, fun s h => h.of_rest (by split <;> simp [State.loadImage])⟩
  case packCheckEnd => exact ⟨_, fun _ => rfl, fun s h => h.of_rest (by split <;> simp)⟩
  case centeringEnd => exact ⟨_, fun _ => rfl, fun s h => h.of_rest (by split <;> simp)⟩
  case allotmentWindow => exact ⟨_, fun _ => rfl, fun s h => h.of_rest (by split <;> simp)⟩
  case surgeHoldCompleted => exact ⟨_, fun _ => rfl, fun s h => h.of_rest (by (repeat' split) <;> exact ⟨rfl, rfl⟩)⟩
  case surgeLapsed => exact ⟨_, fun _ => rfl, fun s h => h.of_rest (by (repeat' split) <;> exact ⟨rfl, rfl⟩)⟩
  case calmReturn => exact ⟨_, fun _ => rfl, fun s h => h.of_rest (by split <;> exact ⟨rfl, rfl⟩)⟩
  case cornerStall c => exact ⟨_, fun _ => rfl, fun s h => h.of_rest (by dsimp only; split <;> simp)⟩
  case cornerOpen c => exact ⟨_, fun _ => rfl, fun s h => h.of_rest (by dsimp only; split <;> simp)⟩
  case restEnd c => exact ⟨_, fun _ => rfl, fun s h => h.of_rest (by dsimp only; split <;> simp)⟩
  case clearingHoldEnd c => exact ⟨_, fun _ => rfl, fun s h => h.of_rest (by dsimp only; split <;> simp)⟩
  case alignTimeout => exact ⟨_, fun _ => rfl, fun s h => h.of_rest (by split <;> simp)⟩
  case settleEnd => exact ⟨_, fun _ => rfl, fun s h => h.of_rest (by split <;> simp)⟩
  case searchCornerBegin => exact ⟨_, fun _ => rfl, fun s h => h.of_rest (by split <;> simp)⟩
  case searchWaitEnd => exact ⟨_, fun _ => rfl, fun s h => h.of_rest (by (repeat' split) <;> simp)⟩
  case searchStepJudged => exact ⟨_, fun _ => rfl, fun s h => h.of_rest (by (repeat' split) <;> simp)⟩
  case axleStall a => exact ⟨_, fun _ => rfl, fun s h => h.of_rest (by dsimp only; split <;> simp)⟩
  case axleRestEnd a => exact ⟨_, fun _ => rfl, fun s h => h.of_rest (by dsimp only; split <;> simp)⟩
  case winchJam => exact ⟨_, fun _ => rfl, fun s h => h.of_rest (by dsimp only; split <;> simp)⟩
  case clutchTimerExpiry => exact ⟨_, fun _ => rfl, fun s h => h.of_rest (by split <;> exact ⟨rfl, rfl⟩)⟩
  case onEdge g => exact ⟨_, fun _ => rfl, fun s h => h.of_rest (by split <;> exact ⟨rfl, rfl⟩)⟩
  case offEdge g => exact ⟨_, fun _ => rfl, fun s h => h.of_rest (by dsimp only; split <;> exact ⟨rfl, rfl⟩)⟩
  case shortTrip c => exact ⟨_, fun _ => rfl, fun s h => h.of_rest (by dsimp only; split <;> exact ⟨rfl, rfl⟩)⟩
  case saveComplete => exact ⟨_, fun _ => rfl, fun s h => h.of_rest (by split <;> exact ⟨rfl, rfl⟩)⟩
  case lampCheck c => exact ⟨_, fun _ => rfl, fun s h => h.of_rest (s.lampCheck_rest c)⟩
  all_goals cases request

/-- Every command keeps the invariant. -/
theorem exec_talliesSound {i : Instr} {s t : State} (next : exec i s = .next t) (h : s.TalliesSound) :
    t.TalliesSound := by
  by_cases up : i = .powerOnReset
  · subst up
    obtain rfl := Host.Outcome.next.inj next
    exact s.powerOn_talliesSound
  by_cases down : i = .brownOut
  · subst down
    obtain rfl := Host.Outcome.next.inj next
    exact s.powerOn_talliesSound.of_rest ⟨rfl, rfl⟩
  cases request : requestOf i with
  | some q =>
    have pinned : (s.pinned i).TalliesSound := by
      unfold State.pinned
      split
      · exact h.of_rest ⟨rfl, rfl⟩
      · exact h
    exact pinned.act ((exec_requestOf request s).symm.trans next) (pinned.enqueue q)
  | none =>
    obtain ⟨f, acts, keeps⟩ := exec_acts_talliesSound request ⟨up, down⟩
    exact h.act ((acts s).symm.trans next) (keeps s h)

/-- A millisecond of the timers sees no code and draws no charge (log 2). -/
theorem State.TalliesSound.tick {s : State} (h : s.TalliesSound) (idle : s.pending = []) : s.tick.TalliesSound := by
  by_cases powered : s.powered = true
  · have moved : step s = .next s.tick := by unfold step; rw [idle]
    obtain moved := moved.symm.trans (idleStepMovesEveryTimerByOneMillisecond s idle powered)
    rw [Host.Outcome.next.inj moved]
    exact h.of_rest ⟨rfl, rfl⟩
  · unfold State.tick
    rw [if_neg powered]
    exact h

/-- Settles O57, by the commands: each sees a code, takes a head, adds a charge, empties, or leaves codes and
counter. -/
theorem everyStepKeepsChangeQueuesAndEnergyCounter : Obligations.EveryStepKeepsChangeQueuesAndEnergyCounter := by
  intro s t switches energy next
  have h : s.TalliesSound := ⟨switches, energy⟩
  unfold step at next
  split at next
  · exact exec_talliesSound next (h.of_rest ⟨rfl, rfl⟩)
  · rename_i idle
    obtain rfl := Host.Outcome.next.inj next
    exact h.tick idle

end Sys2Proof.Machine
end

section
/-! PROOF. CONTROL_FRAME (R15 to R18, R25): the range test, the report to the Mode Controller, and what an accepted
frame brings to the winch and the lamps. -/
namespace Sys2Proof.Machine

/-! ## The range test (R15) -/

theorem SteerSel.code_le {n : Nat} {x : SteerSel} (h : SteerSel.ofCode n = some x) : n ≤ 4 := by
  unfold SteerSel.ofCode at h
  split at h
  case h_6 => cases h
  all_goals decide

theorem DriveSel.code_le {n : Nat} {x : DriveSel} (h : DriveSel.ofCode n = some x) : n ≤ 3 := by
  unfold DriveSel.ofCode at h
  split at h
  case h_5 => cases h
  all_goals decide

theorem LightSel.code_le {n : Nat} {x : LightSel} (h : LightSel.ofCode n = some x) : n ≤ 3 := by
  unfold LightSel.ofCode at h
  split at h
  case h_5 => cases h
  all_goals decide

theorem WinchSel.code_le {n : Nat} {x : WinchSel} (h : WinchSel.ofCode n = some x) : n ≤ 2 := by
  unfold WinchSel.ofCode at h
  split at h
  case h_4 => cases h
  all_goals decide

theorem axisInRange_iff (v : Int) : axisInRange v = true ↔ -1000 ≤ v ∧ v ≤ 1000 := by simp [axisInRange]

/-- A frame has values where every field is in range, and its axes are those of the values (R15, R18). -/
theorem controlValues_some {f : ControlFrame} {v : ControlValues} (h : controlValues f = some v) :
    v.axes = ⟨f.throttle.toInt, f.steer.toInt, f.winch.toInt, f.aux.toInt⟩ ∧
      (-1000 ≤ f.throttle.toInt ∧ f.throttle.toInt ≤ 1000) ∧ (-1000 ≤ f.steer.toInt ∧ f.steer.toInt ≤ 1000) ∧
      (-1000 ≤ f.winch.toInt ∧ f.winch.toInt ≤ 1000) ∧ (-1000 ≤ f.aux.toInt ∧ f.aux.toInt ≤ 1000) ∧
      f.steerSel.toNat ≤ 4 ∧ f.driveSel.toNat ≤ 3 ∧ f.lightSel.toNat ≤ 3 ∧ f.winchSel.toNat ≤ 2 := by
  unfold controlValues at h
  dsimp only at h
  split at h
  · rename_i inRange
    simp only [Bool.and_eq_true, axisInRange_iff] at inRange
    obtain ⟨⟨⟨throttle, steer⟩, winch⟩, aux⟩ := inRange
    split at h
    · rename_i st dr li wi steerSel driveSel lightSel winchSel
      obtain rfl := Option.some.inj h
      exact ⟨rfl, throttle, steer, winch, aux, SteerSel.code_le steerSel, DriveSel.code_le driveSel,
        LightSel.code_le lightSel, WinchSel.code_le winchSel⟩
    · cases h
  · cases h

/-! ## A wake cause (R44) -/

/-- The mode after a wake cause: an honoured one ends PARK. -/
def State.wokenMode (s : State) (c : WakeCause) : VehicleMode :=
  if s.mdc.mode = .park ∧ s.ws.honours c = true then .centering else s.mdc.mode

/-- MDC's state with a wake cause recorded, before the mode changes. -/
def State.wokenRecord (s : State) (c : WakeCause) : Mdc :=
  if s.ws.honours c then
    if s.mdc.mode = .park then { s.mdc.recordCause c with wakeCentering := true } else s.mdc.recordCause c
  else s.mdc

/-- A wake cause is recorded, then the mode changes. -/
theorem State.wake_eq (s : State) (c : WakeCause) :
    s.wake c = (s.setMdc (s.wokenRecord c)).setMode (s.wokenMode c) := by
  unfold State.wake State.wokenRecord State.wokenMode
  by_cases honoured : s.ws.honours c = true
  · by_cases parked : s.mdc.mode = .park
    · simp only [honoured, parked, if_true, and_self]
    · simp only [honoured, parked, if_true, if_false, false_and]
      exact (State.setMode_of_eq (Mdc.recordCause_mode _ _)).symm
  · rw [if_neg honoured, if_neg honoured, if_neg fun h => honoured h.2]
    exact (State.setMode_of_eq rfl).symm

/-- Recording a cause touches the wake record alone. -/
theorem State.wokenRecord_rest (s : State) (c : WakeCause) :
    (s.wokenRecord c).mode = s.mdc.mode ∧ (s.wokenRecord c).startDone = s.mdc.startDone ∧
      (s.wokenRecord c).lastNonNeutral = s.mdc.lastNonNeutral := by
  have recorded : (s.mdc.recordCause c).mode = s.mdc.mode ∧ (s.mdc.recordCause c).startDone = s.mdc.startDone ∧
      (s.mdc.recordCause c).lastNonNeutral = s.mdc.lastNonNeutral := by
    unfold Mdc.recordCause
    (repeat' split) <;> exact ⟨rfl, rfl, rfl⟩
  unfold State.wokenRecord
  split
  · split <;> exact recorded
  · exact ⟨rfl, rfl, rfl⟩

/-! ## The report (R25, R36 to R38, R44) -/

/-- The report's first judgement: throttle and winch are both neutral. -/
def State.quiet (s : State) : Bool := driveWinchNeutral s.ws s.intent.axes

/-- MDC keeps the report's second judgement, whether any axis is off neutral. -/
def State.judged (s : State) : State := s.setMdc { s.mdc with lastNonNeutral := anyNonNeutral s.ws s.intent.axes }

/-- MDC's state after a report, before the mode changes. -/
def State.reportRecord (s : State) : Mdc :=
  match s.mdc.mode with
  | .ready => s.judged.mdc
  | .run => { s.judged.mdc with silenceMs := 0 }
  | .failsafe =>
    if s.quiet then { s.judged.mdc with resumeCount := min 255 (s.mdc.resumeCount + 1), notNeutral := false }
    else { s.judged.mdc with resumeCount := 0, notNeutral := true }
  | _ => if anyNonNeutral s.ws s.intent.axes then s.judged.wokenRecord .stick else s.judged.mdc

/-- The mode after a report. -/
def State.reportMode (s : State) : VehicleMode :=
  match s.mdc.mode with
  | .ready => if s.quiet then .run else .ready
  | .run => .run
  | .failsafe => .failsafe
  | m => if anyNonNeutral s.ws s.intent.axes then s.judged.wokenMode .stick else m

/-- A report by the mode, once the second judgement is kept. -/
theorem State.report_judged (s : State) : s.report =
    match s.mdc.mode with
    | .ready => if s.quiet then s.judged.setMode .run else s.judged
    | .run => s.judged.setMdc { s.judged.mdc with silenceMs := 0 }
    | .failsafe =>
      if s.quiet then
        s.judged.setMdc { s.judged.mdc with resumeCount := min 255 (s.mdc.resumeCount + 1), notNeutral := false }
      else s.judged.setMdc { s.judged.mdc with resumeCount := 0, notNeutral := true }
    | _ => if anyNonNeutral s.ws s.intent.axes then s.judged.wake .stick else s.judged := rfl

/-- A report is recorded, then the mode changes. -/
theorem State.report_eq (s : State) : s.report = (s.setMdc s.reportRecord).setMode s.reportMode := by
  have stays : ∀ d : Mdc, d.mode = s.mdc.mode → s.setMdc d = (s.setMdc d).setMode s.mdc.mode := fun d h =>
    (State.setMode_of_eq h).symm
  have elsewhere : (if anyNonNeutral s.ws s.intent.axes then s.judged.wake .stick else s.judged) =
      (s.setMdc (if anyNonNeutral s.ws s.intent.axes then s.judged.wokenRecord .stick else s.judged.mdc)).setMode
        (if anyNonNeutral s.ws s.intent.axes then s.judged.wokenMode .stick else s.mdc.mode) := by
    split
    · exact s.judged.wake_eq .stick
    · exact stays _ rfl
  rw [State.report_judged]
  unfold State.reportRecord State.reportMode
  cases mode : s.mdc.mode <;> rw [mode] at stays elsewhere
  case ready =>
    dsimp only
    split
    · rfl
    · exact stays _ mode
  case run => exact stays _ mode
  case failsafe =>
    dsimp only
    split <;> exact stays _ mode
  all_goals exact elsewhere

/-! ## What a report leaves (R25) -/

theorem State.quiet_iff (s : State) : s.quiet = true ↔
    s.intent.axes.throttle.natAbs ≤ s.ws.nat Item.axisDeadband ∧
      s.intent.axes.winch.natAbs ≤ s.ws.nat Item.axisDeadband := by
  simp [State.quiet, driveWinchNeutral, neutral]

theorem State.reportRecord_rest (s : State) :
    s.reportRecord.mode = s.mdc.mode ∧ s.reportRecord.startDone = s.mdc.startDone ∧
      s.reportRecord.lastNonNeutral = anyNonNeutral s.ws s.intent.axes := by
  have judged : s.judged.mdc.mode = s.mdc.mode ∧ s.judged.mdc.startDone = s.mdc.startDone ∧
      s.judged.mdc.lastNonNeutral = anyNonNeutral s.ws s.intent.axes := ⟨rfl, rfl, rfl⟩
  unfold State.reportRecord
  split
  · exact judged
  · exact judged
  · split <;> exact judged
  · split
    · exact s.judged.wokenRecord_rest .stick
    · exact judged

/-- In READY the mode after a report is by the first judgement (R36). -/
theorem State.reportMode_ready {s : State} (ready : s.mdc.mode = .ready) :
    s.reportMode = if s.quiet then .run else .ready := by
  unfold State.reportMode; rw [ready]

/-- Outside READY and PARK a report leaves the mode (R25, R44). -/
theorem State.reportMode_stays {s : State} (ready : s.mdc.mode ≠ .ready) (park : s.mdc.mode ≠ .park) :
    s.reportMode = s.mdc.mode := by
  have woken : s.judged.wokenMode .stick = s.mdc.mode := if_neg fun h => park h.1
  unfold State.reportMode
  split
  · exact absurd ‹_› ready
  · exact Eq.symm ‹_›
  · exact Eq.symm ‹_›
  · rw [woken, ite_self]

/-- Where the mode stands a report is its record. -/
theorem State.report_stays {s : State} (stays : s.reportMode = s.mdc.mode) : s.report = s.setMdc s.reportRecord := by
  rw [State.report_eq, stays]
  exact State.setMode_of_eq s.reportRecord_rest.1

@[simp] theorem State.report_mode (s : State) : s.report.mdc.mode = s.reportMode := by
  rw [State.report_eq, State.setMode_mode]

theorem State.setMode_lastNonNeutral (s : State) (m : VehicleMode) :
    (s.setMode m).mdc.lastNonNeutral = s.mdc.lastNonNeutral := by
  rw [State.setMode_mdc]
  split_ifs <;> rfl

/-- MDC keeps the second judgement (R25, R41). -/
theorem State.report_lastNonNeutral (s : State) :
    s.report.mdc.lastNonNeutral = anyNonNeutral s.ws s.intent.axes := by
  rw [State.report_eq, State.setMode_lastNonNeutral]
  exact s.reportRecord_rest.2.2

/-- A change of the mode that neither ends the start sequence nor leaves RUN leaves CAU and the axles. -/
theorem State.setMode_changes_started {s : State} {m : VehicleMode} (started : s.mdc.startDone = true)
    (run : s.mdc.mode = .run → m = .run) : s.changesOnly (s.setMode m) [.output, .mode, .timers, .wnc] := by
  obtain ⟨pending, powered, lock, rest⟩ := s.setMode_changes m
  refine ⟨pending, powered, lock, fun p outside => ?_⟩
  by_cases cau : p = .cau
  · subst cau
    by_cases same : s.mdc.mode = m
    · rw [State.setMode_of_eq same]; rfl
    · have goesOn : s.startEnds m = false := by simp [State.startEnds, started]
      exact (State.setMode_cau same).trans (by rw [goesOn]; rfl)
  by_cases drc : p = .drc
  · subst drc
    exact (s.setMode_drc m).trans (if_neg fun leaves => leaves.2 (run leaves.1))
  · exact rest p (by simp_all)

/-- Once the start sequence has ended a report changes MDC, the winch and the way out. -/
theorem State.report_changes {s : State} (started : s.mdc.startDone = true) :
    s.changesOnly s.report [.output, .mode, .timers, .wnc] := by
  obtain ⟨mode, startDone, -⟩ := s.reportRecord_rest
  rw [State.report_eq]
  refine State.changesOnly_trans (State.changesOnly_mono (s.setMdc_changes _) (by simp))
    (State.setMode_changes_started (startDone.trans started) fun run => ?_)
  have run : s.mdc.mode = .run := mode.symm.trans run
  rw [State.reportMode_stays (by rw [run]; decide) (by rw [run]; decide), run]

/-- Outside PARK a report leaves the winch: it enters no mode but RUN (R36, R157). -/
theorem State.report_wnc {s : State} (park : s.mdc.mode ≠ .park) : s.report.wnc = s.wnc := by
  by_cases stays : s.reportMode = s.mdc.mode
  · rw [State.report_stays stays]
    rfl
  · have ready : s.mdc.mode = .ready := by
      by_contra ready
      exact stays (State.reportMode_stays ready park)
    have run : s.reportMode = .run := by
      rw [State.reportMode_ready ready] at stays ⊢
      split
      · rfl
      · rw [if_neg ‹_›, ready] at stays; exact absurd rfl stays
    have enters : (s.setMdc s.reportRecord).mdc.mode ≠ .run := by
      intro e
      rw [State.setMdc_mdc, s.reportRecord_rest.1, ready] at e
      cases e
    rw [State.report_eq, run, State.setMode_wnc enters]
    rfl

/-- A quiet report in READY enters RUN, with the silence timer at 0 and the MODE notice (R29, R36, R37). -/
theorem State.report_enters {s : State} (ready : s.mdc.mode = .ready) (quiet : s.quiet = true) :
    s.report.mdc.mode = .run ∧ s.report.mdc.silenceMs = 0 ∧
      (s.ws.notices .mode = true → s.report.noticed (.mode ⟨.run, .ready, s.mdc.wakeSet, s.mdc.wakeFirst⟩)) := by
  have mode : s.reportMode = .run := by rw [State.reportMode_ready ready, if_pos quiet]
  have record : s.reportRecord = s.judged.mdc := by unfold State.reportRecord; rw [ready]
  have enters : (s.setMdc s.judged.mdc).mdc.mode ≠ .run := by
    intro e
    rw [show (s.setMdc s.judged.mdc).mdc.mode = s.mdc.mode from rfl, ready] at e
    cases e
  have goesOn : (s.setMdc s.judged.mdc).startEnds .run = false := by simp [State.startEnds]
  rw [State.report_eq, mode, record]
  refine ⟨State.setMode_mode _ _, ?_, fun inMask => ?_⟩
  · rw [State.setMode_mdc, if_neg enters, goesOn]
    rfl
  · obtain ⟨-, -, told⟩ := (s.setMdc s.judged.mdc).setMode_followed .run
    have told := told (by rw [State.setMode_mode]; exact enters.symm) (by simpa [State.ws] using inMask)
    rw [State.setMode_mdc, if_neg enters, goesOn] at told
    exact ready ▸ told

/-- A report in RUN restarts the silence timer (R37). -/
theorem State.report_run {s : State} (run : s.mdc.mode = .run) : s.report.mdc.silenceMs = 0 := by
  rw [State.report_stays (State.reportMode_stays (by rw [run]; decide) (by rw [run]; decide))]
  unfold State.reportRecord
  rw [run]
  rfl

/-- A report in FAILSAFE counts toward RESUME, or starts the count anew (R38). -/
theorem State.report_failsafe {s : State} (failsafe : s.mdc.mode = .failsafe) :
    s.report.mdc.resumeCount = (if s.quiet then min 255 (s.mdc.resumeCount + 1) else 0) ∧
      s.report.mdc.notNeutral = !s.quiet := by
  rw [State.report_stays (State.reportMode_stays (by rw [failsafe]; decide) (by rw [failsafe]; decide))]
  unfold State.reportRecord
  rw [failsafe]
  dsimp only
  cases s.quiet <;> exact ⟨rfl, rfl⟩

/-! ## The winch and the lamps (R156, R169) -/

/-- A throttle off neutral ends an assist, and nothing else ends here (R156). -/
theorem State.cancelAssist_wnc (s : State) : s.cancelAssist.wnc =
    if s.wnc.state = .assist ∧ ¬neutral s.ws s.intent.axes.throttle = true then s.wnc.endByLoad s.ws true
    else s.wnc := by
  unfold State.cancelAssist
  simp only [Bool.not_eq_true', Bool.not_eq_true]
  split <;> rfl

theorem State.cancelAssist_changes (s : State) : s.changesOnly s.cancelAssist [.wnc] := by
  unfold State.cancelAssist
  split
  · exact s.setWnc_changes _
  · exact s.changesOnly_refl _

theorem State.cancelAssist_link (s : State) : s.cancelAssist.link = s.link ∧ s.cancelAssist.mdc = s.mdc := by
  unfold State.cancelAssist
  split <;> exact ⟨rfl, rfl⟩

/-- LMP's two takes empty a sound LIGHT_SEL queue, and its last code is the scene (R22, R169). -/
theorem State.takeLightCode_drains {s : State} (sound : s.intent.light.Sound) :
    s.takeLightCode.takeLightCode =
      (s.setIntent { s.intent with light := { s.intent.light with queue := [] } }).setLmp
        { s.lmp with scene := s.intent.light.queue.getLast?.getD s.lmp.scene } := by
  have none_left : ∀ u : State, u.intent.light.queue = [] → u.takeLightCode = u := by
    intro u empty
    unfold State.takeLightCode
    rw [empty]
  have takes : ∀ (u : State) c rest, u.intent.light.queue = c :: rest → u.takeLightCode =
      (u.setIntent { u.intent with light := { u.intent.light with queue := rest } }).setLmp
        { u.lmp with scene := c } := by
    intro u c rest head
    unfold State.takeLightCode
    rw [head]
  obtain empty | ⟨a, one, -⟩ | ⟨a, b, two, -, -⟩ := Switch.sound_cases sound
  · have same : ({ s.intent.light with queue := [] } : Switch LightSel) = s.intent.light := by rw [← empty]
    rw [none_left s empty, none_left s empty, same, empty]
    rfl
  · rw [takes s a [] one, none_left _ rfl, one]
    rfl
  · rw [takes s a [b] two, takes _ b [] rfl, two]
    rfl

/-! ## An accepted frame (R17) -/

section Accepted
variable {s : State} {v : ControlValues}

/-- The state once MDC has the report of an accepted frame. -/
def State.frameReported (s : State) (v : ControlValues) : State := (s.setIntent (s.intent.take v)).report

/-- After the report and the throttle's cancel the LIGHT_SEL queue is emptied. -/
theorem State.acceptFrame_eq (sound : s.intent.light.Sound) :
    s.acceptFrame v =
      ((s.frameReported v).cancelAssist.setIntent
        { s.intent.take v with light := { (s.intent.take v).light with queue := [] } }).setLmp
          { (s.frameReported v).cancelAssist.lmp with
            scene := (s.intent.light.see v.light).queue.getLast?.getD (s.frameReported v).cancelAssist.lmp.scene } := by
  have intent : (s.frameReported v).cancelAssist.intent = s.intent.take v := by simp [State.frameReported]
  have whole : s.acceptFrame v = (s.frameReported v).cancelAssist.takeLightCode.takeLightCode := rfl
  rw [whole, State.takeLightCode_drains (by rw [intent]; exact sound.see v.light), intent]
  rfl

/-- What an accepted frame may change (R17). -/
theorem State.acceptFrame_changes (started : s.mdc.startDone = true) (sound : s.intent.light.Sound) :
    s.changesOnly (s.acceptFrame v) [.output, .intent, .mode, .timers, .wnc, .lmp] := by
  have setLmp : ∀ (u : State) (l : Lmp), u.changesOnly (u.setLmp l) [.lmp] := by
    intro u l
    refine ⟨rfl, rfl, rfl, fun p hp => ?_⟩
    cases p <;> simp_all [State.sameIn]
  have reported : s.changesOnly (s.frameReported v) [.output, .intent, .mode, .timers, .wnc, .lmp] :=
    State.changesOnly_trans (State.changesOnly_mono (s.setIntent_changes _) (by simp))
      (State.changesOnly_mono (State.report_changes started) (by simp))
  rw [State.acceptFrame_eq sound]
  exact State.changesOnly_trans reported <|
    State.changesOnly_trans (State.changesOnly_mono (State.cancelAssist_changes _) (by simp)) <|
    State.changesOnly_trans (State.changesOnly_mono (State.setIntent_changes _ _) (by simp)) <|
    State.changesOnly_mono (setLmp _ _) (by simp)

/-- Each switch has seen its code, and the LIGHT_SEL queue is empty (R18, R20, R169). -/
theorem State.acceptFrame_intent (sound : s.intent.light.Sound) : (s.acceptFrame v).intent =
    { s.intent.take v with light := { (s.intent.take v).light with queue := [] } } := by
  rw [State.acceptFrame_eq sound]
  rfl

/-- The last code that the LIGHT_SEL queue held is the scene (R169). -/
theorem State.acceptFrame_lmp (sound : s.intent.light.Sound) (started : s.mdc.startDone = true) :
    (s.acceptFrame v).lmp =
      { s.lmp with scene := (s.intent.light.see v.light).queue.getLast?.getD s.lmp.scene } := by
  have reported : (s.frameReported v).lmp = s.lmp :=
    (State.report_changes (s := s.setIntent (s.intent.take v)) started).2.2.2 .lmp (by decide)
  have cancelled : (s.frameReported v).cancelAssist.lmp = (s.frameReported v).lmp :=
    (State.cancelAssist_changes _).2.2.2 .lmp (by decide)
  rw [State.acceptFrame_eq sound, State.setLmp_lmp, cancelled, reported]

/-- The link and MDC are as the report leaves them. -/
theorem State.acceptFrame_link (sound : s.intent.light.Sound) :
    (s.acceptFrame v).link = (s.frameReported v).link ∧ (s.acceptFrame v).mdc = (s.frameReported v).mdc := by
  rw [State.acceptFrame_eq sound]
  exact (s.frameReported v).cancelAssist_link

/-- Outside PARK the winch is touched by the throttle's cancel alone (R156). -/
theorem State.acceptFrame_wnc (sound : s.intent.light.Sound) (started : s.mdc.startDone = true)
    (park : s.mdc.mode ≠ .park) : (s.acceptFrame v).wnc =
      if s.wnc.state = .assist ∧ ¬v.axes.throttle.natAbs ≤ s.ws.nat Item.axisDeadband then s.wnc.endByLoad s.ws true
      else s.wnc := by
  have wnc : (s.frameReported v).wnc = s.wnc := State.report_wnc (s := s.setIntent (s.intent.take v)) park
  have ws : (s.frameReported v).ws = s.ws :=
    (State.report_changes (s := s.setIntent (s.intent.take v)) started).2.2.2 .working (by decide)
  have axes : (s.frameReported v).intent.axes = v.axes := by simp [State.frameReported, Intent.take]
  have cancels := (s.frameReported v).cancelAssist_wnc
  rw [wnc, ws, axes] at cancels
  rw [State.acceptFrame_eq sound]
  simpa [neutral] using cancels

end Accepted

/-- A CONTROL frame is judged by its values, unless a RESET has been accepted (R14 to R16). -/
theorem State.takeControl_eq {s : State} (resetting : s.link.resetting = false) (f : ControlFrame) :
    s.takeControl f = match controlValues f with
      | none => s.drop .malformed
      | some v => if s.mdc.startDone then s.acceptFrame v else s := by
  unfold State.takeControl
  rw [resetting]
  rfl

/-- Settles O16: refused by the range test, ignored, or taken whole with its report. -/
theorem controlFrameIsTakenWholeOrDropped : Obligations.ControlFrameIsTakenWholeOrDropped := by
  intro s f powered resetting
  have runs : exec (.controlFrame f) s = .next (s.takeControl f).holdAutoPark :=
    act_powered powered fun u => u.takeControl f
  rw [State.takeControl_eq resetting] at runs
  refine ⟨fun outside => ?_, fun v starting values => ?_, fun v started sound values => ?_⟩
  · cases values : controlValues f with
    | none =>
      rw [values] at runs
      exact ⟨_, runs, Link.drop_lastDrop _ _ _ ▸ congrArg Link.lastDrop (State.holdAutoPark_link _),
        s.setLink_onlyLink _⟩
    | some v =>
      obtain ⟨-, throttle, steer, winch, aux, codes⟩ := controlValues_some values
      omega
  · rw [runs, values]
    simp only [starting, Bool.false_eq_true, if_false]
  · intro throttleNeutral quiet
    rw [values] at runs
    simp only [started, if_true] at runs
    obtain ⟨axes, -⟩ := controlValues_some values
    obtain ⟨link, mdc⟩ := State.acceptFrame_link (v := v) sound
    have intent := (State.holdAutoPark_intent _).trans (State.acceptFrame_intent (v := v) sound)
    have lmp := (State.holdAutoPark_lmp _).trans (State.acceptFrame_lmp (v := v) sound started)
    have wnc := fun park => (State.holdAutoPark_wnc _).trans (State.acceptFrame_wnc (v := v) sound started park)
    have mode : (s.acceptFrame v).holdAutoPark.mdc.mode = (s.setIntent (s.intent.take v)).reportMode := by
      rw [State.holdAutoPark_mdc_mode, mdc]
      exact State.report_mode _
    have judged : (s.setIntent (s.intent.take v)).quiet = true ↔ quiet := State.quiet_iff _
    refine ⟨_, runs, ?axes, ?steer, ?drive, ?winch, ?queue, ?scene, ?channels, ?frame, ?nonNeutral, ?enters, ?waits,
      ?stays, ?silence, ?counts, ?restarts, ?cancels, ?stands⟩
    case axes => rw [intent]; exact axes
    case steer => rw [intent]; rfl
    case drive => rw [intent]; rfl
    case winch => rw [intent]; rfl
    case queue => rw [intent]
    case scene => rw [lmp]
    case channels => rw [lmp]
    case frame =>
      exact State.changesOnly_trans (State.acceptFrame_changes started sound)
        (State.changesOnly_mono (State.holdAutoPark_changes _) (by simp))
    case nonNeutral =>
      rw [State.holdAutoPark_mdc_lastNonNeutral, mdc]
      exact State.report_lastNonNeutral _
    case enters =>
      intro ready calm
      obtain ⟨run, silence, told⟩ := State.report_enters (s := s.setIntent (s.intent.take v)) ready (judged.mpr calm)
      refine ⟨?_, ?_, fun inMask => State.noticed_of_link ((State.holdAutoPark_link _).trans link) (told inMask)⟩
      · rw [State.holdAutoPark_mdc_mode, mdc]; exact run
      · rw [State.holdAutoPark_mdc_silenceMs, mdc]; exact silence
    case waits =>
      intro ready loud
      rw [mode]
      exact (State.reportMode_ready (s := s.setIntent (s.intent.take v)) ready).trans
        (if_neg fun calm => loud (judged.mp calm))
    case stays =>
      intro ready park
      rw [mode]
      exact State.reportMode_stays ready park
    case silence =>
      intro run
      rw [State.holdAutoPark_mdc_silenceMs, mdc]
      exact State.report_run run
    case counts =>
      intro failsafe calm
      obtain ⟨count, mark⟩ := State.report_failsafe (s := s.setIntent (s.intent.take v)) failsafe
      rw [judged.mpr calm] at count mark
      rw [State.holdAutoPark_mdc_resumeCount, State.holdAutoPark_mdc_notNeutral, mdc]
      exact ⟨count, mark⟩
    case restarts =>
      intro failsafe loud
      obtain ⟨count, mark⟩ := State.report_failsafe (s := s.setIntent (s.intent.take v)) failsafe
      rw [Bool.eq_false_iff.mpr fun calm => loud (judged.mp calm)] at count mark
      rw [State.holdAutoPark_mdc_resumeCount, State.holdAutoPark_mdc_notNeutral, mdc]
      exact ⟨count, mark⟩
    case cancels =>
      intro park assist off
      rw [wnc park, if_pos ⟨assist, off⟩]
      rfl
    case stands =>
      intro park holds
      exact (wnc park).trans (if_neg fun ends => holds.elim (fun other => other ends.1) ends.2)

end Sys2Proof.Machine
end

section
/-! PROOF. Supply and reset (R28, R67), requests before the start sequence has ended (R34), and the state reads. -/
namespace Sys2Proof.Machine

/-! ## Supply (R28, R67) -/

/-- A command that is none of the two resets and brings no pin acts where the part has supply. -/
theorem exec_acts_of_other {i : Instr} (on : i ≠ .powerOnReset) (down : i ≠ .brownOut)
    (other : ∀ tag lock, i ≠ .storeSave tag lock) :
    ∃ f, ∀ s, exec i s = act s f := by
  cases i
  case powerOnReset => exact absurd rfl on
  case brownOut => exact absurd rfl down
  case storeSave tag lock => exact absurd rfl (other tag lock)
  all_goals exact ⟨_, fun _ => rfl⟩

/-- Without supply a command changes no more than the pin that it brings (log 8, log 14). -/
theorem exec_unpowered {s : State} {i : Instr} (off : s.powered = false) (on : i ≠ .powerOnReset)
    (down : i ≠ .brownOut) : exec i s = .next (s.pinned i) := by
  cases request : requestOf i with
  | some q => rw [exec_requestOf request, act_unpowered (by rw [State.pinned_powered, off])]
  | none =>
    have other : ∀ tag lock, i ≠ .storeSave tag lock := by rintro tag lock rfl; cases request
    have pin : s.pinned i = s := by
      unfold State.pinned; split
      · exact absurd rfl (other _ _)
      · rfl
    obtain ⟨f, acts⟩ := exec_acts_of_other on down other
    rw [acts, act_unpowered off, pin]

/-- The pin's level apart, the state stands. -/
theorem State.pinned_unpinned (s : State) (i : Instr) : (s.pinned i).setStoreLock s.storeLock = s := by
  unfold State.pinned
  split <;> rfl

/-- Settles O3: the two commands that act without supply, and the rest. -/
theorem powerOnAndBrownOut : Obligations.PowerOnAndBrownOut := fun s =>
  ⟨⟨_, rfl, rfl⟩, ⟨_, rfl, rfl⟩, fun i off on down => ⟨_, exec_unpowered off on down, s.pinned_unpinned i⟩⟩

/-- Settles O4, block by block. -/
theorem resetHoldsTheStatedValues : Obligations.ResetHoldsTheStatedValues := by
  have allotment : ∀ k, (State.reset.cau.records.get k).granted = 0 ∧ (State.reset.cau.records.get k).scaled = 0 :=
    (State.reset_allotSound.zeroes rfl).2
  have corners : ∀ i, (State.reset.stc.corners.get i).state = .unpowered := fun i => by cases i <;> rfl
  have results : ∀ i, (State.reset.tse.results.get i).result = .none := fun i => by cases i <;> rfl
  have axles : ∀ i, (State.reset.drc.axles.get i).state = .coast ∧ (State.reset.drc.axles.get i).ceiling = 1000 :=
    fun i => by cases i <;> exact ⟨rfl, rfl⟩
  have generators : ∀ g, (State.reset.lmp.gens.get g).running = false := fun g => by cases g <;> rfl
  have channels : ∀ ch : ChannelId,
      (State.reset.lmp.channels[ch]).output = .off ∧ State.reset.ws.failed[ch] = false := fun ch =>
    by
    constructor
    · simp [State.reset, lmpReset, channelReset]
    · simp [State.reset, sstReset, WorkingSet.defaults]
  exact ⟨rfl, rfl, rfl, rfl, rfl, rfl, rfl, rfl, rfl, rfl, rfl, rfl, rfl, rfl, rfl, rfl, rfl, rfl, rfl, rfl, rfl, rfl,
    rfl, rfl, rfl, rfl, allotment, rfl, rfl, corners, rfl, rfl, results, rfl, axles, rfl, rfl, rfl, rfl, rfl, rfl,
    generators, channels, rfl, rfl, rfl⟩

/-! ## Before the start sequence has ended (R34) -/

/-- An undefined kind is read as no request (R6). -/
theorem parseRequest_of_undefined : ∀ kind : Byte, definedLen kind = none → parseRequest kind [] = none := by decide

/-- A request command that can be read has a defined kind (R6, R184). -/
theorem definedLen_of_requestOf {i : Instr} {q : RawRequest} {r : Request} (request : requestOf i = some q)
    (parsed : parseRequest q.kind q.payload = some r) : (definedLen q.kind).isSome = true := by
  cases i
  case undefinedRequest kind tag =>
    simp only [requestOf, Bool.and_eq_true, Option.isNone_iff_eq_none] at request
    split at request
    · rename_i undefined
      obtain rfl := Option.some.inj request
      rw [parseRequest_of_undefined kind undefined.2] at parsed
      cases parsed
    · cases request
  all_goals simp only [requestOf, reduceCtorEq, Option.some.injEq] at request
  all_goals subst request; rfl

/-- Settles O12: a request that is not early is refused before its owner is asked. -/
theorem earlyRequestsAreNotStarted : Obligations.EarlyRequestsAreNotStarted := by
  intro s i q r ready starting request parsed late
  have pinned : (s.pinned i).Ready :=
    ⟨by rw [State.pinned_powered, ready.powered], by rw [State.pinned_link, ready.notResetting],
      by rw [State.pinned_link, ready.free], by rw [State.pinned_link, ready.noneWaiting],
      by rw [State.pinned_link]; exact ready.place⟩
  have early : (s.pinned i).admitted.mdc.startDone = false := (congrArg Mdc.startDone (s.pinned_mdc i)).trans starting
  have acts := exec_ready pinned request
  rw [State.serve_parsed _ (definedLen_of_requestOf request parsed) parsed, early, late, Bool.or_self,
    if_neg Bool.false_ne_true] at acts
  obtain ⟨sent, link⟩ := (s.pinned i).admitted_refuse q .notStarted
  refine ⟨_, acts, ?_, link⟩
  unfold State.sent at sent ⊢
  rw [sent, State.pinned_link]
  rfl

/-! ## The state reads (R48, R65, R87, R111, R125, R144, R160, R176) -/

/-- A request that its owner answers, and does no more for, sends its reply and changes the link alone. -/
theorem exec_answers {s : State} {i : Instr} {q : RawRequest} {r : Request} {body : List Byte} (serving : s.Serving)
    (pin : s.pinned i = s) (request : requestOf i = some q) (parsed : parseRequest q.kind q.payload = some r)
    (answers : s.admitted.owner q r = s.admitted.ok q body) :
    ∃ t, exec i s = .next t ∧ s.sent t (replyFrame q.kind q.tag .ok body) ∧ s.onlyLink t := by
  have acts := exec_serving serving pin request (definedLen_of_requestOf request parsed) parsed
  rw [answers] at acts
  exact ⟨_, acts, s.admitted_ok q body⟩

/-- A part number is read as it was written (R185). -/
theorem twoCodes_toNat (part : Bool) : twoCodes (BitVec.ofNat 8 part.toNat) = some part := by cases part <;> rfl

/-- So is the number of a function. -/
theorem functionOfNumber_val (f : FunctionId) : functionOfNumber (BitVec.ofNat 8 f.val).toNat = some f := by
  revert f; decide

/-- A number above those of the functions names none. -/
theorem functionOfNumber_above {n : Nat} (above : 10 ≤ n) : functionOfNumber n = none := dif_neg (by omega)

/-- GET_FUNCTION answers by the number of its function (R176). -/
theorem State.serveGetFunction_val (s : State) (q : RawRequest) (f : FunctionId) :
    s.serveGetFunction q (BitVec.ofNat 8 f.val) = s.ok q (s.functionBody f) := by
  unfold State.serveGetFunction
  rw [functionOfNumber_val]

theorem State.serveGetFunction_above (s : State) (q : RawRequest) {fn : Byte} (above : 10 ≤ fn.toNat) :
    s.serveGetFunction q fn = s.refuse q .unknown := by
  unfold State.serveGetFunction
  rw [functionOfNumber_above above]

/-- Settles O14, read by read. -/
theorem stateReadsAnswerAndChangeNothing : Obligations.StateReadsAnswerAndChangeNothing := by
  intro s tag serving
  refine ⟨?status, ?pack, ?trim, ?drive, ?winch, fun part => ?allot, fun part => ?steer, fun part => ?lamps,
    fun f => ?function, fun fn above => ?noFunction⟩
  case status => exact exec_answers (q := ⟨0x03, tag, []⟩) serving rfl rfl (r := .getStatus) rfl rfl
  case pack => exact exec_answers (q := ⟨0x10, tag, []⟩) serving rfl rfl (r := .getPack) rfl rfl
  case trim => exact exec_answers (q := ⟨0x1C, tag, []⟩) serving rfl rfl (r := .getTrim) rfl rfl
  case drive => exact exec_answers (q := ⟨0x20, tag, []⟩) serving rfl rfl (r := .getDrive) rfl rfl
  case winch => exact exec_answers (q := ⟨0x25, tag, []⟩) serving rfl rfl (r := .getWinch) rfl rfl
  case allot =>
    exact exec_answers (q := ⟨0x13, tag, [BitVec.ofNat 8 part.toNat]⟩) serving rfl rfl
      (congrArg (Option.map Request.getAllot) (twoCodes_toNat part)) rfl
  case steer =>
    exact exec_answers (q := ⟨0x18, tag, [BitVec.ofNat 8 part.toNat]⟩) serving rfl rfl
      (congrArg (Option.map Request.getSteer) (twoCodes_toNat part)) rfl
  case lamps =>
    exact exec_answers (q := ⟨0x2D, tag, [BitVec.ofNat 8 part.toNat]⟩) serving rfl rfl
      (congrArg (Option.map Request.getLamps) (twoCodes_toNat part)) rfl
  case function =>
    exact exec_answers (q := ⟨0x2A, tag, [BitVec.ofNat 8 f.val]⟩) serving rfl rfl
      (r := .getFunction (BitVec.ofNat 8 f.val)) rfl (s.admitted.serveGetFunction_val _ f)
  case noFunction =>
    have acts := exec_serving serving (i := .getFunction tag fn) (q := ⟨0x2A, tag, [fn]⟩) rfl rfl
      rfl (r := .getFunction fn) rfl
    rw [State.owner, State.serveGetFunction_above _ _ above] at acts
    exact ⟨_, acts, s.admitted_refuse _ _⟩

/-! ## GET_WAKE (R46) -/

/-- A write of MDC's state that leaves the mode changes the timers alone. -/
theorem State.setMdc_timers {s : State} {d : Mdc} {parts : List Part} (mode : d.mode = s.mdc.mode)
    (timers : Part.timers ∈ parts) : s.changesOnly (s.setMdc d) parts := by
  refine ⟨rfl, rfl, rfl, fun p hp => ?_⟩
  cases p <;> simp_all [State.sameIn]

/-- Settles O23: the reply carries the record, which is then emptied. -/
theorem getWakeReturnsAndEmpties : Obligations.GetWakeReturnsAndEmpties := by
  intro s tag serving
  let q : RawRequest := ⟨0x07, tag, []⟩
  let record := u8 s.mdc.wakeSet.mask ++ orNone WakeCause.code s.mdc.wakeFirst
  let emptied : Mdc := { s.mdc with wakeSet := wakeEmpty, wakeFirst := none }
  have acts : exec (.getWake tag) s = .next ((s.admitted.ok q record).setMdc emptied).holdAutoPark :=
    exec_serving (q := q) serving rfl rfl rfl (r := .getWake) rfl
  refine ⟨_, acts, ?_, by rw [State.holdAutoPark_mdc_wakeSet]; rfl, by rw [State.holdAutoPark_mdc_wakeFirst]; rfl,
    by rw [State.holdAutoPark_mdc]; rfl, State.changesOnly_parked ?_ (by simp)⟩
  · unfold State.sent
    rw [State.holdAutoPark_link]
    exact State.ok_sent s.admitted q record
  · have answered : s.changesOnly (s.admitted.ok q record) [.queue, .output, .timers] :=
      State.changesOnly_trans (State.changesOnly_mono s.admitted_changes (by simp))
        (State.changesOnly_mono (State.answer_changes s.admitted q _) (by simp))
    exact State.changesOnly_trans answered (State.setMdc_timers rfl (by simp))

end Sys2Proof.Machine
end

section
/-! PROOF. Changes of the vehicle mode that a request or a timer brings about (R29, R37, R39 to R41, R157): RESUME, PARK,
and the timers of RUN. -/
namespace Sys2Proof.Machine

/-! ## Frames -/

/-- Parts that stand are left out of a frame. -/
theorem State.changesOnly_of_stands {s t : State} {more parts : List Part} (h : s.changesOnly t more)
    (stands : ∀ p ∈ more, p ∉ parts → s.sameIn t p) : s.changesOnly t parts := by
  obtain ⟨pending, powered, lock, same⟩ := h
  refine ⟨pending, powered, lock, fun p outside => ?_⟩
  by_cases inside : p ∈ more
  · exact stands p inside outside
  · exact same p inside

/-- What follows the mode is judged by the modes, the wake record, the axles, the winch, the settings and the notices
after. -/
theorem State.modeFollowed_to {s t u : State} (mode : u.mdc.mode = t.mdc.mode) (set : u.mdc.wakeSet = t.mdc.wakeSet)
    (first : u.mdc.wakeFirst = t.mdc.wakeFirst) (drc : u.drc = t.drc) (wnc : u.wnc = t.wnc) (ws : u.ws = t.ws)
    (keeps : ∀ n, t.noticed n → u.noticed n) (h : s.modeFollowed t) : s.modeFollowed u := by
  obtain ⟨axles, ⟨winch, engaged⟩, told⟩ := h
  unfold State.modeFollowed State.axlesFollowMode State.winchFollowsMode State.modeNoticed
  rw [mode, set, first, drc, wnc, ws]
  exact ⟨axles, ⟨winch, fun engages inMask => keeps _ (engaged engages inMask)⟩,
    fun changes inMask => keeps _ (told changes inMask)⟩

/-- A reply leaves what follows the mode. -/
theorem State.modeFollowed_ok {s t : State} (h : s.modeFollowed t) (q : RawRequest) (body : List Byte) :
    s.modeFollowed (t.ok q body) :=
  State.modeFollowed_to (t := t) rfl rfl rfl rfl rfl rfl (fun _ told => State.noticed_answer _ _ told) h

/-! ## A change of the mode that does not end the start sequence -/

/-- The start sequence ends in READY and SHUTDOWN alone (R33). -/
theorem State.startEnds_other (s : State) {m : VehicleMode} (ready : m ≠ .ready) (down : m ≠ .shutdown) :
    s.startEnds m = false := by simp [State.startEnds, ready, down]

/-- CAU stands where the start sequence does not end (R69). -/
theorem State.setMode_cau_stands {s : State} {m : VehicleMode} (goesOn : s.startEnds m = false) :
    (s.setMode m).cau = s.cau := by
  by_cases same : s.mdc.mode = m
  · rw [State.setMode_of_eq same]
  · rw [State.setMode_cau same, goesOn, if_neg Bool.false_ne_true]

/-- Such a change touches MDC, the axles, the winch and the way out. -/
theorem State.setMode_changes_unended {s : State} {m : VehicleMode} (goesOn : s.startEnds m = false) :
    s.changesOnly (s.setMode m) [.output, .mode, .timers, .drc, .wnc] :=
  State.changesOnly_of_stands (s.setMode_changes m) fun p _ outside => by
    cases p
    case cau => exact State.setMode_cau_stands goesOn
    all_goals simp_all

/-- The axles stand at a change of the mode that does not leave RUN (R131, R157). -/
theorem State.setMode_changes_halted {s : State} {m : VehicleMode} (run : s.mdc.mode ≠ .run) :
    s.changesOnly (s.setMode m) [.output, .mode, .timers, .cau, .wnc] :=
  State.changesOnly_of_stands (s.setMode_changes m) fun p _ outside => by
    cases p
    case drc => exact (s.setMode_drc m).trans (if_neg fun leaves => run leaves.1)
    all_goals simp_all

/-- MDC's state after such a change: that of the mode entered, its auto-park timer at 0 (R41). -/
theorem State.setMode_held_mdc {s : State} {m : VehicleMode} (other : s.mdc.mode ≠ m) (goesOn : s.startEnds m = false) :
    (s.setMode m).holdAutoPark.mdc = s.mdc.enter s.ws m := by
  rw [State.holdAutoPark_mdc, State.setMode_mdc, if_neg other, goesOn, if_neg Bool.false_ne_true]
  exact congrArg (fun n => { s.mdc.enter s.ws m with autoParkMs := n }) (ite_self 0)

/-- At a mode other than SHUTDOWN the winch sends nothing (R157). -/
theorem State.winchModeChange_link (s : State) {m : VehicleMode} (down : m ≠ .shutdown) :
    (s.winchModeChange m).link = s.link := by
  unfold State.winchModeChange
  rw [if_neg down]
  split
  · rfl
  · split <;> rfl

/-- The entry of such a mode puts at most its MODE notice on the way (R29). -/
theorem State.modeEntered_outgoing (s : State) {m : VehicleMode} (down : m ≠ .shutdown) :
    ∃ ahead : List TxFrame, (s.modeEntered m).link.outgoing = s.link.outgoing ++ ahead ∧ ahead.length ≤ 1 ∧
      ∀ f ∈ ahead, 0xC0 < f.kind.toNat := by
  unfold State.modeEntered
  rw [State.winchModeChange_link _ down, State.axleModeChange_link]
  exact Link.raise_outgoing _ _ _

/-! ## Requests that change the mode (R39, R40) -/

/-- A request that a change of the mode answers, the start sequence not ending: MDC's state is that of the mode entered,
the reply is behind the MODE notice, and the axles and the winch follow the mode. -/
theorem exec_enters {s : State} {i : Instr} {q : RawRequest} {r : Request} {m : VehicleMode} (serving : s.Serving)
    (pin : s.pinned i = s) (request : requestOf i = some q) (parsed : parseRequest q.kind q.payload = some r)
    (enters : s.admitted.owner q r = (s.admitted.setMode m).ok q []) (other : s.mdc.mode ≠ m) (ready : m ≠ .ready)
    (down : m ≠ .shutdown) :
    ∃ t, exec i s = .next t ∧ t.mdc = s.mdc.enter s.ws m ∧ t.drc = (s.admitted.setMode m).drc ∧
      t.wnc = (s.admitted.setMode m).wnc ∧ s.sentAfterNotice t (replyFrame q.kind q.tag .ok []) ∧ s.modeFollowed t ∧
      s.changesOnly t [.queue, .output, .mode, .timers, .drc, .wnc] := by
  have acts := exec_serving serving pin request (definedLen_of_requestOf request parsed) parsed
  rw [enters] at acts
  have goesOn := s.admitted.startEnds_other ready down
  have changed : s.changesOnly ((s.admitted.setMode m).ok q []) [.queue, .output, .mode, .timers, .drc, .wnc] :=
    State.changesOnly_trans (State.changesOnly_mono s.admitted_changes (by simp)) <|
      State.changesOnly_trans (State.changesOnly_mono (State.setMode_changes_unended goesOn) (by simp)) <|
        State.changesOnly_mono (State.answer_changes _ _ _) (by simp)
  have followed : s.modeFollowed ((s.admitted.setMode m).ok q []) :=
    State.modeFollowed_ok (State.modeFollowed_from (b := s.admitted) rfl rfl rfl rfl (s.admitted.setMode_followed m)) q []
  refine ⟨_, acts, ?_, State.holdAutoPark_drc _, State.holdAutoPark_wnc _, ?_, State.modeFollowed_held followed,
    State.changesOnly_parked changed (by simp)⟩
  · have held := State.setMode_held_mdc (s := s.admitted) other goesOn
    have unlinked := (s.admitted.setMode m).holdAutoPark_setLink ((s.admitted.setMode m).ok q []).link
    exact (congrArg State.mdc unlinked).trans held
  · obtain ⟨ahead, grows, one, notices⟩ := s.admitted.modeEntered_outgoing down
    rw [← State.setMode_entered (s := s.admitted) other ready down] at grows
    refine ⟨ahead, ?_, one, notices⟩
    have sent := State.ok_sent (s.admitted.setMode m) q []
    unfold State.sent at sent
    rw [State.holdAutoPark_link, sent, grows]
    rfl

/-- A request that is refused with a reason sends its reply and changes the link alone. -/
theorem exec_refuses {s : State} {i : Instr} {q : RawRequest} {r : Request} {why : Status} {reason : Nat}
    (serving : s.Serving) (pin : s.pinned i = s) (request : requestOf i = some q)
    (parsed : parseRequest q.kind q.payload = some r)
    (refuses : s.admitted.owner q r = s.admitted.refuseWith q why reason) :
    ∃ t, exec i s = .next t ∧ s.sent t (replyFrame q.kind q.tag why (u8 reason)) ∧ s.onlyLink t := by
  have acts := exec_serving serving pin request (definedLen_of_requestOf request parsed) parsed
  rw [refuses] at acts
  refine ⟨_, acts, ?_, s.setLink_onlyLink _⟩
  unfold State.sent
  rw [State.holdAutoPark_link]
  exact State.refuseWith_sent s.admitted q why reason

/-- Entering RUN leaves the winch (R157). -/
theorem State.setMode_run_wnc (s : State) : (s.setMode .run).wnc = s.wnc := by
  by_cases run : s.mdc.mode = .run
  · rw [State.setMode_of_eq run]
  · rw [State.setMode_wnc run]
    simp

/-- Settles O20, by the mode and the count of neutral frames. -/
theorem resumeNeedsTwoNeutralFrames : Obligations.ResumeNeedsTwoNeutralFrames := by
  intro s tag serving
  let q : RawRequest := ⟨0x04, tag, []⟩
  have owner : s.admitted.owner q .resume =
      if s.mdc.mode = .failsafe then
        if 2 ≤ s.mdc.resumeCount then (s.admitted.setMode .run).ok q []
        else if s.mdc.notNeutral then s.admitted.refuseWith q .badState 1
        else s.admitted.refuseWith q .badState 2
      else s.admitted.refuseWith q .badState 3 := rfl
  refine ⟨fun failsafe counted => ?_, fun failsafe short => ?_, fun other => ?_⟩
  · rw [if_pos failsafe, if_pos counted] at owner
    have moved : s.mdc.mode ≠ .run := by rw [failsafe]; decide
    obtain ⟨t, acts, mdc, drc, wnc, sent, followed, changed⟩ :=
      exec_enters serving (i := .resume tag) (q := q) rfl rfl rfl owner moved (by decide) (by decide)
    have drc_stands : t.drc = s.drc := drc.trans ((State.setMode_drc _ _).trans (if_neg (by simp)))
    have wnc_stands : t.wnc = s.wnc := wnc.trans (State.setMode_run_wnc _)
    refine ⟨t, acts, by rw [mdc]; rfl, by rw [mdc]; rfl, by rw [mdc]; rfl, sent, followed, wnc_stands,
      State.changesOnly_of_stands changed fun p _ outside => ?_⟩
    cases p
    case drc => exact drc_stands
    case wnc => exact wnc_stands
    all_goals simp_all
  · rw [if_pos failsafe, if_neg (by omega)] at owner
    cases neutral : s.mdc.notNeutral <;> rw [neutral] at owner
    · exact exec_refuses serving (i := .resume tag) (q := q) rfl rfl rfl owner
    · exact exec_refuses serving (i := .resume tag) (q := q) rfl rfl rfl owner
  · rw [if_neg other] at owner
    exact exec_refuses serving (i := .resume tag) (q := q) rfl rfl rfl owner

/-- Settles O21, by the mode and the park conditions. -/
theorem parkNeedsItsConditions : Obligations.ParkNeedsItsConditions := by
  intro s tag serving
  let q : RawRequest := ⟨0x05, tag, []⟩
  have owner : s.admitted.owner q .park =
      if s.mdc.mode = .ready ∨ s.mdc.mode = .run ∨ s.mdc.mode = .failsafe then
        match s.parkFailure with
        | some reason => s.admitted.refuseWith q .badState reason
        | none => (s.admitted.setMode .park).ok q []
      else s.admitted.refuseWith q .badState 3 := rfl
  refine ⟨fun awake fit => ?_, fun reason awake fails => ?_, fun ready run failsafe => ?_⟩
  · rw [if_pos awake, fit] at owner
    have moved : s.mdc.mode ≠ .park := by obtain e | e | e := awake <;> rw [e] <;> decide
    obtain ⟨t, acts, mdc, -, -, sent, followed, changed⟩ :=
      exec_enters serving (i := .park tag) (q := q) rfl rfl rfl owner moved (by decide) (by decide)
    have timer : t.mdc.parkTimer =
        if s.ws.nat Item.parkTimerS = 0 then none else some (s.ws.nat Item.parkTimerS * 1000) := by
      rw [mdc]
      simp only [Mdc.enter, true_and, Nat.pos_iff_ne_zero, ne_eq, ite_not]
    exact ⟨t, acts, by rw [mdc]; rfl, by rw [mdc]; rfl, by rw [mdc]; rfl, by rw [mdc]; rfl, timer, by rw [mdc]; rfl,
      sent, followed, changed⟩
  · rw [if_pos awake, fails] at owner
    exact exec_refuses serving (i := .park tag) (q := q) rfl rfl rfl owner
  · rw [if_neg (by simp [ready, run, failsafe])] at owner
    exact exec_refuses serving (i := .park tag) (q := q) rfl rfl rfl owner

/-! ## The timers of RUN (R37, R41) -/

/-- A movement that ends by load leaves the winch still (R148). -/
theorem Wnc.endByLoad_still (w : Wnc) (ws : WorkingSet) (rearm : Bool) :
    (w.endByLoad ws rearm).state.moves = false := by
  unfold Wnc.endByLoad Wnc.endMovement Wnc.byLoad
  split <;> rfl

/-- A change of the mode out of RUN: MDC's state is that of the mode entered, the axles are halted, the winch is still
(R131, R157). -/
theorem State.setMode_leaves_run {s : State} {m : VehicleMode} (run : s.mdc.mode = .run) (other : m ≠ .run)
    (ready : m ≠ .ready) (down : m ≠ .shutdown) :
    (s.setMode m).holdAutoPark.mdc = s.mdc.enter s.ws m ∧ (s.setMode m).holdAutoPark.drc = s.drc.halt ∧
      (s.setMode m).holdAutoPark.wnc = (if s.wnc.state.moves = true then s.wnc.endByLoad s.ws true else s.wnc) ∧
      s.modeFollowed (s.setMode m).holdAutoPark ∧
      s.changesOnly (s.setMode m).holdAutoPark [.output, .mode, .timers, .drc, .wnc] := by
  have moved : s.mdc.mode ≠ m := by rw [run]; exact other.symm
  have goesOn := s.startEnds_other ready down
  refine ⟨State.setMode_held_mdc moved goesOn, ?_, ?_, State.modeFollowed_held (s.setMode_followed m),
    State.changesOnly_parked (State.setMode_changes_unended goesOn) (by simp)⟩
  · rw [State.holdAutoPark_drc, State.setMode_drc, if_pos ⟨run, other⟩]
  · rw [State.holdAutoPark_wnc, State.setMode_wnc moved]
    simp [other, down]

/-- Settles O25: each timer is a change of the mode out of RUN. -/
theorem timersLeaveRun : Obligations.TimersLeaveRun := by
  intro s powered run
  refine ⟨?_, fun runs => ?_⟩
  · have acts : exec .silenceTimerExpiry s = .next (s.setMode .failsafe).holdAutoPark := by
      have expires : s.silenceExpires = s.setMode .failsafe := if_pos run
      rw [← expires]
      exact act_powered powered State.silenceExpires
    obtain ⟨mdc, drc, wnc, followed, changed⟩ :=
      State.setMode_leaves_run (m := .failsafe) run (by decide) (by decide) (by decide)
    refine ⟨_, acts, by rw [mdc]; rfl, by rw [mdc]; rfl, by rw [mdc]; rfl, by rw [mdc]; rfl, ?_, fun moves => ?_,
      fun i => ?_, by rw [drc]; rfl, followed, changed⟩
    · rw [wnc]
      split
      · exact Wnc.endByLoad_still _ _ _
      · simp_all
    · rw [wnc, if_pos moves]
      exact ⟨rfl, rfl, rfl, rfl⟩
    · rw [drc]
      cases i <;> rfl
  · have acts : exec .autoParkExpiry s = .next (s.setMode .park).holdAutoPark := by
      have expires : s.autoParkExpires = s.setMode .park := if_pos runs
      rw [← expires]
      exact act_powered powered State.autoParkExpires
    obtain ⟨mdc, -, -, followed, changed⟩ :=
      State.setMode_leaves_run (m := .park) run (by decide) (by decide) (by decide)
    exact ⟨_, acts, by rw [mdc]; rfl, by rw [mdc]; rfl, by rw [mdc]; rfl, followed, changed⟩

end Sys2Proof.Machine
end

section
/-! PROOF. The start sequence (R31 to R33, R69, R178): the image that LOADING takes up, the stages' ends, and a sample in
CENTERING. -/
namespace Sys2Proof.Machine

/-! ## The end of the start sequence (R33, R69) -/

/-- A change of the mode that neither leaves RUN nor ends the start sequence changes MDC, the winch and the way out. -/
theorem State.setMode_changes_within {s : State} {m : VehicleMode} (run : s.mdc.mode ≠ .run)
    (goesOn : s.startEnds m = false) : s.changesOnly (s.setMode m) [.output, .mode, .timers, .wnc] :=
  State.changesOnly_of_stands (State.setMode_changes_unended goesOn) fun p _ outside => by
    cases p
    case drc => exact (s.setMode_drc m).trans (if_neg fun leaves => run leaves.1)
    all_goals simp_all

/-- The body of HELLO's reply is not touched by the auto-park timer. -/
theorem State.holdAutoPark_helloBody (s : State) : s.holdAutoPark.helloBody = s.helloBody := by
  simp [State.helloBody, State.ws]

/-- At a change of the mode to READY or SHUTDOWN the start sequence has ended: where it ends there, CAU's first window
has run and a deferred HELLO is answered. -/
theorem State.setMode_ends_start {s : State} {m : VehicleMode} (other : s.mdc.mode ≠ m)
    (last : m = .ready ∨ m = .shutdown) :
    let t := (s.setMode m).holdAutoPark
    t.mdc.startDone = true ∧
      (s.mdc.startDone = false → t.cau.budgetLevel = s.pkm.level ∧ t.cau.budget = budgetFor s.ws s.pkm.level) ∧
      ∀ tag, s.mdc.startDone = false → s.mdc.deferredHello = some tag →
        t.mdc.deferredHello = none ∧ replyFrame 0x01 tag .ok t.helloBody ∈ t.link.outgoing := by
  have ends : s.mdc.startDone = false → s.startEnds m = true := fun early => by simp [State.startEnds, early, last]
  have window := (s.modeEntered m).window_level
  simp only [State.modeEntered_pkm, State.ws, State.modeEntered_sst] at window
  refine ⟨?_, fun early => ?_, fun tag early asked => ⟨?_, ?_⟩⟩
  · rw [State.holdAutoPark_mdc_startDone, State.setMode_mdc, if_neg other]
    cases early : s.mdc.startDone with
    | false => rw [if_pos (ends early)]
    | true =>
      split
      · rfl
      · exact early
  · rw [State.holdAutoPark_cau, State.setMode_cau other, if_pos (ends early)]
    exact ⟨window.1, window.2.1⟩
  · rw [State.holdAutoPark_mdc_deferredHello, State.setMode_mdc, if_neg other, if_pos (ends early)]
  · rw [State.holdAutoPark_helloBody, State.holdAutoPark_link, State.setMode_eq other, if_pos (ends early)]
    exact State.endStart_answers (by rw [State.modeEntered_mdc]; exact asked)

/-! ## LOADING (R31, R178) -/

/-- The working set that a LOADING takes up: the image's content where its check matches, else the defaults. -/
def Image.taken (i : Image) : WorkingSet := if i.valid then i.content else WorkingSet.defaults

/-- LOADING replaces the working set, with the channels following its map, then the store and the store result. -/
def State.loaded (s : State) (w : WorkingSet) (valid : Bool) : State :=
  ((s.remap w).setSst { s.sst with working := w, store := if valid then .valid else .invalid }).setMdc
    { s.mdc with storeResult := if valid then .valid else .defaulted }

theorem State.loadImage_eq (s : State) : s.loadImage = s.loaded s.sst.image.taken s.sst.image.valid := rfl

/-- A write of the Settings Store's state. -/
theorem State.setSst_changes (s : State) (x : Sst) : s.changesOnly (s.setSst x) [.working, .store] := by
  refine ⟨rfl, rfl, rfl, fun p hp => ?_⟩
  cases p <;> simp_all [State.sameIn]

/-- Taking up the image changes LMP, the Settings Store and the store result. -/
theorem State.loaded_changes (s : State) (w : WorkingSet) (valid : Bool) :
    s.changesOnly (s.loaded w valid) [.timers, .lmp, .working, .store] :=
  State.changesOnly_trans (State.changesOnly_mono (s.setWorking_changes w) (by simp)) <|
    State.changesOnly_trans (State.changesOnly_mono (State.setLmp_changes _ _) (by simp)) <|
    State.changesOnly_trans (State.changesOnly_mono (State.setSst_changes _ _) (by simp)) <|
    State.setMdc_timers rfl (by simp)

/-- LOADING's end: the image is taken up, then PACK_CHECK is entered. -/
theorem exec_loadingEnd {s : State} (powered : s.powered = true) (loading : s.mdc.mode = .loading) :
    exec .loadingEnd s =
      .next ((s.loaded s.sst.image.taken s.sst.image.valid).setMode .packCheck).holdAutoPark := by
  have acts : exec .loadingEnd s = act s fun s => if s.mdc.mode = .loading then s.loadImage.setMode .packCheck else s :=
    rfl
  rw [acts, act_powered powered, if_pos loading, State.loadImage_eq]

/-- PACK_CHECK is entered with the loaded settings (R31): what LMP, the Settings Store, the winch and MDC hold then. -/
theorem State.loaded_entered {s : State} (loading : s.mdc.mode = .loading) (w : WorkingSet) (valid : Bool) :
    let t := ((s.loaded w valid).setMode .packCheck).holdAutoPark
    t.mdc = (s.loaded w valid).mdc.enter w .packCheck ∧ t.sst = (s.loaded w valid).sst ∧ t.lmp = (s.remap w).lmp ∧
      t.wnc = (if s.wnc.state.moves = true then s.wnc.endByLoad w true else s.wnc) ∧ s.modeNoticed t ∧
      s.changesOnly t [.output, .mode, .timers, .wnc, .lmp, .working, .store] := by
  have moved : (s.loaded w valid).mdc.mode ≠ .packCheck := by
    change s.mdc.mode ≠ .packCheck
    rw [loading]; decide
  have run : (s.loaded w valid).mdc.mode ≠ .run := by
    change s.mdc.mode ≠ .run
    rw [loading]; decide
  have goesOn := (s.loaded w valid).startEnds_other (m := .packCheck) (by decide) (by decide)
  have entered := State.setMode_held_mdc moved goesOn
  have frame := s.loaded_changes w valid
  have mode : (s.loaded w valid).mdc.mode = s.mdc.mode := rfl
  have winch : (s.loaded w valid).wnc = s.wnc := by simp [State.loaded]
  have working : (s.loaded w valid).ws = w := by simp [State.loaded, State.ws]
  have lamps : (s.loaded w valid).lmp = (s.remap w).lmp := by simp [State.loaded]
  generalize s.loaded w valid = b at *
  rw [working] at entered
  refine ⟨entered, ?_, ?_, ?_, ?_, ?_⟩
  · rw [State.holdAutoPark_sst, State.setMode_sst]
  · rw [State.holdAutoPark_lmp, State.setMode_lmp, lamps]
  · rw [State.holdAutoPark_wnc, State.setMode_wnc moved, winch, working]
    simp
  · obtain ⟨-, -, told⟩ := State.modeFollowed_held (b.setMode_followed .packCheck)
    unfold State.modeNoticed at told ⊢
    rwa [mode] at told
  · exact State.changesOnly_parked (State.changesOnly_trans (State.changesOnly_mono frame (by simp))
      (State.changesOnly_mono (State.setMode_changes_within run goesOn) (by simp))) (by simp)

/-! ## PACK_CHECK (R32) -/

/-- The end of PACK_CHECK: SHUTDOWN at CUTOFF, where the start sequence has ended, and else CENTERING. -/
theorem State.endPackCheck_spec {s : State} (stage : s.mdc.mode = .packCheck) :
    let t := s.endPackCheck.holdAutoPark
    t.mdc.mode = (if s.pkm.level = .cutoff then .shutdown else .centering) ∧
      t.mdc.packCheckCount = s.mdc.packCheckCount ∧
      (s.pkm.level = .cutoff → t.mdc.startDone = true ∧
        (s.mdc.startDone = false → t.cau.budgetLevel = .cutoff ∧ t.cau.budget = 0) ∧
        ∀ tag, s.mdc.startDone = false → s.mdc.deferredHello = some tag →
          t.mdc.deferredHello = none ∧ replyFrame 0x01 tag .ok t.helloBody ∈ t.link.outgoing) ∧
      (s.pkm.level ≠ .cutoff → t.cau = s.cau) ∧ s.modeFollowed t ∧
      s.changesOnly t [.output, .mode, .timers, .cau, .wnc] := by
  unfold State.endPackCheck
  have moved : ∀ m, m ≠ .packCheck → s.mdc.mode ≠ m := fun m other => by rw [stage]; exact other.symm
  have run : s.mdc.mode ≠ .run := by rw [stage]; decide
  have count : ∀ m, m ≠ .packCheck → (s.setMode m).mdc.packCheckCount = s.mdc.packCheckCount := by
    intro m other
    rw [State.setMode_mdc, if_neg (moved m other)]
    split <;> exact if_neg other
  refine ⟨by rw [State.holdAutoPark_mdc_mode, State.setMode_mode], ?_, fun cut => ?_, fun fit => ?_,
    State.modeFollowed_held (s.setMode_followed _), State.changesOnly_parked (State.setMode_changes_halted run) (by simp)⟩
  · rw [State.holdAutoPark_mdc_packCheckCount]
    exact count _ (by split <;> decide)
  · rw [if_pos cut]
    obtain ⟨done, window, answered⟩ := State.setMode_ends_start (moved .shutdown (by decide)) (.inr rfl)
    rw [cut] at window
    exact ⟨done, window, answered⟩
  · rw [if_neg fit, State.holdAutoPark_cau, State.setMode_cau_stands (s.startEnds_other (by decide) (by decide))]

/-- PACK_CHECK_END, one sample short of its count: the sample is counted and the stage ends (log 6). -/
theorem exec_packCheckEnd {s : State} (powered : s.powered = true) (stage : s.mdc.mode = .packCheck)
    (due : s.ws.nat Item.confirmSamples ≤ s.mdc.packCheckCount + 1) :
    exec .packCheckEnd s = .next s.counted.endPackCheck.holdAutoPark := by
  have acts : exec .packCheckEnd s = act s fun s =>
      if s.mdc.mode = .packCheck ∧ s.ws.nat Item.confirmSamples ≤ s.mdc.packCheckCount + 1 then
        (s.setMdc { s.mdc with packCheckCount := s.mdc.packCheckCount + 1 }).endPackCheck
      else s := rfl
  rw [acts, act_powered powered, if_pos ⟨stage, due⟩, State.counted, if_pos stage]

/-- Counting a sample changes MDC's count alone (R32). -/
theorem State.counted_rest (s : State) : s.counted.mdc.mode = s.mdc.mode ∧ s.counted.mdc.startDone = s.mdc.startDone ∧
    s.counted.mdc.deferredHello = s.mdc.deferredHello ∧ s.counted.pkm = s.pkm ∧ s.counted.cau = s.cau ∧
    s.counted.drc = s.drc ∧ s.counted.wnc = s.wnc ∧ s.counted.sst = s.sst := by
  unfold State.counted
  split <;> exact ⟨rfl, rfl, rfl, rfl, rfl, rfl, rfl, rfl⟩

theorem State.counted_changes (s : State) : s.changesOnly s.counted [.timers] := by
  unfold State.counted
  split
  · exact State.setMdc_timers rfl (by simp)
  · exact s.changesOnly_refl _

/-! ## A sample (R49) -/

/-- Steps 1 to 4 of a sample: the record, the energy counter, the counts and the level. -/
def State.sampled (s : State) (r : PackReading) : State :=
  (s.setPkm (s.pkm.observe s.ws s.cau (samplePeriod s.mdc.mode) r)).settleLevel (sampleOf s.ws r)

/-- Where PKM samples, a sample is steps 1 to 4 and MDC's count of it (R49). -/
theorem exec_packSample {s : State} (powered : s.powered = true) (samples : sampling s.mdc.mode = true) (r : PackReading) :
    exec (.packSample r) s = .next (s.sampled r).countSample.holdAutoPark := by
  have acts : exec (.packSample r) s = act s fun s =>
      if sampling s.mdc.mode then
        ((s.setPkm (s.pkm.observe s.ws s.cau (samplePeriod s.mdc.mode) r)).settleLevel (sampleOf s.ws r)).countSample
      else s := rfl
  rw [acts, act_powered powered, samples, if_pos rfl]
  rfl

/-- Outside PACK_CHECK no sample is counted (R32). -/
theorem State.countSample_other {s : State} (other : s.mdc.mode ≠ .packCheck) : s.countSample = s := if_neg other

/-- A sample leaves the level and changes PKM alone, or changes the level and its readers act (R57, R59, R63). -/
theorem State.sampled_cases (s : State) (r : PackReading) :
    (∃ p, p.level = s.pkm.level ∧ s.sampled r = s.setPkm p) ∨
      ((s.sampled r).pkm.level ≠ s.pkm.level ∧ s.followsLevel (s.sampled r).holdAutoPark) := by
  have observed : (s.pkm.observe s.ws s.cau (samplePeriod s.mdc.mode) r).level = s.pkm.level := by
    unfold Pkm.observe Pkm.addCharge
    dsimp only
    split <;> rfl
  obtain ⟨p, level, stands⟩ | ⟨level, followed⟩ :=
    (s.setPkm (s.pkm.observe s.ws s.cau (samplePeriod s.mdc.mode) r)).settleLevel_cases (sampleOf s.ws r)
  · exact .inl ⟨p, level.trans observed, stands⟩
  · exact .inr ⟨fun same => level (same.trans observed.symm), State.followsLevel_of_setPkm followed⟩

/-- A sample in CENTERING leaves it, or brings CUTOFF, which ends the start sequence in SHUTDOWN (R33, R47). -/
theorem State.sampled_centering {s : State} (centering : s.mdc.mode = .centering) (fit : s.pkm.level ≠ .cutoff)
    (r : PackReading) :
    let t := (s.sampled r).holdAutoPark
    (t.pkm.level ≠ .cutoff → t.mdc.mode = .centering) ∧
      (t.pkm.level = .cutoff → t.mdc.mode = .shutdown ∧ t.mdc.stageMs = 0 ∧ t.mdc.startDone = true ∧
        ∀ tag, s.mdc.startDone = false → s.mdc.deferredHello = some tag →
          t.mdc.deferredHello = none ∧ replyFrame 0x01 tag .ok t.helloBody ∈ t.link.outgoing) := by
  obtain ⟨p, level, stands⟩ | ⟨-, mdc, hello, -⟩ := s.sampled_cases r
  · rw [stands]
    dsimp only
    rw [State.holdAutoPark_pkm, State.holdAutoPark_mdc_mode]
    exact ⟨fun _ => centering, fun cut => absurd (level.symm.trans cut) fit⟩
  · dsimp only
    generalize (s.sampled r).holdAutoPark = t at *
    refine ⟨fun other => ?_, fun cut => ?_⟩
    · rw [mdc]
      simp [centering, other]
    · simp only [centering, cut, true_and, true_or] at mdc hello
      refine ⟨by rw [mdc]; simp, by rw [mdc]; simp, by rw [mdc]; simp, fun tag early asked => ⟨?_, ?_⟩⟩
      · rw [mdc]; simp [early]
      · exact hello trivial early tag asked

/-- Settles O24, stage by stage. -/
theorem startSequenceRuns : Obligations.StartSequenceRuns := by
  intro s powered
  refine ⟨fun loading => ?_, fun stage due => ?_, fun centering => ?_, fun r centering fit => ?_⟩
  · obtain ⟨mdc, sst, lmp, wnc, noticed, frame⟩ := State.loaded_entered loading s.sst.image.taken s.sst.image.valid
    have acts := exec_loadingEnd powered loading
    have good : s.sst.image.content.check = s.sst.image.check → s.sst.image.valid = true := fun e => decide_eq_true e
    have bad : s.sst.image.content.check ≠ s.sst.image.check → s.sst.image.valid = false := fun e => decide_eq_false e
    have valid : s.sst.image.valid = true → s.sst.image.taken = s.sst.image.content := fun e => if_pos e
    have invalid : s.sst.image.valid = false → s.sst.image.taken = WorkingSet.defaults := fun e =>
      if_neg (by rw [e]; decide)
    generalize s.sst.image.taken = w at *
    generalize s.sst.image.valid = v at *
    have ws : (((s.loaded w v).setMode .packCheck).holdAutoPark).ws = w := congrArg Sst.working sst
    generalize ((s.loaded w v).setMode .packCheck).holdAutoPark = t at *
    refine ⟨t, acts, by rw [mdc]; rfl, by rw [mdc]; rfl, fun matching => ?_, fun differing => ?_, by rw [sst]; rfl,
      by rw [lmp]; exact State.remap_lmp _ _, fun ch carries => ?_, fun ch changes => ?_, noticed, fun still => ?_,
      fun moves => ?_, frame⟩
    · obtain rfl := good matching
      exact ⟨ws.trans (valid rfl), by rw [mdc]; rfl, by rw [sst]; rfl⟩
    · obtain rfl := bad differing
      exact ⟨ws.trans (invalid rfl), by rw [mdc]; rfl, by rw [sst]; rfl⟩
    · rw [ws] at carries
      rw [lmp, State.remap_channel, if_pos carries.symm]
    · rw [ws] at changes
      have dark := s.remap_darkened fun e => changes e.symm
      unfold State.darkened at dark ⊢
      rw [ws, lmp]
      exact dark
    · rw [wnc, if_neg (by simp [still])]
    · rw [wnc, if_pos moves, ws]
      rfl
  · obtain ⟨mode, done, hello, pkm, cau, drc, wnc, sst⟩ := s.counted_rest
    obtain ⟨ends, -, cut, -, followed, frame⟩ := State.endPackCheck_spec (mode.trans stage)
    rw [pkm, done, hello] at cut
    rw [pkm] at ends
    refine ⟨_, exec_packCheckEnd powered stage due, ends, fun low => ?_,
      State.modeFollowed_from mode drc wnc (congrArg Sst.working sst) followed,
      State.changesOnly_mono (State.changesOnly_trans (State.changesOnly_mono s.counted_changes (by simp)) frame)
        (by simp)⟩
    obtain ⟨started, window, answered⟩ := cut low
    exact ⟨started, fun early => (window early).2, answered⟩
  · have acts : exec .centeringEnd s = .next (s.setMode .ready).holdAutoPark := by
      have ends : exec .centeringEnd s = act s fun s => if s.mdc.mode = .centering then s.setMode .ready else s := rfl
      rw [ends, act_powered powered, if_pos centering]
    have moved : s.mdc.mode ≠ .ready := by rw [centering]; decide
    obtain ⟨started, window, answered⟩ := State.setMode_ends_start moved (.inl rfl)
    refine ⟨_, acts, by rw [State.holdAutoPark_mdc_mode, State.setMode_mode], ?_, started, window, answered,
      State.modeFollowed_held (s.setMode_followed _),
      State.changesOnly_parked
        (State.changesOnly_mono (State.setMode_changes_halted (by rw [centering]; decide)) (by simp)) (by simp)⟩
    rw [State.holdAutoPark_mdc_stageMs, State.setMode_mdc, if_neg moved]
    split <;> rfl
  · have acts := exec_packSample powered (by rw [centering]; rfl) r
    have spec := State.sampled_centering centering fit r
    have uncounted : (s.sampled r).mdc.mode ≠ .packCheck := by
      rw [← State.holdAutoPark_mdc_mode]
      by_cases cut : (s.sampled r).holdAutoPark.pkm.level = .cutoff
      · rw [(spec.2 cut).1]; decide
      · rw [spec.1 cut]; decide
    rw [State.countSample_other uncounted] at acts
    exact ⟨_, acts, spec⟩

end Sys2Proof.Machine
end

section
/-! PROOF. A sample (R49): the record, the energy counter, the counts and marks, and what it brings to the stage and the
other blocks. -/
namespace Sys2Proof.Machine

/-! ## Steps 1 to 3 (R50, R51, R53 to R56) -/

@[simp] theorem PerCond.get_ofFn {α : Type} (f : Condition → α) (k : Condition) : (PerCond.ofFn f).get k = f k := by
  cases k <;> rfl

/-- Below its end the energy counter takes the whole charge, one used mAh for each 3,600,000 (R51). -/
theorem Pkm.addCharge_total {p : Pkm} {charge : Nat} (before : p.usedMah < 65535)
    (after : (p.addCharge charge).usedMah < 65535) :
    (p.addCharge charge).usedMah * 3600000 + (p.addCharge charge).residue =
      p.usedMah * 3600000 + p.residue + charge := by
  unfold Pkm.addCharge at after ⊢
  rw [if_neg (by omega)] at after ⊢
  dsimp only at after ⊢
  omega

/-- A condition whose count and mark are frozen at a sample (R56). -/
theorem frozen_iff (exempt : Bool) (k : Condition) :
    frozen exempt k = true ↔ (k = .uvCaution ∨ k = .uvLimit) ∧ exempt = true := by
  cases k <;> simp [frozen]

theorem untested_iff (level : Level) (k : Condition) :
    untested level k = true ↔ k = .overcurrent ∧ level = .cutoff := by simp [untested]

section Observed
variable (p : Pkm) (w : WorkingSet) (c : Cau) (ms : Nat) (r : PackReading)

/-- The energy counter after a sample takes its charge. -/
theorem Pkm.observe_energy : (p.observe w c ms r).usedMah =
      ({ p with sample := some (sampleOf w r) }.addCharge ((sampleOf w r).current.toNat * ms)).usedMah ∧
    (p.observe w c ms r).residue =
      ({ p with sample := some (sampleOf w r) }.addCharge ((sampleOf w r).current.toNat * ms)).residue := ⟨rfl, rfl⟩

theorem Pkm.observe_sample : (p.observe w c ms r).sample = some (sampleOf w r) := by
  unfold Pkm.observe Pkm.addCharge
  dsimp only
  split <;> rfl

/-- Each condition's count and mark follow its presence, judged with the used mAh of this sample (R53 to R56). -/
theorem Pkm.observe_condition (k : Condition) :
    let present := conditionPresent w c (p.observe w c ms r).usedMah (sampleOf w r) k
    (p.observe w c ms r).counts.get k = nextCount c.holder.isSome p.level present (p.counts.get k) k ∧
      (p.observe w c ms r).confirmed.get k = nextConfirmed w c.holder.isSome p.level present (p.confirmed.get k)
        ((p.observe w c ms r).counts.get k) k := by
  unfold Pkm.observe
  simp only [PerCond.get_ofFn, and_self]

end Observed

/-- The rule of a count and a mark, case by case: frozen, RESERVE, not tested, counted (R54 to R56). -/
theorem nextCount_cases (w : WorkingSet) (exempt : Bool) (level : Level) (present old : Bool) (n m : Nat) (k : Condition)
    (count : m = nextCount exempt level present n k) (mark : Bool)
    (confirmed : mark = nextConfirmed w exempt level present old m k) :
    if (k = .uvCaution ∨ k = .uvLimit) ∧ exempt = true then m = n ∧ mark = old
    else if k = .reserve then m = 0 ∧ mark = present
    else if k = .overcurrent ∧ level = .cutoff then m = 0 ∧ mark = false
    else m = (if present then min 50 (n + 1) else 0) ∧ mark = (present && decide (confirmFigure w k ≤ m)) := by
  rw [count] at confirmed ⊢
  rw [confirmed]
  unfold nextConfirmed
  by_cases still : frozen exempt k = true
  · rw [if_pos ((frozen_iff exempt k).mp still), if_pos still]
    exact ⟨if_pos still, rfl⟩
  have moves : nextCount exempt level present n k =
      if k = .reserve ∨ untested level k then 0 else if present then min 50 (n + 1) else 0 := if_neg still
  rw [if_neg fun h => still ((frozen_iff exempt k).mpr h), if_neg still]
  by_cases reserve : k = .reserve
  · rw [if_pos reserve, if_pos reserve]
    exact ⟨moves.trans (if_pos (.inl reserve)), rfl⟩
  rw [if_neg reserve, if_neg reserve]
  by_cases idle : untested level k = true
  · rw [if_pos ((untested_iff level k).mp idle), if_pos idle]
    exact ⟨moves.trans (if_pos (.inr idle)), rfl⟩
  · rw [if_neg fun h => idle ((untested_iff level k).mpr h), if_neg idle]
    exact ⟨moves.trans (if_neg (by simp [reserve, idle])), rfl⟩

/-! ## Step 4 leaves the record, the counter, the counts and the marks -/

/-- Step 4 of a sample touches the level, the recovery count and the last cause alone (R57, R59). -/
theorem State.settleLevel_pkm (s : State) (r : Sample) : (s.settleLevel r).pkm =
    { s.pkm with
      level := (s.settleLevel r).pkm.level, recovery := (s.settleLevel r).pkm.recovery
      lastCause := (s.settleLevel r).pkm.lastCause } := by
  have levelled : ∀ l c, (s.setLevel l c).pkm = { s.pkm with
      level := (s.setLevel l c).pkm.level, recovery := (s.setLevel l c).pkm.recovery
      lastCause := (s.setLevel l c).pkm.lastCause } := fun l c => by rw [State.setLevel_pkm]
  unfold State.settleLevel
  split
  · rename_i t rises
    unfold State.rise at rises
    dsimp only at rises
    split at rises
    · obtain ⟨k, -, rfl⟩ := Option.map_eq_some_iff.mp rises
      exact levelled _ _
    · cases rises
  · unfold State.fall
    split
    · split
      · rfl
      · split
        · exact levelled _ _
        · rfl
    · rfl

/-! ## A sample in PACK_CHECK (R32) -/

/-- Held or not, the auto-park timer leaves a frame that lists MDC's timers. -/
theorem State.changesOnly_unheld {s t : State} {parts : List Part} (h : s.changesOnly t.holdAutoPark parts)
    (timers : Part.timers ∈ parts) : s.changesOnly t parts := by
  obtain ⟨pending, powered, lock, same⟩ := h
  refine ⟨by simpa using pending, by simpa using powered, by simpa using lock, fun p outside => ?_⟩
  have stands := same p outside
  cases p
  case timers => exact absurd timers outside
  all_goals simpa [State.sameIn] using stands

/-- The Settings Store's part in a change of the level stands while its own state, the level and its notice do. -/
theorem State.storeFollowsLevel_to {s t u : State} (sst : u.sst = t.sst) (level : u.pkm.level = t.pkm.level)
    (keeps : ∀ n, n.kind = .store → t.noticed n → u.noticed n) (h : s.storeFollowsLevel t) : s.storeFollowsLevel u := by
  obtain ⟨store, abandoned⟩ := h
  unfold State.storeFollowsLevel
  rw [sst, level]
  exact ⟨store, fun abandons => ⟨(abandoned abandons).1, fun inMask => keeps _ rfl ((abandoned abandons).2 inMask)⟩⟩

/-- Nothing follows where the mode stands. -/
theorem State.modeFollowed_refl (s : State) : s.modeFollowed s := by
  have stands := s.setMode_followed s.mdc.mode
  rwa [State.setMode_of_eq rfl] at stands

/-- A sample in PACK_CHECK before it is counted: no mode changes, CAU stands while the start sequence has not ended, the
Settings Store follows the level. -/
structure State.StageSampled (s u : State) : Prop where
  mode : u.mdc.mode = s.mdc.mode
  count : u.mdc.packCheckCount = s.mdc.packCheckCount
  done : u.mdc.startDone = s.mdc.startDone
  hello : u.mdc.deferredHello = s.mdc.deferredHello
  drc : u.drc = s.drc
  wnc : u.wnc = s.wnc
  ws : u.ws = s.ws
  cau : s.mdc.startDone = false → u.cau = s.cau
  store : u.pkm.level = s.pkm.level → u.sst = s.sst
  follows : u.pkm.level ≠ s.pkm.level → s.storeFollowsLevel u
  frame : s.changesOnly u [.output, .mode, .timers, .pkm, .cau, .drc, .wnc, .store]

theorem State.sampled_stage {s : State} (stage : s.mdc.mode = .packCheck) (r : PackReading) :
    s.StageSampled (s.sampled r) := by
  obtain ⟨p, level, stands⟩ | ⟨level, mdc, -, -, cau, -, store, ⟨axles, ⟨winch, -⟩, -⟩, frame⟩ := s.sampled_cases r
  · rw [stands]
    exact ⟨rfl, rfl, rfl, rfl, rfl, rfl, rfl, fun _ => rfl, fun _ => rfl, fun moved => absurd level moved,
      State.changesOnly_mono (s.setPkm_changes p) (by simp)⟩
  · simp only [stage, reduceCtorEq, or_self, false_and, and_false, if_false, decide_false, Bool.or_false,
      not_false_eq_true] at mdc cau
    have mode : (s.sampled r).mdc.mode = s.mdc.mode := by rw [← State.holdAutoPark_mdc_mode, mdc, stage]
    have drc : (s.sampled r).drc = s.drc := by
      rw [← State.holdAutoPark_drc, axles, State.holdAutoPark_mdc_mode, mode, if_neg fun leaves => leaves.2 leaves.1]
    have wnc : (s.sampled r).wnc = s.wnc := by
      simpa [State.holdAutoPark_mdc_mode, mode] using winch
    refine ⟨mode, ?_, ?_, ?_, drc, wnc, ?_, fun early => ?_, fun same => absurd same level, fun _ => ?_,
      State.changesOnly_unheld frame (by simp)⟩
    · rw [← State.holdAutoPark_mdc_packCheckCount, mdc]
    · rw [← State.holdAutoPark_mdc_startDone, mdc]
    · rw [← State.holdAutoPark_mdc_deferredHello, mdc]
    · exact (State.changesOnly_unheld frame (by simp)).2.2.2 .working (by simp)
    · rw [← State.holdAutoPark_cau]
      exact cau early trivial
    · exact State.storeFollowsLevel_to (State.holdAutoPark_sst _).symm (congrArg Pkm.level (State.holdAutoPark_pkm _).symm)
        (fun _ _ told => State.noticed_of_link (State.holdAutoPark_link _).symm told) store

/-- MDC's count of a sample: PACK_CHECK counts it, and ends where the count reaches its figure (R32). -/
theorem State.countSample_eq (s : State) :
    s.countSample = if s.mdc.mode = .packCheck ∧ s.ws.nat Item.confirmSamples ≤ s.mdc.packCheckCount + 1 then
      s.counted.endPackCheck else s.counted := by
  unfold State.countSample State.counted
  by_cases stage : s.mdc.mode = .packCheck
  · simp only [stage, if_true, true_and]
  · simp only [stage, if_false, false_and]

/-- The end of PACK_CHECK leaves a raised notice of the Settings Store. -/
theorem State.noticed_endPackCheck {s : State} {n : Notice} (store : n.kind = .store) (told : s.noticed n) :
    s.endPackCheck.noticed n :=
  State.noticed_setMode _ (by rw [store]; decide) (by rw [store]; decide) told

@[simp] theorem State.endPackCheck_sst (s : State) : s.endPackCheck.sst = s.sst := State.setMode_sst _ _

/-! ## PACK_SAMPLE as a whole -/

/-- The state after a sample (R49). -/
def State.afterSample (s : State) (r : PackReading) : State := (s.sampled r).countSample.holdAutoPark

section After
variable (s : State) (r : PackReading)

/-- PKM after a sample: what steps 1 to 3 observe, the level as step 4 leaves it. -/
theorem State.afterSample_pkm : (s.afterSample r).pkm =
    { s.pkm.observe s.ws s.cau (samplePeriod s.mdc.mode) r with
      level := (s.afterSample r).pkm.level, recovery := (s.afterSample r).pkm.recovery
      lastCause := (s.afterSample r).pkm.lastCause } := by
  have whole : (s.afterSample r).pkm = (s.sampled r).pkm :=
    (State.holdAutoPark_pkm _).trans (State.countSample_rest _).2
  rw [whole]
  exact State.settleLevel_pkm _ _

theorem State.afterSample_level : (s.afterSample r).pkm.level = (s.sampled r).pkm.level :=
  congrArg Pkm.level ((State.holdAutoPark_pkm _).trans (State.countSample_rest _).2)

end After

section Stage
variable {s : State} (r : PackReading)

/-- Outside PACK_CHECK a sample is steps 1 to 4: the stage's count stands, the mode is followed. -/
theorem State.afterSample_other (other : s.mdc.mode ≠ .packCheck) :
    (s.afterSample r).mdc.packCheckCount = s.mdc.packCheckCount ∧ s.modeFollowed (s.afterSample r) ∧
      s.changesOnly (s.afterSample r) [.output, .mode, .timers, .pkm, .cau, .drc, .wnc, .store] := by
  obtain ⟨p, level, stands⟩ | ⟨level, mdc, -, -, -, -, -, followed, frame⟩ := s.sampled_cases r
  · have whole : s.afterSample r = (s.setPkm p).holdAutoPark := by
      unfold State.afterSample
      rw [stands, State.countSample_other (by exact other)]
    rw [whole]
    exact ⟨State.holdAutoPark_mdc_packCheckCount _,
      State.modeFollowed_held (State.modeFollowed_from (b := s.setPkm p) rfl rfl rfl rfl (State.modeFollowed_refl _)),
      State.changesOnly_parked (State.changesOnly_mono (s.setPkm_changes p) (by simp)) (by simp)⟩
  · have uncounted : (s.sampled r).mdc.mode ≠ .packCheck := by
      rw [← State.holdAutoPark_mdc_mode, mdc]
      dsimp only
      split_ifs
      · decide
      · decide
      · exact other
    have whole : s.afterSample r = (s.sampled r).holdAutoPark := by
      unfold State.afterSample
      rw [State.countSample_other uncounted]
    rw [whole]
    exact ⟨by rw [mdc], followed, frame⟩

/-- In PACK_CHECK the sample is counted, and the stage ends where the count reaches its figure. -/
theorem State.afterSample_stage (stage : s.mdc.mode = .packCheck) :
    s.afterSample r = if s.ws.nat Item.confirmSamples ≤ s.mdc.packCheckCount + 1 then
      (s.sampled r).counted.endPackCheck.holdAutoPark else (s.sampled r).counted.holdAutoPark := by
  have sampled := State.sampled_stage stage r
  unfold State.afterSample
  rw [State.countSample_eq, sampled.mode, sampled.count, sampled.ws]
  simp only [stage, true_and]
  split <;> rfl

/-- The counted state in PACK_CHECK has its count one higher. -/
theorem State.counted_count (stage : s.mdc.mode = .packCheck) :
    s.counted.mdc.packCheckCount = s.mdc.packCheckCount + 1 := by rw [State.counted, if_pos stage, State.setMdc_mdc]

/-- The end of the stage at a sample (R32, R33, R69, R181): the mode by the level, the start sequence ended at SHUTDOWN, the
Settings Store as the level has it. -/
theorem State.afterSample_stageEnds (ends : s.stageEnds) :
    let t := s.afterSample r
    t.mdc.mode = (if t.pkm.level = .cutoff then .shutdown else .centering) ∧
      t.mdc.packCheckCount = s.mdc.packCheckCount + 1 ∧
      (t.pkm.level = s.pkm.level → t.sst = s.sst) ∧ (t.pkm.level ≠ s.pkm.level → s.storeFollowsLevel t) ∧
      (t.pkm.level ≠ .cutoff → s.mdc.startDone = false → t.cau = s.cau) ∧
      (t.pkm.level = .cutoff → t.mdc.startDone = true ∧
        (s.mdc.startDone = false → t.cau.budgetLevel = .cutoff ∧ t.cau.budget = 0) ∧
        ∀ tag, s.mdc.startDone = false → s.mdc.deferredHello = some tag →
          t.mdc.deferredHello = none ∧ replyFrame 0x01 tag .ok t.helloBody ∈ t.link.outgoing) ∧
      s.modeFollowed t ∧ s.changesOnly t [.output, .mode, .timers, .pkm, .cau, .drc, .wnc, .store] := by
  obtain ⟨stage, due⟩ := ends
  have sampled := State.sampled_stage stage r
  have level := s.afterSample_level r
  have whole := (State.afterSample_stage r stage).trans (if_pos due)
  generalize s.afterSample r = t at *
  generalize s.sampled r = u at *
  obtain ⟨mode, done, hello, pkm, cau, drc, wnc, sst⟩ := u.counted_rest
  have count : u.counted.mdc.packCheckCount = s.mdc.packCheckCount + 1 := by
    rw [State.counted_count (sampled.mode.trans stage), sampled.count]
  obtain ⟨entered, kept, cut, fit, followed, frame⟩ := State.endPackCheck_spec (mode.trans (sampled.mode.trans stage))
  have held : t.sst = u.sst := by rw [whole, State.holdAutoPark_sst, State.endPackCheck_sst, sst]
  have told : ∀ n : Notice, n.kind = .store → u.noticed n → t.noticed n := by
    intro n store before
    have counted : u.counted.noticed n := State.noticed_of_link (by unfold State.counted; split <;> rfl) before
    rw [whole]
    exact State.noticed_of_link (State.holdAutoPark_link _) (State.noticed_endPackCheck store counted)
  rw [← whole] at entered kept cut fit followed frame
  rw [pkm, ← level] at entered cut fit
  rw [done, hello, sampled.done, sampled.hello] at cut
  dsimp only
  refine ⟨entered, kept.trans count, fun same => ?_, fun moved => ?_, fun low early => ?_, cut, ?_, ?_⟩
  · rw [held, sampled.store (level ▸ same)]
  · exact State.storeFollowsLevel_to held level told (sampled.follows (level ▸ moved))
  · rw [fit low, cau, sampled.cau early]
  · exact State.modeFollowed_from (mode.trans sampled.mode) (drc.trans sampled.drc) (wnc.trans sampled.wnc)
      ((congrArg Sst.working sst).trans sampled.ws) followed
  · exact State.changesOnly_trans sampled.frame (State.changesOnly_trans
      (State.changesOnly_mono u.counted_changes (by simp)) (State.changesOnly_mono frame (by simp)))

/-- A sample in PACK_CHECK that does not end it is counted (R32). -/
theorem State.afterSample_stageGoesOn (stage : s.mdc.mode = .packCheck)
    (goesOn : ¬s.ws.nat Item.confirmSamples ≤ s.mdc.packCheckCount + 1) :
    let t := s.afterSample r
    t.mdc.mode = .packCheck ∧ t.mdc.packCheckCount = s.mdc.packCheckCount + 1 ∧ s.modeFollowed t ∧
      s.changesOnly t [.output, .mode, .timers, .pkm, .cau, .drc, .wnc, .store] := by
  have sampled := State.sampled_stage stage r
  have whole := (State.afterSample_stage r stage).trans (if_neg goesOn)
  generalize s.afterSample r = t at *
  generalize s.sampled r = u at *
  obtain ⟨mode, -, -, -, -, drc, wnc, sst⟩ := u.counted_rest
  have count : u.counted.mdc.packCheckCount = s.mdc.packCheckCount + 1 := by
    rw [State.counted_count (sampled.mode.trans stage), sampled.count]
  rw [whole]
  refine ⟨?_, ?_, ?_, ?_⟩
  · rw [State.holdAutoPark_mdc_mode, mode, sampled.mode, stage]
  · rw [State.holdAutoPark_mdc_packCheckCount, count]
  · exact State.modeFollowed_held (State.modeFollowed_from (mode.trans sampled.mode) (drc.trans sampled.drc)
      (wnc.trans sampled.wnc) ((congrArg Sst.working sst).trans sampled.ws) (State.modeFollowed_refl _))
  · exact State.changesOnly_parked (State.changesOnly_trans sampled.frame
      (State.changesOnly_mono u.counted_changes (by simp))) (by simp)

/-- Where the stage does not end and the level stands, PKM changes and the sample is counted: no more (R32, R41). -/
theorem State.afterSample_quiet (goesOn : ¬s.stageEnds) (level : (s.afterSample r).pkm.level = s.pkm.level) :
    (s.afterSample r).mdc = { s.counted.mdc with autoParkMs := if s.autoParkRuns then s.mdc.autoParkMs else 0 } ∧
      s.counted.changesOnly (s.afterSample r) [.pkm] := by
  rw [State.afterSample_level] at level
  obtain ⟨p, -, stands⟩ | ⟨moved, -⟩ := s.sampled_cases r
  · have whole : s.afterSample r = (s.counted.setPkm p).holdAutoPark := by
      unfold State.afterSample
      rw [stands, State.countSample_eq, if_neg (by exact goesOn)]
      unfold State.counted
      rw [State.setPkm_mdc]
      split <;> rfl
    have timer : (if (s.counted.setPkm p).autoParkRuns then s.counted.mdc.autoParkMs else 0) =
        if s.autoParkRuns then s.mdc.autoParkMs else 0 := by
      by_cases stage : s.mdc.mode = .packCheck
      · have idle : ∀ u : State, u.mdc.mode = .packCheck → ¬u.autoParkRuns = true := fun u still runs => by
          rw [State.autoParkRuns_run runs] at still
          cases still
        rw [if_neg (idle s stage), if_neg (idle (s.counted.setPkm p) (s.counted_rest.1.trans stage))]
      · rw [State.counted, if_neg stage]
        rfl
    rw [whole]
    refine ⟨?_, State.changesOnly_held (s.counted.setPkm_changes p) rfl⟩
    rw [State.holdAutoPark_mdc, State.setPkm_mdc, timer]
  · exact absurd level moved

end Stage

/-- Settles O28, part by part: what PKM takes in, the stage, and what no sample touches. -/
theorem packSampleRecordsAndCountsEnergy : Obligations.PackSampleRecordsAndCountsEnergy := by
  intro s r powered
  cases samples : sampling s.mdc.mode with
  | false =>
    have early : s.mdc.mode = .start ∨ s.mdc.mode = .loading := by cases mode : s.mdc.mode <;> simp_all [sampling]
    have acts : exec (.packSample r) s = .next s.holdAutoPark := by
      have sample : exec (.packSample r) s = act s fun s =>
          if sampling s.mdc.mode then
            ((s.setPkm (s.pkm.observe s.ws s.cau (samplePeriod s.mdc.mode) r)).settleLevel (sampleOf s.ws r)).countSample
          else s := rfl
      rw [sample, act_powered powered, samples, if_neg Bool.false_ne_true]
    have elsewhere : s.mdc.mode ≠ .packCheck := by obtain e | e := early <;> rw [e] <;> decide
    refine ⟨_, acts, fun _ => State.changesOnly_held (s.changesOnly_refl _) rfl, fun start loading => ?_,
      fun stage => absurd stage elsewhere, fun _ => State.holdAutoPark_mdc_packCheckCount _, fun on => ?_,
      fun ends => absurd ends.1 elsewhere, State.modeFollowed_held s.modeFollowed_refl,
      State.changesOnly_parked (s.changesOnly_refl _) (by simp)⟩
    · exact absurd early (by simp [start, loading])
    · simp at on
  | true =>
    have awake : s.mdc.mode ≠ .start ∧ s.mdc.mode ≠ .loading := by
      constructor <;> intro e <;> rw [e] at samples <;> cases samples
    have acts : exec (.packSample r) s = .next (s.afterSample r) := exec_packSample powered samples r
    have pkm := s.afterSample_pkm r
    have quiet := State.afterSample_quiet (s := s) r
    have ends := State.afterSample_stageEnds (s := s) r
    have goesOn := State.afterSample_stageGoesOn (s := s) r
    have other := State.afterSample_other (s := s) r
    generalize s.afterSample r = t at *
    have follows : s.modeFollowed t ∧ s.changesOnly t [.output, .mode, .timers, .pkm, .cau, .drc, .wnc, .store] := by
      by_cases stage : s.mdc.mode = .packCheck
      · by_cases due : s.ws.nat Item.confirmSamples ≤ s.mdc.packCheckCount + 1
        · obtain ⟨-, -, -, -, -, -, followed⟩ := ends ⟨stage, due⟩
          exact followed
        · obtain ⟨-, -, followed⟩ := goesOn stage due
          exact followed
      · exact (other stage).2
    refine ⟨t, acts, fun early => absurd early (by simp [awake]), fun _ _ => ⟨?record, ?energy, ?exempt, ?conditions⟩,
      fun stage => ?stage, fun elsewhere => (other elsewhere).1, fun _ => quiet, fun due => ?ends, follows⟩
    case record => rw [pkm]; exact s.pkm.observe_sample s.ws s.cau (samplePeriod s.mdc.mode) r
    case energy =>
      intro after before
      rw [pkm] at after ⊢
      obtain ⟨used, residue⟩ := s.pkm.observe_energy s.ws s.cau (samplePeriod s.mdc.mode) r
      dsimp only at after ⊢
      rw [used] at after
      rw [used, residue]
      exact Pkm.addCharge_total before after
    case exempt => rw [pkm]; rfl
    case conditions =>
      intro k
      obtain ⟨count, mark⟩ := s.pkm.observe_condition s.ws s.cau (samplePeriod s.mdc.mode) r k
      rw [pkm]
      exact nextCount_cases _ _ _ _ _ _ _ _ count _ mark
    case stage =>
      by_cases due : s.ws.nat Item.confirmSamples ≤ s.mdc.packCheckCount + 1
      · obtain ⟨mode, count, -⟩ := ends ⟨stage, due⟩
        exact ⟨count, mode.trans (if_neg (by omega)).symm⟩
      · obtain ⟨mode, count, -⟩ := goesOn stage due
        exact ⟨count, mode.trans (if_pos (by omega)).symm⟩
    case ends =>
      obtain ⟨-, -, store, follows, cau, cut, -⟩ := ends due
      exact ⟨store, follows, cau, cut⟩

end Sys2Proof.Machine
end

section
/-! PROOF. CLEAR_CUTOFF (R61, R47, R64): the judgement of the cells, the level that falls to LIMIT, and the end of
SHUTDOWN. -/
namespace Sys2Proof.Machine

/-! ## A change of the level that is no rise to CUTOFF (R63, R64) -/

/-- The Settings Store stands at any level but CUTOFF (R181). -/
theorem State.levelEntered_changes_store {new : Level} (other : new ≠ .cutoff) (s : State) (cause : LevelCause) :
    s.changesOnly (s.levelEntered new cause) [.output, .pkm, .cau] :=
  State.changesOnly_of_stands (s.levelEntered_changes new cause) fun p _ outside => by
    have stands : (s.levelEntered new cause).sst = s.sst := by
      rw [State.levelEntered_sst, if_neg fun cuts => other cuts.1]
    cases p
    case store => unfold State.sameIn; rw [stands]
    all_goals simp_all

/-- A change of the level raises its PACK notice (R64). -/
theorem State.levelEntered_told {new : Level} (other : new ≠ .cutoff) {s : State} {cause : LevelCause}
    (inMask : s.ws.notices .pack = true) :
    (s.levelEntered new cause).noticed (.pack ⟨s.pkm.level, new, cause, s.pkm.usedMah⟩) := by
  unfold State.levelEntered
  dsimp only
  rw [if_neg other]
  refine State.noticed_of_link (State.recomputeCau_link _) ?_
  exact State.raise_noticed (s.setPkm _) (n := .pack ⟨s.pkm.level, new, cause, s.pkm.usedMah⟩) inMask

/-- In SHUTDOWN MDC does nothing at a change of the level (R44, R47). -/
theorem State.setLevel_shutdown {s : State} (down : s.mdc.mode = .shutdown) (new : Level) (cause : LevelCause) :
    s.setLevel new cause = s.levelEntered new cause := by
  have mode : (s.levelEntered new cause).mdc.mode = .shutdown := by
    obtain ⟨-, -, -, -, mdc, -⟩ := s.levelEntered_rest new cause
    rw [mdc, down]
  rw [State.setLevel_eq, State.modeOnLevel_eq]
  generalize s.levelEntered new cause = e at *
  have stays : e.levelMode new = .shutdown := by
    unfold State.levelMode
    rw [mode]
    simp [cutoffEnds]
  have record : e.levelRecord new = e.mdc := by
    unfold State.levelRecord Mdc.recordCause
    rw [mode]
    simp
  rw [stays, record]
  exact State.setMode_of_eq mode

/-! ## The judgement (R61) -/

/-- The reading of a sample's cells, by any cell below or above a figure. -/
theorem Sample.anyBelow_iff (r : Sample) (mv : Int) : r.anyBelow mv = true ↔ ∃ c ∈ r.cells, c < mv := by
  simp [Sample.anyBelow]

theorem Sample.anyAbove_iff (r : Sample) (mv : Int) : r.anyAbove mv = true ↔ ∃ c ∈ r.cells, mv < c := by
  simp [Sample.anyAbove]

/-- CLEAR_CUTOFF once there is a record: by the level, then by its cells. -/
theorem State.serveClearCutoff_eq {s : State} {r : Sample} (sample : s.pkm.sample = some r) (q : RawRequest) :
    s.serveClearCutoff q =
      if s.pkm.level ≠ .cutoff then s.refuse q .badState
      else if r.anyBelow (s.ws.int Item.cellLimitMv + 50) then s.refuseWith q .lowSupply 1
      else if r.anyAbove (s.ws.int Item.cellOverMv) then s.refuseWith q .lowSupply 2
      else if ((s.setLevel .limit .cleared).ok q []).mdc.mode = .shutdown then
        ((s.setLevel .limit .cleared).ok q []).setMode .centering
      else (s.setLevel .limit .cleared).ok q [] := by
  unfold State.serveClearCutoff
  rw [sample]
  rfl

/-! ## CUTOFF is cleared in SHUTDOWN (R47, R61) -/

/-- The state in which a cleared part leaves SHUTDOWN: the level is LIMIT, the reply is on its way. -/
def State.cleared (s : State) (q : RawRequest) : State := (s.levelEntered .limit .cleared).ok q []

section Cleared
variable (s : State) (q : RawRequest)

theorem State.cleared_rest : (s.cleared q).mdc = s.mdc ∧
    (s.cleared q).pkm = { s.pkm with level := .limit, recovery := 0, lastCause := some .cleared } ∧
    (s.cleared q).drc = s.drc ∧ (s.cleared q).wnc = s.wnc ∧ (s.cleared q).ws = s.ws ∧
    (s.cleared q).cau = (s.levelEntered .limit .cleared).cau := by
  obtain ⟨-, -, -, -, mdc, pkm, -, -, -, drc, wnc, -, ws⟩ := s.levelEntered_rest .limit .cleared
  exact ⟨mdc, pkm, drc, wnc, ws, rfl⟩

theorem State.cleared_changes : s.changesOnly (s.cleared q) [.output, .pkm, .cau] :=
  State.changesOnly_trans (State.levelEntered_changes_store (by decide) s .cleared)
    (State.changesOnly_mono (State.answer_changes _ _ _) (by simp))

/-- The reply of a cleared part is on its way, and the transmitter is sending. -/
theorem State.cleared_sent : replyFrame q.kind q.tag .ok [] ∈ (s.cleared q).link.outgoing ∧
    ∃ f, (s.cleared q).link.tx = some f := by
  refine ⟨?_, Link.answer_busy _ _⟩
  have sent := State.ok_sent (s.levelEntered .limit .cleared) q []
  unfold State.sent at sent
  rw [State.cleared, sent]
  exact List.mem_append_right _ (List.mem_singleton.mpr rfl)

theorem State.cleared_told (inMask : s.ws.notices .pack = true) :
    (s.cleared q).noticed (.pack ⟨s.pkm.level, .limit, .cleared, s.pkm.usedMah⟩) :=
  State.noticed_answer q _ (State.levelEntered_told (by decide) inMask)

end Cleared

/-- Settles O26, by the level and the cells. -/
theorem clearCutoffJudgesTheCells : Obligations.ClearCutoffJudgesTheCells := by
  intro s tag r serving sample
  let q : RawRequest := ⟨0x11, tag, []⟩
  have owner : s.admitted.owner q .clearCutoff =
      if s.pkm.level ≠ .cutoff then s.admitted.refuse q .badState
      else if r.anyBelow (s.ws.int Item.cellLimitMv + 50) then s.admitted.refuseWith q .lowSupply 1
      else if r.anyAbove (s.ws.int Item.cellOverMv) then s.admitted.refuseWith q .lowSupply 2
      else if ((s.admitted.setLevel .limit .cleared).ok q []).mdc.mode = .shutdown then
        ((s.admitted.setLevel .limit .cleared).ok q []).setMode .centering
      else (s.admitted.setLevel .limit .cleared).ok q [] := State.serveClearCutoff_eq (s := s.admitted) sample q
  have acts := exec_serving serving (i := .clearCutoff tag) (q := q) (r := .clearCutoff) rfl rfl rfl rfl
  refine ⟨fun other => ?_, fun cut low => ?_, fun cut notLow high => ?_, fun cut down fit => ?_⟩
  · rw [if_pos other] at owner
    rw [owner] at acts
    exact ⟨_, acts, s.admitted_refuse q .badState⟩
  · rw [if_neg (not_not.mpr cut), if_pos ((r.anyBelow_iff _).mpr low)] at owner
    exact exec_refuses serving (i := .clearCutoff tag) (q := q) rfl rfl rfl owner
  · have low : ¬r.anyBelow (s.ws.int Item.cellLimitMv + 50) = true := by
      rw [Sample.anyBelow_iff]
      rintro ⟨c, inside, below⟩
      exact absurd (notLow c inside) (by omega)
    rw [if_neg (not_not.mpr cut), if_neg low, if_pos ((r.anyAbove_iff _).mpr high)] at owner
    exact exec_refuses serving (i := .clearCutoff tag) (q := q) rfl rfl rfl owner
  · have low : ¬r.anyBelow (s.ws.int Item.cellLimitMv + 50) = true := by
      rw [Sample.anyBelow_iff]
      rintro ⟨c, inside, below⟩
      exact absurd (fit c inside).1 (by omega)
    have high : ¬r.anyAbove (s.ws.int Item.cellOverMv) = true := by
      rw [Sample.anyAbove_iff]
      rintro ⟨c, inside, above⟩
      exact absurd (fit c inside).2 (by omega)
    obtain ⟨mdc, pkm, drc, wnc, ws, cau⟩ := s.admitted.cleared_rest q
    have level : (s.admitted.setLevel .limit .cleared).ok q [] = s.admitted.cleared q := by
      rw [State.setLevel_shutdown (s := s.admitted) down]
      rfl
    rw [if_neg (not_not.mpr cut), if_neg low, if_neg high, level, if_pos (by rw [mdc]; exact down)] at owner
    rw [owner] at acts
    have frame := s.admitted.cleared_changes q
    obtain ⟨sent, busy⟩ := s.admitted.cleared_sent q
    have told := s.admitted.cleared_told q
    have recomputed := s.admitted.levelEntered_cau .limit .cleared
    generalize s.admitted.cleared q = v at *
    have moved : v.mdc.mode ≠ .centering := by rw [mdc]; change s.mdc.mode ≠ _; rw [down]; decide
    have run : v.mdc.mode ≠ .run := by rw [mdc]; change s.mdc.mode ≠ _; rw [down]; decide
    have goesOn := v.startEnds_other (m := .centering) (by decide) (by decide)
    have t_pkm : (v.setMode .centering).holdAutoPark.pkm = v.pkm := by rw [State.holdAutoPark_pkm, State.setMode_pkm]
    have t_cau : (v.setMode .centering).holdAutoPark.cau = v.cau := by
      rw [State.holdAutoPark_cau, State.setMode_cau_stands goesOn]
    have t_ws : (v.setMode .centering).holdAutoPark.ws = s.ws := by
      rw [State.ws, State.holdAutoPark_sst, State.setMode_sst]
      exact ws
    have recomputes : (s.setPkm v.pkm).recomputes (v.setMode .centering).holdAutoPark := by
      obtain ⟨-, -, -, -, -, entered, -, -, -, -, -, -, settings⟩ := s.admitted.levelEntered_rest .limit .cleared
      unfold State.recomputes State.grantRule at recomputed ⊢
      rw [t_cau, t_ws, cau, pkm]
      rw [settings, entered] at recomputed
      exact recomputed
    refine ⟨_, acts, t_pkm.trans pkm, by rw [State.holdAutoPark_mdc_mode, State.setMode_mode], ?_, ?_,
      fun inMask => ?_, t_pkm ▸ recomputes, ?_, ?_⟩
    · rw [State.holdAutoPark_link, State.setMode_entered moved (by decide) (by decide),
        State.modeEntered_outgoing_busy busy]
      exact sent
    · have budget := (recomputes.2 serving.started).1
      rw [budget, State.setPkm_pkm, pkm]
    · have told : v.noticed (.pack ⟨.cutoff, .limit, .cleared, s.pkm.usedMah⟩) := cut ▸ told inMask
      exact State.noticed_of_link (State.holdAutoPark_link _)
        (State.noticed_setMode _ (by simp [Notice.kind]) (by simp [Notice.kind]) told)
    · exact State.modeFollowed_held (State.modeFollowed_from (congrArg Mdc.mode mdc) drc wnc ws (v.setMode_followed _))
    · exact State.changesOnly_parked (State.changesOnly_trans (State.changesOnly_mono s.admitted_changes (by simp)) <|
        State.changesOnly_trans (State.changesOnly_mono frame (by simp))
          (State.changesOnly_mono (State.setMode_changes_within run goesOn) (by simp))) (by simp)

end Sys2Proof.Machine
end

section
/-! PROOF. Waking (R42 to R45, R47): a cause in PARK and in the CENTERING after a wake, an accepted frame there, and a
change of the level there. -/
namespace Sys2Proof.Machine

/-! ## A wake cause (R44) -/

/-- The other blocks follow the mode that a wake cause brings about. -/
theorem State.wake_followed (s : State) (c : WakeCause) : s.modeFollowed (s.wake c) := by
  rw [State.wake_eq]
  exact State.modeFollowed_from (b := s.setMdc (s.wokenRecord c)) (s.wokenRecord_rest c).1 rfl rfl rfl
    (State.setMode_followed _ _)

/-- A wake cause changes MDC, the winch and the way out. -/
theorem State.wake_changes (s : State) (c : WakeCause) : s.changesOnly (s.wake c) [.output, .mode, .timers, .wnc] := by
  obtain ⟨mode, -, -⟩ := s.wokenRecord_rest c
  rw [State.wake_eq]
  have recorded : s.changesOnly (s.setMdc (s.wokenRecord c)) [.output, .mode, .timers, .wnc] :=
    State.changesOnly_mono (s.setMdc_changes _) (by simp)
  refine State.changesOnly_trans recorded ?_
  unfold State.wokenMode
  split
  · rename_i wakes
    refine State.setMode_changes_within ?_ (State.startEnds_other _ (by decide) (by decide))
    rw [State.setMdc_mdc, mode, wakes.1]
    decide
  · rw [State.setMode_of_eq (by exact mode)]
    exact State.changesOnly_refl _ _

/-- An honoured cause in PARK is the first cause, and CENTERING is entered; one that is not honoured does nothing. -/
theorem State.wake_parked {s : State} (parked : s.mdc.mode = .park) (c : WakeCause) :
    (s.wake c).mdc = if s.ws.honours c then { s.mdc with
      mode := .centering, stageMs := 0, silenceMs := 0, autoParkMs := 0, parkTimer := none
      wakeSet := s.mdc.wakeSet.add c, wakeFirst := some c, wakeCentering := true } else s.mdc := by
  unfold State.wake
  split
  · have record : s.mdc.recordCause c = { s.mdc with wakeSet := s.mdc.wakeSet.add c, wakeFirst := some c } :=
      if_pos parked
    have moved : (s.setMdc { s.mdc.recordCause c with wakeCentering := true }).mdc.mode ≠ .centering := by
      rw [State.setMdc_mdc, record]
      dsimp only
      rw [parked]
      decide
    dsimp only
    rw [State.setMode_mdc, if_neg moved, State.startEnds_other _ (by decide) (by decide), if_neg Bool.false_ne_true,
      State.setMdc_mdc, record]
    rfl
  · rfl

/-- A cause that is not honoured does nothing. -/
theorem State.wake_unheard {s : State} {c : WakeCause} (unheard : ¬s.ws.honours c = true) : s.wake c = s := if_neg unheard

/-- After an honoured cause in PARK the winch is still (R157). -/
theorem State.wake_still {s : State} (parked : s.mdc.mode = .park) {c : WakeCause} (heard : s.ws.honours c = true) :
    (s.wake c).wnc.state.moves = false := by
  have moved : (s.setMdc (s.wokenRecord c)).mdc.mode ≠ .centering := by
    rw [State.setMdc_mdc, (s.wokenRecord_rest c).1, parked]
    decide
  rw [State.wake_eq, State.wokenMode, if_pos ⟨parked, heard⟩, State.setMode_entered moved (by decide) (by decide)]
  exact State.winchModeChange_still _ (by decide)

/-- In the CENTERING after a wake an honoured cause joins the set, beside the first cause. -/
theorem State.wake_centering {s : State} (centering : s.mdc.mode = .centering) (after : s.mdc.wakeCentering = true)
    (c : WakeCause) :
    s.wake c = s.setMdc (if s.ws.honours c then { s.mdc with wakeSet := s.mdc.wakeSet.add c } else s.mdc) := by
  have record : s.mdc.recordCause c = { s.mdc with wakeSet := s.mdc.wakeSet.add c } := by
    unfold Mdc.recordCause
    rw [if_neg (by rw [centering]; decide), if_pos ⟨centering, after⟩]
  have awake : s.mdc.mode ≠ .park := by rw [centering]; decide
  unfold State.wake
  dsimp only
  rw [if_neg awake, record]
  split <;> rfl

/-! ## WAKE (R45) -/

/-- WAKE where it is taken: its reply is sent, then the cause acts. -/
theorem exec_wake {s : State} (serving : s.Serving) (tag : Byte)
    (taken : s.mdc.mode = .park ∨ s.mdc.mode = .centering ∧ s.mdc.wakeCentering = true) :
    exec (.wake tag) s = .next ((s.admitted.ok ⟨0x06, tag, []⟩ []).wake .request).holdAutoPark := by
  have acts := exec_serving serving (i := .wake tag) (q := ⟨0x06, tag, []⟩) (r := .wake) rfl rfl rfl rfl
  have owner : s.admitted.owner ⟨0x06, tag, []⟩ .wake =
      if s.mdc.mode = .park ∨ (s.mdc.mode = .centering ∧ s.mdc.wakeCentering) then
        (s.admitted.ok ⟨0x06, tag, []⟩ []).wake .request
      else s.admitted.refuseWith ⟨0x06, tag, []⟩ .badState 3 := rfl
  rwa [owner, if_pos taken] at acts

/-- WAKE's reply and its place among the frames changed. -/
theorem State.admitted_answered (s : State) (q : RawRequest) :
    s.sent (s.admitted.ok q []) (replyFrame q.kind q.tag .ok []) ∧
      (∃ f, (s.admitted.ok q []).link.tx = some f) ∧ s.changesOnly (s.admitted.ok q []) [.queue, .output] :=
  ⟨State.ok_sent s.admitted q [], Link.answer_busy _ _,
    State.changesOnly_trans (State.changesOnly_mono s.admitted_changes (by simp))
      (State.changesOnly_mono (State.answer_changes _ _ _) (by simp))⟩

/-- While a frame is being sent a wake cause puts nothing on the way. -/
theorem State.wake_outgoing_busy {s : State} (busy : ∃ f, s.link.tx = some f) (c : WakeCause) :
    (s.wake c).link.outgoing = s.link.outgoing := by
  rw [State.wake_eq]
  by_cases stays : (s.setMdc (s.wokenRecord c)).mdc.mode = s.wokenMode c
  · rw [State.setMode_of_eq stays]
    rfl
  · have entered : s.wokenMode c = .centering := by
      unfold State.wokenMode at stays ⊢
      split
      · rfl
      · rename_i asleep
        rw [if_neg asleep] at stays
        exact absurd (s.wokenRecord_rest c).1 stays
    rw [entered] at stays ⊢
    rw [State.setMode_entered stays (by decide) (by decide)]
    exact State.modeEntered_outgoing_busy (s := s.setMdc (s.wokenRecord c)) busy _

/-! ## An accepted frame (R17, R25, R44, R156) -/

/-- MDC's view of an accepted frame: its axes, and the second judgement. -/
def State.frameJudged (s : State) (v : ControlValues) : State := (s.setIntent (s.intent.take v)).judged

/-- In PARK and in CENTERING a frame with an axis off neutral is the cause STICK. -/
theorem State.frameReported_stick {s : State} (asleep : s.mdc.mode = .park ∨ s.mdc.mode = .centering)
    (v : ControlValues) :
    s.frameReported v = if anyNonNeutral s.ws v.axes then (s.frameJudged v).wake .stick else s.frameJudged v := by
  unfold State.frameReported
  rw [State.report_judged, State.setIntent_mdc]
  obtain mode | mode := asleep <;> rw [mode] <;> rfl

theorem State.frameJudged_changes (s : State) (v : ControlValues) :
    s.changesOnly (s.frameJudged v) [.intent, .timers] :=
  State.changesOnly_trans (State.changesOnly_mono (s.setIntent_changes _) (by simp)) (State.setMdc_timers rfl (by simp))

/-- LMP's take of a code leaves MDC, the link, the axles, the winch and the settings. -/
theorem State.takeLightCode_leaves (s : State) : s.takeLightCode.mdc = s.mdc ∧ s.takeLightCode.link = s.link ∧
    s.takeLightCode.drc = s.drc ∧ s.takeLightCode.wnc = s.wnc ∧ s.takeLightCode.ws = s.ws ∧
    s.changesOnly s.takeLightCode [.intent, .lmp] := by
  unfold State.takeLightCode
  split
  · exact ⟨rfl, rfl, rfl, rfl, rfl, s.changesOnly_refl _⟩
  · exact ⟨rfl, rfl, rfl, rfl, rfl, State.changesOnly_trans (State.changesOnly_mono (s.setIntent_changes _) (by simp))
      (State.changesOnly_mono (State.setLmp_changes _ _) (by simp))⟩

/-- An accepted frame is its report, the throttle's cancel at the winch, and LMP's takes. -/
theorem State.acceptFrame_parts (s : State) (v : ControlValues) :
    let u := s.frameReported v
    (s.acceptFrame v).mdc = u.mdc ∧ (s.acceptFrame v).link = u.link ∧ (s.acceptFrame v).drc = u.drc ∧
      (s.acceptFrame v).ws = u.ws ∧ (s.acceptFrame v).wnc = u.cancelAssist.wnc ∧
      u.changesOnly (s.acceptFrame v) [.intent, .wnc, .lmp] := by
  have whole : s.acceptFrame v = (s.frameReported v).cancelAssist.takeLightCode.takeLightCode := rfl
  dsimp only
  rw [whole]
  generalize s.frameReported v = u
  obtain ⟨link, mdc⟩ := u.cancelAssist_link
  have rest : u.cancelAssist.drc = u.drc ∧ u.cancelAssist.ws = u.ws := by
    unfold State.cancelAssist
    split <;> exact ⟨rfl, rfl⟩
  have frame := u.cancelAssist_changes
  generalize u.cancelAssist = w at *
  obtain ⟨mdc1, link1, drc1, wnc1, ws1, frame1⟩ := w.takeLightCode_leaves
  obtain ⟨mdc2, link2, drc2, wnc2, ws2, frame2⟩ := w.takeLightCode.takeLightCode_leaves
  exact ⟨mdc2.trans (mdc1.trans mdc), link2.trans (link1.trans link), drc2.trans (drc1.trans rest.1),
    ws2.trans (ws1.trans rest.2), wnc2.trans wnc1,
    State.changesOnly_trans (State.changesOnly_mono frame (by simp)) (State.changesOnly_trans
      (State.changesOnly_mono frame1 (by simp)) (State.changesOnly_mono frame2 (by simp)))⟩

/-- An accepted frame's report and what follows it, as one step. -/
theorem exec_controlFrame {s : State} {f : ControlFrame} {v : ControlValues} (powered : s.powered = true)
    (resetting : s.link.resetting = false) (started : s.mdc.startDone = true) (values : controlValues f = some v) :
    exec (.controlFrame f) s = .next (s.acceptFrame v).holdAutoPark := by
  have runs : exec (.controlFrame f) s = .next (s.takeControl f).holdAutoPark :=
    act_powered powered fun u => u.takeControl f
  rw [runs, State.takeControl_eq resetting, values]
  simp only [started, if_true]

/-- A frame in PARK that wakes: CENTERING with the cause STICK, and the winch follows the mode (R44, R157). -/
theorem State.acceptFrame_wakes {s : State} {v : ControlValues} (parked : s.mdc.mode = .park)
    (off : anyNonNeutral s.ws v.axes = true) (heard : s.ws.honours .stick = true) :
    let t := (s.acceptFrame v).holdAutoPark
    t.mdc.mode = .centering ∧ t.mdc.wakeSet = { s.mdc.wakeSet with stick := true } ∧ t.mdc.wakeFirst = some .stick ∧
      s.modeFollowed t ∧ s.changesOnly t [.output, .intent, .mode, .timers, .wnc, .lmp] := by
  have reported : s.frameReported v = (s.frameJudged v).wake .stick := by
    rw [State.frameReported_stick (.inl parked), if_pos off]
  obtain ⟨mdc, link, drc, ws, wnc, frame⟩ := s.acceptFrame_parts v
  have woken := (State.wake_parked (s := s.frameJudged v) parked .stick).trans (if_pos heard)
  have followed : s.modeFollowed ((s.frameJudged v).wake .stick) :=
    State.modeFollowed_from (b := s.frameJudged v) rfl rfl rfl rfl (State.wake_followed _ _)
  have still := State.wake_still (s := s.frameJudged v) parked heard
  have wakes : s.changesOnly ((s.frameJudged v).wake .stick) [.output, .intent, .mode, .timers, .wnc, .lmp] :=
    State.changesOnly_trans (State.changesOnly_mono (s.frameJudged_changes v) (by simp))
      (State.changesOnly_mono (State.wake_changes _ _) (by simp))
  rw [reported] at mdc link drc ws wnc frame
  have uncancelled : (s.acceptFrame v).wnc = ((s.frameJudged v).wake .stick).wnc := by
    rw [wnc, State.cancelAssist_wnc, if_neg fun ends => by rw [ends.1] at still; cases still]
  dsimp only
  rw [State.holdAutoPark_mdc_mode, State.holdAutoPark_mdc_wakeSet, State.holdAutoPark_mdc_wakeFirst, mdc, woken]
  refine ⟨rfl, rfl, rfl, State.modeFollowed_held ?_,
    State.changesOnly_parked (State.changesOnly_trans wakes (State.changesOnly_mono frame (by simp))) (by simp)⟩
  exact State.modeFollowed_to (by rw [mdc]) (by rw [mdc]) (by rw [mdc]) drc uncancelled ws
    (fun _ told => State.noticed_of_link link told) followed

/-- A frame in PARK that does not wake: MDC's mode and record stand, the throttle ends an assist (R156). -/
theorem State.acceptFrame_sleeps {s : State} {v : ControlValues} (parked : s.mdc.mode = .park)
    (asleep : ¬(anyNonNeutral s.ws v.axes = true ∧ s.ws.honours .stick = true)) :
    let t := (s.acceptFrame v).holdAutoPark
    t.mdc.mode = .park ∧ t.mdc.wakeSet = s.mdc.wakeSet ∧ t.mdc.wakeFirst = s.mdc.wakeFirst ∧
      t.wnc = (if s.wnc.state = .assist ∧ s.ws.nat Item.axisDeadband < v.axes.throttle.natAbs then
        s.wnc.endByLoad s.ws true else s.wnc) ∧
      s.changesOnly t [.output, .intent, .mode, .timers, .wnc, .lmp] := by
  have reported : s.frameReported v = s.frameJudged v := by
    rw [State.frameReported_stick (.inl parked)]
    split
    · exact State.wake_unheard fun heard => asleep ⟨‹_›, heard⟩
    · rfl
  obtain ⟨mdc, -, -, -, wnc, frame⟩ := s.acceptFrame_parts v
  have cancelled : (s.frameJudged v).cancelAssist.wnc =
      if s.wnc.state = .assist ∧ ¬neutral s.ws v.axes.throttle = true then s.wnc.endByLoad s.ws true else s.wnc :=
    State.cancelAssist_wnc _
  rw [reported] at mdc wnc frame
  dsimp only
  rw [State.holdAutoPark_mdc_mode, State.holdAutoPark_mdc_wakeSet, State.holdAutoPark_mdc_wakeFirst, mdc,
    State.holdAutoPark_wnc, wnc, cancelled]
  refine ⟨parked, rfl, rfl, by simp [neutral], State.changesOnly_parked (State.changesOnly_trans
    (State.changesOnly_mono (s.frameJudged_changes v) (by simp)) (State.changesOnly_mono frame (by simp))) (by simp)⟩

/-- A frame in the CENTERING after a wake: STICK joins the set where it is honoured (R44). -/
theorem State.acceptFrame_centering {s : State} {v : ControlValues} (centering : s.mdc.mode = .centering)
    (after : s.mdc.wakeCentering = true) :
    let t := (s.acceptFrame v).holdAutoPark
    t.mdc.wakeSet = (if anyNonNeutral s.ws v.axes = true ∧ s.ws.honours .stick = true then
      { s.mdc.wakeSet with stick := true } else s.mdc.wakeSet) ∧
      t.mdc.wakeFirst = s.mdc.wakeFirst ∧ s.changesOnly t [.output, .intent, .timers, .wnc, .lmp] := by
  let set := if anyNonNeutral s.ws v.axes = true ∧ s.ws.honours .stick = true then
    { s.mdc.wakeSet with stick := true } else s.mdc.wakeSet
  have reported : s.frameReported v = (s.frameJudged v).setMdc { (s.frameJudged v).mdc with wakeSet := set } := by
    have heard := State.wake_centering (s := s.frameJudged v) centering after .stick
    rw [State.frameReported_stick (.inr centering), heard]
    by_cases off : anyNonNeutral s.ws v.axes = true
    · by_cases honours : s.ws.honours .stick = true
      · rw [if_pos off, if_pos (by exact honours), show set = _ from if_pos ⟨off, honours⟩]
        rfl
      · rw [if_pos off, if_neg (by exact honours), show set = _ from if_neg fun both => honours both.2]
        rfl
    · rw [if_neg off, show set = _ from if_neg fun both => off both.1]
      rfl
  obtain ⟨mdc, -, -, -, -, frame⟩ := s.acceptFrame_parts v
  rw [reported] at mdc frame
  dsimp only
  rw [State.holdAutoPark_mdc_wakeSet, State.holdAutoPark_mdc_wakeFirst, mdc]
  have judged : s.changesOnly (s.frameJudged v) [.output, .intent, .timers, .wnc, .lmp] :=
    State.changesOnly_mono (s.frameJudged_changes v) (by simp)
  have noted : (s.frameJudged v).changesOnly ((s.frameJudged v).setMdc { (s.frameJudged v).mdc with wakeSet := set })
      [.output, .intent, .timers, .wnc, .lmp] := State.setMdc_timers rfl (by simp)
  exact ⟨rfl, rfl, State.changesOnly_parked (State.changesOnly_trans judged
    (State.changesOnly_trans noted (State.changesOnly_mono frame (by simp)))) (by simp)⟩

/-! ## A change of the level (R44, R47, R57, R59) -/

/-- Axles and winch stand where the mode does (R157). -/
theorem State.modeFollowed_stays {s t : State} (h : s.modeFollowed t) (same : t.mdc.mode = s.mdc.mode) :
    t.drc = s.drc ∧ t.wnc = s.wnc := by
  obtain ⟨axles, ⟨winch, -⟩, -⟩ := h
  refine ⟨axles.trans (if_neg fun leaves => leaves.2 (same.trans leaves.1)), ?_⟩
  simpa [same] using winch

/-- In PARK and in the CENTERING after a wake a change of the level is the cause PACK, and CUTOFF ends in SHUTDOWN. -/
theorem State.followsLevel_asleep {s t : State} (h : s.followsLevel t)
    (asleep : s.mdc.mode = .park ∨ s.mdc.mode = .centering ∧ s.mdc.wakeCentering = true) :
    let honoured := (s.ws.nat Item.wakeMask).testBit 3 = true
    t.mdc.mode = (if t.pkm.level = .cutoff then .shutdown
      else if s.mdc.mode = .park ∧ honoured then .centering else s.mdc.mode) ∧
      t.mdc.wakeSet = (if honoured then { s.mdc.wakeSet with pack := true } else s.mdc.wakeSet) ∧
      t.mdc.wakeFirst = (if honoured ∧ s.mdc.mode = .park then some .pack else s.mdc.wakeFirst) ∧
      (t.pkm.level ≠ .cutoff → t.sst = s.sst) ∧ s.modeFollowed t ∧
      s.changesOnly t [.output, .mode, .timers, .pkm, .cau, .wnc, .store] := by
  obtain ⟨mdc, -, -, -, -, ⟨store, -⟩, followed, frame⟩ := h
  have run : s.mdc.mode ≠ .run := by obtain e | e := asleep <;> simp [e]
  have ended : s.mdc.mode = .centering ∨ s.mdc.mode = .park := by
    obtain e | e := asleep
    · exact .inr e
    · exact .inl e.1
  dsimp only
  rw [mdc]
  refine ⟨?_, ?_, rfl, fun other => store.trans (if_neg fun cuts => other cuts.1), followed,
    State.changesOnly_of_stands frame fun p _ outside => ?_⟩
  · dsimp only
    by_cases cut : t.pkm.level = .cutoff
    · rw [if_pos cut, if_pos ⟨cut, by obtain e | e := ended <;> simp [e]⟩]
    · rw [if_neg cut, if_neg fun ends => cut ends.1]
      simp only [ne_eq, cut, not_false_eq_true, true_and]
  · dsimp only
    simp only [asleep, and_true]
  · cases p
    case drc => exact followed.1.trans (if_neg fun leaves => run leaves.1)
    all_goals simp_all

/-- LEVEL_STEP_DOWN, one clear sample short of its count: the level falls one step (R59, log 6). -/
theorem exec_levelStepDown {s : State} (powered : s.powered = true) (between : s.pkm.level = .caution ∨ s.pkm.level = .limit)
    (due : 199 ≤ s.pkm.recovery) :
    ∃ t, exec .levelStepDown s = .next t ∧ t.pkm.level ≠ .cutoff ∧ s.followsLevel t := by
  have acts : exec .levelStepDown s = act s fun s =>
      if (s.pkm.level = .caution ∨ s.pkm.level = .limit) ∧ 200 ≤ s.pkm.recovery + 1 then s.stepDown else s := rfl
  rw [act_powered powered, if_pos ⟨between, by omega⟩] at acts
  refine ⟨_, acts, ?_, State.setLevel_followed _ _ _⟩
  rw [State.holdAutoPark_pkm, State.stepDown, State.setLevel_pkm]
  dsimp only
  obtain level | level := between <;> rw [level] <;> decide

/-- A set of one condition rises to that condition's level, by that condition (R57). -/
theorem highestLevel_single (k : Condition) :
    highestLevel (PerCond.ofFn fun j => decide (j = k)) = conditionLevel k ∧
      riseCause (PerCond.ofFn fun j => decide (j = k)) (conditionLevel k) = some k := by
  cases k <;> decide

/-- LEVEL_RISE of a condition, one sample short of its figure and no other confirmed: the level rises to the condition's
(R57, log 6). -/
theorem exec_levelRise {s : State} {k : Condition} (powered : s.powered = true) (samples : sampling s.mdc.mode = true)
    (counted : k ≠ .reserve) (free : s.cau.holder = none) (fit : s.pkm.level ≠ .cutoff)
    (none_confirmed : ∀ j, s.pkm.confirmed.get j = false) (due : confirmFigure s.ws k ≤ s.pkm.counts.get k + 1)
    (above : s.pkm.level.code < (conditionLevel k).code) :
    ∃ t, exec (.levelRise k) s = .next t ∧ t.pkm.level = conditionLevel k ∧ s.followsLevel t := by
  have acts : exec (.levelRise k) s = act s fun s =>
      if sampling s.mdc.mode then
        match s.pkm.reach s.ws s.cau.holder.isSome k with
        | some p => ((s.setPkm p).rise).getD s
        | none => s
      else s := rfl
  have reached : ∃ p, s.pkm.reach s.ws s.cau.holder.isSome k = some p ∧ p.level = s.pkm.level ∧
      p.confirmed = PerCond.ofFn fun j => decide (j = k) := by
    have tested : (!frozen s.cau.holder.isSome k && !untested s.pkm.level k &&
        decide (confirmFigure s.ws k ≤ s.pkm.counts.get k + 1)) = true := by
      simp [Bool.eq_false_iff, frozen_iff, untested_iff, free, fit, due]
    unfold Pkm.reach
    dsimp only
    rw [if_neg counted, if_pos tested]
    exact ⟨_, rfl, rfl, by simp only [none_confirmed, Bool.false_or]⟩
  obtain ⟨p, reaches, level, confirmed⟩ := reached
  obtain ⟨high, cause⟩ := highestLevel_single k
  have rises : (s.setPkm p).rise = some ((s.setPkm p).setLevel (conditionLevel k) (.condition k)) := by
    unfold State.rise
    rw [State.setPkm_pkm, confirmed, high]
    dsimp only
    rw [cause, level]
    exact if_pos above
  rw [act_powered powered, if_pos samples, reaches] at acts
  dsimp only at acts
  rw [rises] at acts
  refine ⟨_, acts, ?_, State.followsLevel_of_setPkm (State.setLevel_followed (s.setPkm p) _ _)⟩
  rw [State.holdAutoPark_pkm, Option.getD_some, State.setLevel_pkm]

/-- Settles O22, cause by cause. -/
theorem wakeCausesEndPark : Obligations.WakeCausesEndPark := by
  intro s tag
  refine ⟨fun serving parked => ?wake, fun serving centering after => ?joins,
    fun serving awake notAfter => ?refused, fun n powered parked timer => ?timer, fun powered parked moved => ?motion,
    fun f v powered resetting started parked values => ?stick, fun powered parked between due => ?pack,
    fun powered centering after => ⟨fun f v resetting started values => ?stickJoins, fun between due => ?packJoins⟩,
    fun k powered started asleep counted free fit none_confirmed due above => ?rise⟩
  case wake =>
    have acts := exec_wake serving tag (.inl parked)
    obtain ⟨sent, busy, frame⟩ := s.admitted_answered ⟨0x06, tag, []⟩
    have followed : s.modeFollowed ((s.admitted.ok ⟨0x06, tag, []⟩ []).wake .request) :=
      State.modeFollowed_from (b := s.admitted.ok ⟨0x06, tag, []⟩ []) rfl rfl rfl rfl (State.wake_followed _ _)
    have mdc : ((s.admitted.ok ⟨0x06, tag, []⟩ []).wake .request).mdc = { s.mdc with
        mode := .centering, stageMs := 0, silenceMs := 0, autoParkMs := 0, parkTimer := none
        wakeSet := { s.mdc.wakeSet with request := true }, wakeFirst := some .request, wakeCentering := true } :=
      State.wake_parked (s := s.admitted.ok ⟨0x06, tag, []⟩ []) parked .request
    have outgoing := State.wake_outgoing_busy busy .request
    have changed : s.changesOnly ((s.admitted.ok ⟨0x06, tag, []⟩ []).wake .request)
        [.queue, .output, .mode, .timers, .wnc] := State.changesOnly_trans (State.changesOnly_mono frame (by simp))
      (State.changesOnly_mono (State.wake_changes _ .request) (by simp))
    generalize (s.admitted.ok ⟨0x06, tag, []⟩ []).wake .request = t at *
    refine ⟨_, acts, ?_, ?_, ?_, ?_, ?_, ?_, ?_, State.modeFollowed_held followed, State.changesOnly_parked changed (by simp)⟩
    · rw [State.holdAutoPark_mdc_mode, mdc]
    · rw [State.holdAutoPark_mdc_wakeFirst, mdc]
    · rw [State.holdAutoPark_mdc_wakeSet, mdc]
    · rw [State.holdAutoPark_mdc_wakeCentering, mdc]
    · rw [State.holdAutoPark_mdc_parkTimer, mdc]
    · rw [State.holdAutoPark_mdc_stageMs, mdc]
    · unfold State.sent at sent ⊢
      rw [State.holdAutoPark_link, outgoing, sent]
  case joins =>
    have acts := exec_wake serving tag (.inr ⟨centering, after⟩)
    obtain ⟨sent, -, frame⟩ := s.admitted_answered ⟨0x06, tag, []⟩
    have woken := State.wake_centering (s := s.admitted.ok ⟨0x06, tag, []⟩ []) centering after .request
    rw [woken] at acts
    refine ⟨_, acts, ?_, ?_, ?_, State.changesOnly_parked (State.changesOnly_trans
      (State.changesOnly_mono frame (by simp)) (State.setMdc_timers rfl (by simp))) (by simp)⟩
    · rw [State.holdAutoPark_mdc_wakeSet]; rfl
    · rw [State.holdAutoPark_mdc_wakeFirst]; rfl
    · unfold State.sent at sent ⊢
      rw [State.holdAutoPark_link, State.setMdc_link, sent]
  case refused =>
    refine exec_refuses serving (i := .wake tag) (q := ⟨0x06, tag, []⟩) (r := .wake) rfl rfl rfl ?_
    exact if_neg fun taken => taken.elim awake notAfter
  case timer =>
    let u := s.setMdc { s.mdc with parkTimer := none }
    have acts : exec .parkTimerExpiry s = .next (u.wake .timer).holdAutoPark := by
      have expires : s.parkTimerExpires = u.wake .timer := if_pos ⟨parked, by rw [timer]; rfl⟩
      rw [← expires]
      exact act_powered powered State.parkTimerExpires
    have stopped : s.changesOnly u [.output, .mode, .timers, .wnc] := State.setMdc_timers rfl (by simp)
    have mdc := State.wake_parked (s := u) parked .timer
    have heard : u.ws.honours .timer = (s.ws.nat Item.wakeMask).testBit 4 := rfl
    rw [heard] at mdc
    refine ⟨_, acts, ?_, ?_, ?_,
      State.modeFollowed_held (State.modeFollowed_from (b := u) rfl rfl rfl rfl (State.wake_followed _ _)),
      State.changesOnly_parked (State.changesOnly_trans stopped
        (State.changesOnly_mono (u.wake_changes .timer) (by simp))) (by simp)⟩
    · rw [State.holdAutoPark_mdc_parkTimer, mdc]; split <;> rfl
    · rw [State.holdAutoPark_mdc_mode, mdc]
      split
      · rfl
      · exact parked
    · rw [State.holdAutoPark_mdc_wakeFirst, mdc]; split <;> rfl
  case motion =>
    have acts : exec .motionWake s = .next (s.wake .motion).holdAutoPark := by
      have judged : s.judgeMotion = s.wake .motion := if_pos ⟨parked, moved⟩
      rw [← judged]
      exact act_powered powered State.judgeMotion
    have mdc := State.wake_parked parked .motion
    have heard : s.ws.honours .motion = (s.ws.nat Item.wakeMask).testBit 2 := rfl
    rw [heard] at mdc
    refine ⟨_, acts, ?_, ?_, State.modeFollowed_held (State.wake_followed _ _),
      State.changesOnly_parked (s.wake_changes .motion) (by simp)⟩
    · rw [State.holdAutoPark_mdc_mode, mdc]
      split
      · rfl
      · exact parked
    · rw [State.holdAutoPark_mdc_wakeFirst, mdc]; split <;> rfl
  case stick =>
    have acts := exec_controlFrame powered resetting started values
    have heard : s.ws.honours .stick = (s.ws.nat Item.wakeMask).testBit 1 := rfl
    intro wakes
    by_cases now : wakes
    · obtain ⟨mode, set, first, followed, frame⟩ := State.acceptFrame_wakes parked now.1 (heard.trans now.2)
      exact ⟨_, acts, mode.trans (if_pos now).symm, set.trans (if_pos now).symm, first.trans (if_pos now).symm,
        fun _ => followed, fun not => absurd now not, frame⟩
    · obtain ⟨mode, set, first, wnc, frame⟩ := State.acceptFrame_sleeps (v := v) parked (heard ▸ now)
      exact ⟨_, acts, mode.trans (if_neg now).symm, set.trans (if_neg now).symm, first.trans (if_neg now).symm,
        fun yes => absurd yes now, fun _ => wnc, frame⟩
  case pack =>
    obtain ⟨t, acts, fit, follows⟩ := exec_levelStepDown powered between due
    obtain ⟨mode, set, first, store, followed, frame⟩ := State.followsLevel_asleep follows (.inl parked)
    rw [if_neg fit, parked] at mode
    refine ⟨t, acts, by simpa using mode, set, by simpa [parked] using first, followed,
      State.changesOnly_of_stands frame fun p _ outside => ?_⟩
    cases p
    case store => unfold State.sameIn; rw [store fit]
    all_goals simp_all
  case stickJoins =>
    exact ⟨_, exec_controlFrame powered resetting started values, State.acceptFrame_centering centering after⟩
  case packJoins =>
    obtain ⟨t, acts, fit, follows⟩ := exec_levelStepDown powered between due
    obtain ⟨mode, set, first, store, followed, frame⟩ := State.followsLevel_asleep follows (.inr ⟨centering, after⟩)
    have stays : t.mdc.mode = s.mdc.mode := by simpa [fit, centering] using mode
    refine ⟨t, acts, set, by simpa [centering] using first, State.changesOnly_of_stands frame fun p _ outside => ?_⟩
    cases p
    case store => unfold State.sameIn; rw [store fit]
    case mode => exact stays
    case wnc => exact (State.modeFollowed_stays followed stays).2
    all_goals simp_all
  case rise =>
    have samples : sampling s.mdc.mode = true := by obtain e | ⟨e, -⟩ := asleep <;> rw [e] <;> rfl
    obtain ⟨t, acts, level, follows⟩ := exec_levelRise powered samples counted free fit none_confirmed due above
    obtain ⟨mode, set, first, -, followed, frame⟩ := State.followsLevel_asleep follows asleep
    rw [level] at mode
    refine ⟨t, acts, mode.trans ?_, set, first, followed, frame⟩
    obtain e | ⟨e, -⟩ := asleep <;> simp [e]

end Sys2Proof.Machine
end

section
/-! PROOF. The drive update (R128 to R142): what is read, the follow state, the drive mode, and steps 5 to 9 for an
axle. -/
namespace Sys2Proof.Machine

@[simp] theorem PerAxle.get_ofFn {α : Type} (f : AxleId → α) (i : AxleId) : (PerAxle.ofFn f).get i = f i := by
  cases i <;> rfl

/-! ## An axle from step 6 on (R136 to R139) -/

/-- Steps 6 to 9 for an axle that step 5 has set. -/
def Axle.finished (a : Axle) (w : WorkingSet) (m : SteerMachine) (grant : Nat) : Axle :=
  let a2 := a.caps w m
  let a3 := { a2 with ceiling := movedCeiling a2.ceiling a2.current grant }
  ((a3.runStall w).setEffective).countLimit grant

theorem State.updateAxle_eq (s : State) (i : AxleId) : s.updateAxle i =
    (s.setAxle i { s.drc.axles.get i with restMs := (s.drc.axles.get i).restMs - 20 }).finished s.ws s.stc.machine
      (s.grant (axleConsumer i)) := rfl

/-- The axle's stall timer runs (R139). -/
def Axle.stalls (a : Axle) (w : WorkingSet) : Prop :=
  a.state = .drive ∧ w.nat Item.axleStallMa < a.current ∧ a.speed = 0

section Finished

variable (a : Axle) (w : WorkingSet) (m : SteerMachine) (grant : Nat)

/-- The caps touch the ramped duty alone. -/
theorem Axle.caps_rest : a.caps w m = { a with ramped := (a.caps w m).ramped } := by
  unfold Axle.caps
  dsimp only
  split <;> split <;> rfl

/-- The caps of an axle that drives (R136, R139). -/
theorem Axle.caps_ramped_driving (drives : a.state = a.driving) :
    (a.caps w m).ramped = cappedDuty w m (decide (0 < a.restMs)) a.ramped := by
  have moving : a.state = .drive ∨ a.state = .rest := by
    rw [drives, Axle.driving]
    split <;> simp
  have resting : a.state = .rest ↔ 0 < a.restMs := by
    rw [drives, Axle.driving]
    split <;> simp_all
  unfold Axle.caps cappedDuty
  simp only [moving, and_true, decide_eq_true_eq]
  by_cases transits : m = .aligning ∨ m = .settling <;> by_cases rests : 0 < a.restMs <;>
    simp [transits, rests, Axle.cap, resting, clamp]

/-- An axle that does not drive has no cap. -/
theorem Axle.caps_ramped_still (drive : a.state ≠ .drive) (rest : a.state ≠ .rest) :
    (a.caps w m).ramped = a.ramped := by
  unfold Axle.caps
  simp [drive, rest]

/-- What was measured, brake strength and target stand; the ceiling moves against the grant (R137). -/
theorem Axle.finished_measures :
    let b := a.finished w m grant
    b.counts = a.counts ∧ b.speed = a.speed ∧ b.current = a.current ∧ b.brake = a.brake ∧ b.target = a.target ∧
      b.ceiling = ceilingAfter a.ceiling a.current grant := by
  unfold Axle.finished Axle.runStall
  rw [a.caps_rest]
  dsimp only [Axle.setEffective, Axle.countLimit]
  split
  · split <;> exact ⟨rfl, rfl, rfl, rfl, rfl, rfl⟩
  · exact ⟨rfl, rfl, rfl, rfl, rfl, rfl⟩

/-- 800 ms of stall rest the axle (R139). -/
theorem Axle.finished_stalled (stalls : a.stalls w) (due : 800 ≤ a.stallMs + 20) :
    let b := a.finished w m grant
    b.state = .rest ∧ b.restMs = 2000 ∧ b.stallMs = 0 ∧ b.ramped = max (-300) (min 300 (a.caps w m).ramped) := by
  unfold Axle.stalls at stalls
  unfold Axle.finished Axle.runStall
  rw [a.caps_rest]
  dsimp only
  rw [if_pos stalls, if_pos due]
  exact ⟨rfl, rfl, rfl, rfl⟩

/-- An axle that is not rested by a stall keeps its state, its rest timer and its duty within the caps. -/
theorem Axle.finished_goesOn (goesOn : ¬(a.stalls w ∧ 800 ≤ a.stallMs + 20)) :
    let b := a.finished w m grant
    b.state = a.state ∧ b.restMs = a.restMs ∧ b.ramped = (a.caps w m).ramped ∧
      (a.stalls w → b.stallMs = a.stallMs + 20) ∧ (¬a.stalls w → b.stallMs = 0) := by
  unfold Axle.stalls at goesOn ⊢
  unfold Axle.finished Axle.runStall
  rw [a.caps_rest]
  dsimp only
  by_cases stalls : a.state = .drive ∧ w.nat Item.axleStallMa < a.current ∧ a.speed = 0
  · rw [if_pos stalls, if_neg fun due => goesOn ⟨stalls, due⟩]
    exact ⟨rfl, rfl, rfl, fun _ => rfl, fun other => absurd stalls other⟩
  · rw [if_neg stalls]
    exact ⟨rfl, rfl, rfl, fun other => absurd other stalls, fun _ => rfl⟩

/-- Only a stall sets the rest timer or changes the state (R139). -/
theorem Axle.finished_rest :
    let b := a.finished w m grant
    (b.state = a.state ∧ b.restMs = a.restMs) ∨ (b.state = .rest ∧ b.restMs = 2000) := by
  by_cases rests : a.stalls w ∧ 800 ≤ a.stallMs + 20
  · obtain ⟨state, timer, -, -⟩ := a.finished_stalled w m grant rests.1 rests.2
    exact .inr ⟨state, timer⟩
  · obtain ⟨state, timer, -, -⟩ := a.finished_goesOn w m grant rests
    exact .inl ⟨state, timer⟩

/-- The limit count is judged on the count before. -/
theorem Axle.finished_limitCount :
    let b := a.finished w m grant
    b.limitCount = if b.limiterActive grant = true ∧ b.state = .drive then min 2 (a.limitCount + 1) else 0 := by
  unfold Axle.finished Axle.runStall
  rw [a.caps_rest]
  dsimp only
  split
  · split <;> rfl
  · rfl

/-- Effective duty (R137) and limit count (R138) of an axle. -/
theorem Axle.finished_duty :
    let b := a.finished w m grant
    let drives := b.state = .drive ∨ b.state = .rest
    (drives → b.effective = max (-(b.ceiling : Int)) (min b.ceiling b.ramped)) ∧ (¬drives → b.effective = 0) ∧
      (b.state = .drive → grant < b.current ∨ b.ceiling < b.ramped.natAbs → b.limitCount = min 2 (a.limitCount + 1)) ∧
      (¬(b.state = .drive ∧ (grant < b.current ∨ b.ceiling < b.ramped.natAbs)) → b.limitCount = 0) := by
  have count := a.finished_limitCount w m grant
  dsimp only at count ⊢
  refine ⟨fun drives => if_pos drives, fun still => if_neg still, fun drive active => ?_, fun quiet => ?_⟩
  · rw [count, if_pos ⟨by simpa [Axle.limiterActive, drive] using active, drive⟩]
  · rw [count, if_neg fun active => quiet ⟨active.2, by simpa [Axle.limiterActive, active.2] using active.1⟩]

/-- An axle that a row stops is held (R131 rows 1 to 6). -/
theorem Axle.finished_stop {state : AxleState} (drive : state ≠ .drive) (rest : state ≠ .rest) (brake : Nat) :
    ((a.stop state brake).finished w m grant).heldAs state brake := by
  have unstalled : ¬(a.stop state brake).stalls w := fun stalls => drive stalls.1
  obtain ⟨-, -, -, strength, target, -⟩ := (a.stop state brake).finished_measures w m grant
  obtain ⟨held, -, ramped, -, timer⟩ := (a.stop state brake).finished_goesOn w m grant fun rests => unstalled rests.1
  obtain ⟨-, effective, -, count⟩ := (a.stop state brake).finished_duty w m grant
  rw [Axle.caps_ramped_still _ w m drive rest] at ramped
  rw [held] at effective count
  exact ⟨held, strength, target, ramped, effective fun drives => drives.elim drive rest, timer unstalled,
    count fun drives => drive drives.1⟩

end Finished

/-! ## Step 5 for an axle (R131, R134, R135, R140) -/

/-- Step 5 made `b` of `a` as `d` says, with a target duty; what was measured and the timers stand. -/
structure Axle.DrivenAs (a b : Axle) (w : WorkingSet) (m : SteerMachine) (d : AxleDrive) (target : Int) : Prop where
  state : b.state = d.state
  brake : b.brake = d.brake
  ramped : (b.caps w m).ramped = d.ramped
  target : b.target = target
  stallMs : b.stallMs = a.stallMs
  restMs : b.restMs = a.restMs
  current : b.current = a.current
  speed : b.speed = a.speed

theorem Axle.drivenAs_throttle (a : Axle) (w : WorkingSet) (m : SteerMachine) (target : Int) :
    a.DrivenAs (a.throttle w target) w m (throttleDrive w m a.ramped a.restMs target) target := by
  unfold Axle.throttle throttleDrive
  dsimp only
  by_cases still : target = 0 ∧ rampStep w a.ramped target = 0
  · rw [if_pos still, if_pos still]
    refine ⟨rfl, rfl, ?_, rfl, rfl, rfl, rfl, rfl⟩
    rw [Axle.caps_ramped_still _ w m (by dsimp only; split <;> decide) (by dsimp only; split <;> decide)]
    exact still.2
  · rw [if_neg still, if_neg still]
    exact ⟨rfl, rfl, Axle.caps_ramped_driving _ w m rfl, rfl, rfl, rfl, rfl, rfl⟩

theorem Axle.drivenAs_followLine (a : Axle) (w : WorkingSet) (m : SteerMachine) (target : Int) :
    a.DrivenAs (a.followLine target) w m (followDrive w m a.ramped a.ceiling a.restMs a.speed target) 0 :=
  ⟨rfl, rfl, Axle.caps_ramped_driving _ w m rfl, rfl, rfl, rfl, rfl, rfl⟩

/-- An update made `b` of `a`, which was driven as `d` says: 800 ms of stall rest it (R139). -/
def Axle.updatedBy (a b : Axle) (w : WorkingSet) (d : AxleDrive) (target : Int) : Prop :=
  let stalling := d.state = .drive ∧ w.nat Item.axleStallMa < b.current ∧ b.speed = 0
  b.target = target ∧ b.brake = d.brake ∧
    (if stalling ∧ 800 ≤ a.stallMs + 20 then
      b.state = .rest ∧ b.restMs = 2000 ∧ b.stallMs = 0 ∧ b.ramped = max (-300) (min 300 d.ramped)
    else b.state = d.state ∧ b.restMs = a.restMs - 20 ∧ b.ramped = d.ramped ∧
      (stalling → b.stallMs = a.stallMs + 20) ∧ (¬stalling → b.stallMs = 0))

theorem Axle.DrivenAs.updatedBy {a b : Axle} {w : WorkingSet} {m : SteerMachine} {d : AxleDrive} {target : Int}
    (h : Axle.DrivenAs { a with restMs := a.restMs - 20 } b w m d target) (grant : Nat) :
    a.updatedBy (b.finished w m grant) w d target := by
  obtain ⟨state, brake, ramped, aim, stallMs, restMs, -, -⟩ := h
  obtain ⟨-, speed, current, strength, duty, -⟩ := b.finished_measures w m grant
  refine ⟨duty.trans aim, strength.trans brake, ?_⟩
  dsimp only at stallMs restMs ⊢
  rw [current, speed, ← stallMs, ← restMs, ← ramped, ← state]
  split
  · rename_i rests
    exact b.finished_stalled w m grant rests.1 rests.2
  · exact b.finished_goesOn w m grant ‹_›

section Rows

variable (s : State) (i : AxleId) (a : Axle)

/-- An axle is stopped, or follows the line, or is under the throttle. -/
theorem State.setAxle_cases :
    (∃ state brake, state ≠ .drive ∧ state ≠ .rest ∧ s.setAxle i a = a.stop state brake) ∨
      s.setAxle i a = a.followLine s.drc.assistTarget ∨
      s.setAxle i a = a.throttle s.ws (shaped s.ws s.intent.axes.throttle) := by
  unfold State.setAxle
  cases s.axleRow i
  case follow => exact .inr (.inl rfl)
  case throttle => exact .inr (.inr rfl)
  all_goals exact .inl ⟨_, _, by decide, by decide, rfl⟩

/-- What was measured, the ceiling and the rest timer stand; an axle in DRIVE keeps its limit count. -/
theorem State.setAxle_keeps :
    let b := s.setAxle i a
    b.counts = a.counts ∧ b.speed = a.speed ∧ b.current = a.current ∧ b.ceiling = a.ceiling ∧ b.restMs = a.restMs ∧
      (b.state = .drive → b.limitCount = a.limitCount) := by
  obtain ⟨state, brake, drive, -, stopped⟩ | follows | throttles := s.setAxle_cases i a
  · rw [stopped]
    exact ⟨rfl, rfl, rfl, rfl, rfl, fun drives => absurd drives drive⟩
  · rw [follows]
    exact ⟨rfl, rfl, rfl, rfl, rfl, fun _ => rfl⟩
  · rw [throttles, Axle.throttle]
    dsimp only
    split <;> exact ⟨rfl, rfl, rfl, rfl, rfl, fun _ => rfl⟩

/-- An axle that its row stops is held. -/
theorem State.updateAxle_stopped {s : State} {i : AxleId} {state : AxleState} {brake : Nat}
    (stops : ∀ a, s.setAxle i a = a.stop state brake) (drive : state ≠ .drive) (rest : state ≠ .rest) :
    (s.updateAxle i).heldAs state brake := by
  rw [State.updateAxle_eq, stops]
  exact Axle.finished_stop _ _ _ _ drive rest _

/-- Before CENTERING the axles coast (R131 row 1). -/
theorem State.updateAxle_coasts (starting : s.mdc.mode = .start ∨ s.mdc.mode = .loading ∨ s.mdc.mode = .packCheck) :
    (s.updateAxle i).heldAs .coast 0 := by
  have row : s.axleRow i = .coasting := if_pos starting
  exact State.updateAxle_stopped (fun a => by rw [State.setAxle, row]) (by decide) (by decide)

/-- From CENTERING on, outside RUN, they are held in BRAKE (R131 row 2). -/
theorem State.updateAxle_brakes (start : s.mdc.mode ≠ .start) (loading : s.mdc.mode ≠ .loading)
    (check : s.mdc.mode ≠ .packCheck) (run : s.mdc.mode ≠ .run) : (s.updateAxle i).heldAs .brake 100 := by
  have row : s.axleRow i = .braked := by
    unfold State.axleRow
    rw [if_neg (by simp [start, loading, check]), if_pos run]
  exact State.updateAxle_stopped (fun a => by rw [State.setAxle, row]) (by decide) (by decide)

/-- The target duty of an axle that no row holds: following the line does not ask the throttle (R131, R140). -/
def State.axleTarget (s : State) : Int :=
  if s.drc.follow = .following then 0 else shaped s.ws s.intent.axes.throttle

/-- The drive that the follow state gives an axle in RUN (R131 rows 7 and 8). -/
def State.axleDrive (s : State) (i : AxleId) : AxleDrive :=
  let a := s.drc.axles.get i
  if s.drc.follow = .following then
    followDrive s.ws s.stc.machine a.ramped a.ceiling (a.restMs - 20) a.speed s.drc.assistTarget
  else throttleDrive s.ws s.stc.machine a.ramped (a.restMs - 20) s.axleTarget

/-- In RUN an axle is as the table gives it (R131 rows 3 to 8). -/
theorem State.updateAxle_runs (run : s.mdc.mode = .run) :
    let b := s.updateAxle i
    if s.stc.machine = .search then b.heldAs .brake 100
    else if s.drc.mode.locks i = true then b.heldAs .locked 100
    else if s.drc.mode = .rearOnly ∧ i = .front then b.heldAs .coast 0
    else if s.drc.follow = .jamBrake then b.heldAs .brake 100
    else (s.drc.axles.get i).updatedBy b s.ws (s.axleDrive i) s.axleTarget := by
  have row : s.axleRow i =
      if s.stc.machine = .search then .searchBrake
      else if s.drc.mode.locks i = true then .locked
      else if s.drc.mode = .rearOnly ∧ i = .front then .rearOnly
      else if s.drc.follow = .jamBrake then .jamBrake
      else if s.drc.follow = .following then .follow else .throttle := by
    unfold State.axleRow
    rw [run, if_neg (by decide), if_neg (by decide)]
  dsimp only
  let a := { s.drc.axles.get i with restMs := (s.drc.axles.get i).restMs - 20 }
  by_cases search : s.stc.machine = .search
  · rw [if_pos search] at row ⊢
    exact State.updateAxle_stopped (fun a => by rw [State.setAxle, row]) (by decide) (by decide)
  rw [if_neg search] at row ⊢
  by_cases locked : s.drc.mode.locks i = true
  · rw [if_pos locked] at row ⊢
    exact State.updateAxle_stopped (fun a => by rw [State.setAxle, row]) (by decide) (by decide)
  rw [if_neg locked] at row ⊢
  by_cases rear : s.drc.mode = .rearOnly ∧ i = .front
  · rw [if_pos rear] at row ⊢
    exact State.updateAxle_stopped (fun a => by rw [State.setAxle, row]) (by decide) (by decide)
  rw [if_neg rear] at row ⊢
  by_cases jam : s.drc.follow = .jamBrake
  · rw [if_pos jam] at row ⊢
    exact State.updateAxle_stopped (fun a => by rw [State.setAxle, row]) (by decide) (by decide)
  rw [if_neg jam] at row ⊢
  have driven : Axle.DrivenAs a (s.setAxle i a) s.ws s.stc.machine (s.axleDrive i) s.axleTarget := by
    by_cases following : s.drc.follow = .following
    · rw [if_pos following] at row
      rw [State.setAxle, row, show s.axleDrive i = _ from if_pos following, show s.axleTarget = _ from if_pos following]
      exact a.drivenAs_followLine _ _ _
    · rw [if_neg following] at row
      rw [State.setAxle, row, show s.axleDrive i = _ from if_neg following, show s.axleTarget = _ from if_neg following]
      exact a.drivenAs_throttle _ _ _
  exact driven.updatedBy _

/-- Measurements and ceiling after steps 5 to 9 (R137). -/
theorem State.updateAxle_measures :
    let a := s.drc.axles.get i
    let b := s.updateAxle i
    b.counts = a.counts ∧ b.speed = a.speed ∧ b.current = a.current ∧
      b.ceiling = ceilingAfter a.ceiling a.current (s.grant (axleConsumer i)) := by
  dsimp only
  rw [State.updateAxle_eq]
  generalize takes : { s.drc.axles.get i with restMs := (s.drc.axles.get i).restMs - 20 } = a
  obtain ⟨counts, speed, current, ceiling, -, -⟩ := s.setAxle_keeps i a
  obtain ⟨counts', speed', current', -, -, ceiling'⟩ :=
    (s.setAxle i a).finished_measures s.ws s.stc.machine (s.grant (axleConsumer i))
  rw [ceiling, current] at ceiling'
  subst takes
  exact ⟨counts'.trans counts, speed'.trans speed, current'.trans current, ceiling'⟩

/-- Rest timer, effective duty and limit count after steps 5 to 9 (R137 to R139). -/
theorem State.updateAxle_duty :
    let a := s.drc.axles.get i
    let b := s.updateAxle i
    let drives := b.state = .drive ∨ b.state = .rest
    (b.restMs = a.restMs - 20 ∨ b.restMs = 2000 ∧ b.state = .rest) ∧
      (drives → b.effective = max (-(b.ceiling : Int)) (min b.ceiling b.ramped)) ∧ (¬drives → b.effective = 0) ∧
      (b.state = .drive → s.grant (axleConsumer i) < b.current ∨ b.ceiling < b.ramped.natAbs →
        b.limitCount = min 2 (a.limitCount + 1)) ∧
      (¬(b.state = .drive ∧ (s.grant (axleConsumer i) < b.current ∨ b.ceiling < b.ramped.natAbs)) →
        b.limitCount = 0) := by
  dsimp only
  rw [State.updateAxle_eq]
  obtain ⟨-, -, -, -, timer, count⟩ :=
    s.setAxle_keeps i { s.drc.axles.get i with restMs := (s.drc.axles.get i).restMs - 20 }
  generalize s.setAxle i _ = k at *
  have rest := k.finished_rest s.ws s.stc.machine (s.grant (axleConsumer i))
  obtain ⟨moving, still, active, quiet⟩ := k.finished_duty s.ws s.stc.machine (s.grant (axleConsumer i))
  refine ⟨rest.imp (fun stands => stands.2.trans timer) And.symm, moving, still, fun drive limits => ?_, quiet⟩
  obtain ⟨same, -⟩ | ⟨rested, -⟩ := rest
  · rw [active drive limits, count (same.symm.trans drive)]
  · exact absurd (rested.symm.trans drive) (by decide)

end Rows

end Sys2Proof.Machine
end

section
/-! PROOF. DRIVE_UPDATE as a whole (R128): its steps before the axles are set, the flags and the wishes. -/
namespace Sys2Proof.Machine

theorem State.setDrc_changes (s : State) (d : Drc) : s.changesOnly (s.setDrc d) [.drc] := by
  refine ⟨rfl, rfl, rfl, fun p outside => ?_⟩
  cases p <;> simp_all [State.sameIn]

theorem AxleId.exists_iff {p : AxleId → Prop} : (∃ i, p i) ↔ p .front ∨ p .rear := by
  constructor
  · rintro ⟨i, holds⟩
    cases i
    · exact .inl holds
    · exact .inr holds
  · rintro (front | rear)
    · exact ⟨_, front⟩
    · exact ⟨_, rear⟩

/-! ## Steps 1 and 2: what is read (R129, R130, R43) -/

/-- The state with the encoders read, before the counts are judged. -/
def State.encodersRead (s : State) (r : DriveReading) : State :=
  s.setDrc (s.drc.mapAxles fun i a =>
    { a with counts := r.counts.get i, speed := speedOf (r.counts.get i) (s.ws.int Item.countsPerM) })

theorem State.readEncoders_eq (s : State) (r : DriveReading) :
    s.readEncoders r = (s.encodersRead r).countMotion r.counts.front r.counts.rear := rfl

/-- The state once the readings of an update are taken in. -/
def State.driveRead (s : State) (r : DriveReading) : State :=
  (s.readEncoders r).setDrc ((s.readEncoders r).drc.readCurrents r)

/-- An axle with its readings (R129, R130). -/
def Axle.read (a : Axle) (w : WorkingSet) (r : DriveReading) (i : AxleId) : Axle :=
  { a with
    counts := r.counts.get i
    speed := max (-3000) (min 3000 ((r.counts.get i * 50000).tdiv (w.int Item.countsPerM)))
    current := min 50000 (r.currents.get i) }

/-- The motion count with the counts of an update (R43). -/
def State.motionCounted (s : State) (front rear : Int) : State :=
  s.setMdc { s.mdc with motionCount := min 65535 (s.mdc.motionCount + front.natAbs + rear.natAbs) }

theorem State.countMotion_asleep {s : State} (parked : s.mdc.mode = .park) (front rear : Int) :
    s.countMotion front rear = (s.motionCounted front rear).judgeMotion := if_pos parked

/-- The vehicle is awake: the counts are not asked. -/
theorem State.countMotion_awake {s : State} (awake : s.mdc.mode ≠ .park) (front rear : Int) :
    s.countMotion front rear = s := if_neg awake

/-- The counts of an update may wake the vehicle; they leave the axles. -/
theorem State.countMotion_changes (s : State) (front rear : Int) :
    s.changesOnly (s.countMotion front rear) [.output, .mode, .timers, .wnc] := by
  by_cases parked : s.mdc.mode = .park
  · have counted : s.changesOnly (s.motionCounted front rear) [.output, .mode, .timers, .wnc] :=
      State.setMdc_timers rfl (by simp)
    rw [State.countMotion_asleep parked, State.judgeMotion]
    refine State.changesOnly_trans counted ?_
    split
    · exact State.wake_changes _ _
    · exact State.changesOnly_refl _ _
  · rw [State.countMotion_awake parked]
    exact State.changesOnly_refl _ _

/-- In PARK the counts join the motion count, which wakes by MOTION where that is honoured (R43). -/
theorem State.countMotion_parked {s : State} (parked : s.mdc.mode = .park) (front rear : Int) :
    let n := min 65535 (s.mdc.motionCount + front.natAbs + rear.natAbs)
    let wakes := s.ws.nat Item.motionWakeCounts ≤ n ∧ (s.ws.nat Item.wakeMask).testBit 2 = true
    let t := s.countMotion front rear
    t.mdc.motionCount = n ∧ t.mdc.mode = (if wakes then .centering else .park) ∧
      t.mdc.wakeSet = (if wakes then { s.mdc.wakeSet with motion := true } else s.mdc.wakeSet) ∧
      t.mdc.wakeFirst = (if wakes then some .motion else s.mdc.wakeFirst) := by
  intro n wakes
  dsimp only
  rw [State.countMotion_asleep parked]
  by_cases reached : s.ws.nat Item.motionWakeCounts ≤ n
  · have woken : (s.motionCounted front rear).judgeMotion = (s.motionCounted front rear).wake .motion :=
      if_pos ⟨parked, reached⟩
    have mdc := State.wake_parked (s := s.motionCounted front rear) parked .motion
    rw [woken]
    by_cases heard : (s.ws.nat Item.wakeMask).testBit 2 = true
    · rw [show (s.motionCounted front rear).ws.honours .motion = true from heard, if_pos rfl] at mdc
      have now : wakes := ⟨reached, heard⟩
      rw [mdc, if_pos now, if_pos now, if_pos now]
      exact ⟨rfl, rfl, rfl, rfl⟩
    · rw [if_neg (show ¬(s.motionCounted front rear).ws.honours .motion = true from heard)] at mdc
      have not : ¬wakes := fun now => heard now.2
      rw [mdc, if_neg not, if_neg not, if_neg not]
      exact ⟨rfl, parked, rfl, rfl⟩
  · have short : (s.motionCounted front rear).judgeMotion = s.motionCounted front rear :=
      if_neg fun judged => reached judged.2
    have not : ¬wakes := fun now => reached now.1
    rw [short, if_neg not, if_neg not, if_neg not]
    exact ⟨rfl, parked, rfl, rfl⟩

/-- A change of the mode jams no winch and frees none: a movement ends by load (R157). -/
theorem State.winchModeChange_jammed (s : State) {m : VehicleMode} (down : m ≠ .shutdown) :
    (s.winchModeChange m).wnc.state = .jammed ↔ s.wnc.state = .jammed := by
  rw [State.winchModeChange_wnc, if_neg (c := m = .shutdown ∧ _) fun cut => down cut.1]
  split
  · rename_i ends
    have idle : (s.wnc.endByLoad s.ws true).state ≠ .jammed := by
      unfold Wnc.endByLoad Wnc.endMovement Wnc.byLoad
      dsimp only
      split <;> decide
    exact iff_of_false idle fun jammed => by rw [jammed] at ends; exact absurd ends.2 (by decide)
  · exact Iff.rfl

/-- Nor does a wake cause. -/
theorem State.wake_jammed {s : State} (parked : s.mdc.mode = .park) (c : WakeCause) :
    (s.wake c).wnc.state = .jammed ↔ s.wnc.state = .jammed := by
  by_cases heard : s.ws.honours c = true
  · have moved : (s.setMdc (s.wokenRecord c)).mdc.mode ≠ .centering := by
      rw [State.setMdc_mdc, (s.wokenRecord_rest c).1, parked]
      decide
    rw [State.wake_eq, State.wokenMode, if_pos ⟨parked, heard⟩, State.setMode_entered moved (by decide) (by decide)]
    exact (State.winchModeChange_jammed _ (by decide)).trans (by simp)
  · rw [State.wake_unheard heard]

/-- Nor do the counts of an update. -/
theorem State.countMotion_jammed (s : State) (front rear : Int) :
    (s.countMotion front rear).wnc.state = .jammed ↔ s.wnc.state = .jammed := by
  by_cases parked : s.mdc.mode = .park
  · rw [State.countMotion_asleep parked, State.judgeMotion]
    split
    · exact State.wake_jammed (s := s.motionCounted front rear) parked .motion
    · exact Iff.rfl
  · rw [State.countMotion_awake parked]

/-- The counts begin or end no RUN. -/
theorem State.countMotion_run (s : State) (front rear : Int) :
    (s.countMotion front rear).mdc.mode = .run ↔ s.mdc.mode = .run := by
  by_cases parked : s.mdc.mode = .park
  · obtain ⟨-, mode, -, -⟩ := State.countMotion_parked parked front rear
    rw [mode, parked]
    split <;> decide
  · rw [State.countMotion_awake parked]

section Read

variable (s : State) (r : DriveReading)

theorem State.driveRead_changes :
    s.changesOnly (s.driveRead r) [.output, .mode, .timers, .drc, .wnc] := by
  unfold State.driveRead
  rw [State.readEncoders_eq, State.encodersRead]
  exact State.changesOnly_trans (State.changesOnly_mono (State.setDrc_changes _ _) (by simp)) <|
    State.changesOnly_trans (State.changesOnly_mono (State.countMotion_changes _ _ _) (by simp))
      (State.changesOnly_mono (State.setDrc_changes _ _) (by simp))

/-- Of the Drive Controller's state an update reads the axles' measurements alone. -/
theorem State.driveRead_drc : (s.driveRead r).drc =
    { s.drc with axles := PerAxle.ofFn fun i => (s.drc.axles.get i).read s.ws r i } := by
  have counted : (s.readEncoders r).drc = _ := (State.countMotion_changes _ _ _).2.2.2 .drc (by simp)
  unfold State.driveRead
  rw [State.setDrc_drc, counted]
  rfl

theorem State.driveRead_awake (awake : s.mdc.mode ≠ .park) :
    (s.driveRead r).mdc = s.mdc ∧ (s.driveRead r).wnc = s.wnc := by
  unfold State.driveRead
  rw [State.readEncoders_eq, State.countMotion_awake (s := s.encodersRead r) awake]
  exact ⟨rfl, rfl⟩

theorem State.driveRead_parked (parked : s.mdc.mode = .park) :
    let n := min 65535 (s.mdc.motionCount + r.counts.front.natAbs + r.counts.rear.natAbs)
    let wakes := s.ws.nat Item.motionWakeCounts ≤ n ∧ (s.ws.nat Item.wakeMask).testBit 2 = true
    let t := s.driveRead r
    t.mdc.motionCount = n ∧ t.mdc.mode = (if wakes then .centering else .park) ∧
      t.mdc.wakeSet = (if wakes then { s.mdc.wakeSet with motion := true } else s.mdc.wakeSet) ∧
      t.mdc.wakeFirst = (if wakes then some .motion else s.mdc.wakeFirst) :=
  State.countMotion_parked (s := s.encodersRead r) parked _ _

/-- The readings enter no mode but CENTERING (R43). -/
theorem State.driveRead_mode {m : VehicleMode} (other : s.mdc.mode ≠ m) (centering : m ≠ .centering) :
    (s.driveRead r).mdc.mode ≠ m := by
  by_cases parked : s.mdc.mode = .park
  · obtain ⟨-, mode, -, -⟩ := s.driveRead_parked r parked
    rw [mode]
    split
    · exact centering.symm
    · exact parked ▸ other
  · rwa [(s.driveRead_awake r parked).1]

theorem State.driveRead_jammed : (s.driveRead r).wnc.state = .jammed ↔ s.wnc.state = .jammed :=
  State.countMotion_jammed (s.encodersRead r) _ _

theorem State.driveRead_run : (s.driveRead r).mdc.mode = .run ↔ s.mdc.mode = .run :=
  State.countMotion_run (s.encodersRead r) _ _

end Read

/-! ## Step 3: the follow state (R140, R141) -/

/-- The follow state after an update: it follows an assist in RUN, and a jam brakes an axle that followed. -/
theorem nextFollow_cases (f : FollowState) (w : WinchState) (m : VehicleMode) :
    (w = .assist → m = .run → nextFollow f w m = if f = .jamBrake then .none else .following) ∧
      (w = .jammed → nextFollow f w m = if f = .none then .none else .jamBrake) ∧
      (¬(w = .assist ∧ m = .run) → w ≠ .jammed → nextFollow f w m = .none) := by
  refine ⟨fun assist run => ?_, fun jammed => ?_, fun idle free => ?_⟩
  · subst assist run
    cases f <;> rfl
  · subst jammed
    cases f <;> rfl
  · cases f <;> simp [nextFollow, idle, free]

/-- Nothing is followed outside RUN. -/
theorem nextFollow_following {f : FollowState} {w : WinchState} {m : VehicleMode} (follows : nextFollow f w m = .following) :
    m = .run := by
  by_contra other
  by_cases jammed : w = .jammed
  · rw [(nextFollow_cases f w m).2.1 jammed] at follows
    split at follows <;> cases follows
  · rw [(nextFollow_cases f w m).2.2 (fun both => other both.2) jammed] at follows
    cases follows

/-! ## Step 4: the drive mode (R132, R133) -/

/-- A change of the drive mode waits while an axle that it locks turns too fast. -/
theorem Drc.lockWaits_iff (d : Drc) (w : WorkingSet) (c : DriveSel) : d.lockWaits w c = true ↔
    ∃ i, c.locks i = true ∧ d.mode.locks i = false ∧ w.nat Item.lockSpeedMmS < (d.axles.get i).speed.natAbs := by
  rw [AxleId.exists_iff]
  simp [Drc.lockWaits, and_assoc]

/-- Taking a code moves the DRIVE_SEL queue, the drive mode and the pending lock. -/
theorem State.takeDriveCode_shape (s : State) : ∃ sel mode lock, s.takeDriveCode =
    (s.setIntent { s.intent with drive := sel }).setDrc { s.drc with mode := mode, lockPending := lock } := by
  unfold State.takeDriveCode
  split
  · split
    · exact ⟨s.intent.drive, s.drc.mode, none, rfl⟩
    · rename_i c rest _
      split
      · exact ⟨s.intent.drive, s.drc.mode, some c, rfl⟩
      · exact ⟨{ s.intent.drive with queue := rest }, c, none, rfl⟩
  · exact ⟨s.intent.drive, s.drc.mode, s.drc.lockPending, rfl⟩

theorem driveTakes_iff (m : VehicleMode) : driveTakes m = true ↔ m = .ready ∨ m = .run ∨ m = .failsafe := by
  cases m <;> decide

/-- The queue where it is read (R132, R133). -/
theorem State.takeDriveCode_takes {s : State} (takes : s.mdc.mode = .ready ∨ s.mdc.mode = .run ∨ s.mdc.mode = .failsafe) :
    let t := s.takeDriveCode
    (s.intent.drive.queue = [] → t.drc.lockPending = none ∧ t.drc.mode = s.drc.mode ∧ t.intent.drive = s.intent.drive) ∧
    (∀ c rest, s.intent.drive.queue = c :: rest →
      (s.drc.lockWaits s.ws c = true →
        t.drc.lockPending = some c ∧ t.drc.mode = s.drc.mode ∧ t.intent.drive = s.intent.drive) ∧
      (¬s.drc.lockWaits s.ws c = true →
        t.drc.lockPending = none ∧ t.drc.mode = c ∧ t.intent.drive = { s.intent.drive with queue := rest })) := by
  unfold State.takeDriveCode
  rw [if_pos ((driveTakes_iff _).2 takes)]
  refine ⟨fun empty => ?_, fun c rest head => ?_⟩
  · rw [empty]
    exact ⟨rfl, rfl, rfl⟩
  · rw [head]
    refine ⟨fun waits => ?_, fun free => ?_⟩
    · dsimp only
      rw [if_pos waits]
      exact ⟨rfl, rfl, rfl⟩
    · dsimp only
      rw [if_neg free]
      exact ⟨rfl, rfl, rfl⟩

/-- In the other modes it is not read. -/
theorem State.takeDriveCode_leaves {s : State} (ready : s.mdc.mode ≠ .ready) (run : s.mdc.mode ≠ .run)
    (failsafe : s.mdc.mode ≠ .failsafe) : s.takeDriveCode = s :=
  if_neg fun takes => by simpa [ready, run, failsafe] using (driveTakes_iff _).1 takes

/-! ## Steps 5 to 9 for both axles (R138, R142) -/

section Axles

variable (s : State)

@[simp] theorem State.driveAxles_mdc : s.driveAxles.mdc = s.mdc := by
  simp [State.driveAxles, State.writeAxleWishes]

@[simp] theorem State.driveAxles_axle (i : AxleId) : s.driveAxles.drc.axles.get i = s.updateAxle i := by
  cases i <;> rfl

/-- The flags and the vehicle speed (R142). -/
theorem Drc.judge_flags (d : Drc) (m : VehicleMode) :
    let j := d.judge m
    j.speed = max j.axles.front.speed.natAbs j.axles.rear.speed.natAbs ∧
      (j.braking = true ↔ m = .run ∧ ∃ i, (j.axles.get i).state = .brake ∨ (j.axles.get i).state = .locked) ∧
      (j.reversing = true ↔ ∃ i, ((j.axles.get i).state = .drive ∨ (j.axles.get i).state = .rest) ∧
        (j.axles.get i).effective < 0) := by
  refine ⟨rfl, ?_, ?_⟩ <;> rw [AxleId.exists_iff] <;> simp [Drc.judge, PerAxle.get]

theorem State.driveAxles_drc :
    s.driveAxles.drc = ({ s.drc with axles := PerAxle.ofFn s.updateAxle } : Drc).judge s.mdc.mode := rfl

/-- The wishes of the axles are written, and nothing else of the records (R138). -/
theorem State.driveAxles_records (k : Consumer) : s.driveAxles.cau.records.get k =
    { s.cau.records.get k with
      wish := match k with
        | .driveF => (s.updateAxle .front).wishes
        | .driveR => (s.updateAxle .rear).wishes
        | _ => (s.cau.records.get k).wish } := by
  cases k <;> rfl

theorem State.driveAxles_changes : s.changesOnly s.driveAxles [.cau, .drc] := by
  unfold State.driveAxles State.writeAxleWishes
  exact State.changesOnly_trans (State.changesOnly_mono (State.setDrc_changes _ _) (by simp)) <|
    State.changesOnly_trans (State.changesOnly_mono (State.writeWish_changes _ _ _) (by simp))
      (State.changesOnly_mono (State.writeWish_changes _ _ _) (by simp))

end Axles

end Sys2Proof.Machine
end

section
/-! PROOF. DRIVE_UPDATE settled (O40): the state before step 5, and what the update makes of it. -/
namespace Sys2Proof.Machine

section Ready

variable (s : State) (r : DriveReading)

/-- The state in which step 5 of an update finds the unit. -/
def State.driveReady : State := (s.driveRead r).updateFollow.takeDriveCode

theorem exec_driveUpdate {s : State} (powered : s.powered = true) :
    exec (.driveUpdate r) s = .next (s.driveReady r).driveAxles.holdAutoPark :=
  act_powered powered fun s => (s.driveReady r).driveAxles

/-- What steps 1 and 2 leave. -/
theorem State.driveRead_rest : (s.driveRead r).ws = s.ws ∧ (s.driveRead r).stc = s.stc ∧
    (s.driveRead r).cau = s.cau ∧ (s.driveRead r).intent = s.intent := by
  obtain ⟨-, -, -, same⟩ := s.driveRead_changes r
  exact ⟨same .working (by simp), same .stc (by simp), same .cau (by simp), same .intent (by simp)⟩

/-- What steps 3 and 4 leave. -/
theorem State.driveReady_rest : (s.driveReady r).ws = s.ws ∧ (s.driveReady r).stc = s.stc ∧
    (s.driveReady r).cau = s.cau ∧ (s.driveReady r).mdc = (s.driveRead r).mdc ∧
    (s.driveReady r).intent = { s.intent with drive := (s.driveReady r).intent.drive } := by
  obtain ⟨ws, stc, cau, intent⟩ := s.driveRead_rest r
  obtain ⟨sel, mode, lock, taken⟩ := (s.driveRead r).updateFollow.takeDriveCode_shape
  unfold State.driveReady
  rw [taken]
  exact ⟨ws, stc, cau, rfl, by rw [← intent]; rfl⟩

/-- The axles are as they were read. -/
theorem State.driveReady_axle (i : AxleId) : (s.driveReady r).drc.axles.get i = (s.drc.axles.get i).read s.ws r i := by
  obtain ⟨sel, mode, lock, taken⟩ := (s.driveRead r).updateFollow.takeDriveCode_shape
  have read : (s.driveReady r).drc.axles = (s.driveRead r).drc.axles := by rw [State.driveReady, taken]; rfl
  rw [read, s.driveRead_drc, PerAxle.get_ofFn]

theorem State.driveReady_changes :
    s.changesOnly (s.driveReady r) [.output, .intent, .mode, .timers, .drc, .wnc] := by
  have read : s.changesOnly (s.driveRead r) [.output, .intent, .mode, .timers, .drc, .wnc] :=
    State.changesOnly_mono (s.driveRead_changes r) (by simp)
  have followed : (s.driveRead r).changesOnly (s.driveRead r).updateFollow [.output, .intent, .mode, .timers, .drc, .wnc] :=
    State.changesOnly_mono (State.setDrc_changes _ _) (by simp)
  obtain ⟨sel, mode, lock, taken⟩ := (s.driveRead r).updateFollow.takeDriveCode_shape
  unfold State.driveReady
  rw [taken]
  exact State.changesOnly_trans read <| State.changesOnly_trans followed <| State.changesOnly_trans
    (State.changesOnly_mono (State.setIntent_changes _ _) (by simp))
    (State.changesOnly_mono (State.setDrc_changes _ _) (by simp))

/-- The follow state as step 3 gives it. -/
theorem State.driveReady_follow :
    (s.driveReady r).drc.follow = nextFollow s.drc.follow (s.driveRead r).wnc.state (s.driveRead r).mdc.mode ∧
    (s.driveReady r).drc.assistTarget = if (s.driveReady r).drc.follow = .following then
      assistTargetOf (s.driveRead r).ws (s.driveRead r).wnc.lineSpeed else 0 := by
  obtain ⟨sel, mode, lock, taken⟩ := (s.driveRead r).updateFollow.takeDriveCode_shape
  have follow : (s.driveRead r).drc.follow = s.drc.follow := by rw [s.driveRead_drc]
  unfold State.driveReady
  rw [taken, ← follow]
  exact ⟨rfl, rfl⟩

/-- The follow state is judged by the winch and the mode before the update: a wake on the way changes no row (R140). -/
theorem State.driveReady_follows :
    let t := s.driveReady r
    (s.wnc.state = .assist → s.mdc.mode = .run →
      t.drc.follow = if s.drc.follow = .jamBrake then .none else .following) ∧
    (s.wnc.state = .jammed → t.drc.follow = if s.drc.follow = .none then .none else .jamBrake) ∧
    (¬(s.wnc.state = .assist ∧ s.mdc.mode = .run) → s.wnc.state ≠ .jammed → t.drc.follow = .none) ∧
    t.drc.assistTarget = (if t.drc.follow = .following then
      max 0 (min 3000 ((s.wnc.lineSpeed * s.ws.int Item.assistRatioPct).tdiv 100)) else 0) := by
  obtain ⟨follow, target⟩ := s.driveReady_follow r
  obtain ⟨assists, jams, idles⟩ := nextFollow_cases s.drc.follow (s.driveRead r).wnc.state (s.driveRead r).mdc.mode
  have running : s.mdc.mode = .run → (s.driveRead r).wnc = s.wnc := fun run =>
    (s.driveRead_awake r (by rw [run]; decide)).2
  rw [← follow] at assists jams idles
  refine ⟨fun assist run => ?_, fun jammed => ?_, fun idle free => ?_, ?_⟩
  · exact assists (by rw [running run, assist]) ((s.driveRead_run r).2 run)
  · exact jams ((s.driveRead_jammed r).2 jammed)
  · refine idles (fun both => idle ?_) fun jammed => free ((s.driveRead_jammed r).1 jammed)
    have run := (s.driveRead_run r).1 both.2
    exact ⟨running run ▸ both.1, run⟩
  · rw [target]
    by_cases following : (s.driveReady r).drc.follow = .following
    · have run := (s.driveRead_run r).1 (nextFollow_following (follow.symm.trans following))
      rw [if_pos following, if_pos following, running run, (s.driveRead_rest r).1]
      rfl
    · rw [if_neg following, if_neg following]

/-- The drive mode where the queue is read (R132, R133). -/
theorem State.driveReady_takes (takes : s.mdc.mode = .ready ∨ s.mdc.mode = .run ∨ s.mdc.mode = .failsafe) :
    let t := s.driveReady r
    (s.intent.drive.queue = [] →
      t.drc.lockPending = none ∧ t.drc.mode = s.drc.mode ∧ t.intent.drive = s.intent.drive) ∧
    (∀ c rest, s.intent.drive.queue = c :: rest →
      let waits := ∃ i, c.locks i = true ∧ s.drc.mode.locks i = false ∧
        s.ws.nat Item.lockSpeedMmS < (t.updateAxle i).speed.natAbs
      (waits → t.drc.lockPending = some c ∧ t.drc.mode = s.drc.mode ∧ t.intent.drive = s.intent.drive) ∧
      (¬waits → t.drc.lockPending = none ∧ t.drc.mode = c ∧
        t.intent.drive = { s.intent.drive with queue := rest })) := by
  obtain ⟨ws, -, -, intent⟩ := s.driveRead_rest r
  have awake : (s.driveRead r).updateFollow.mdc = s.mdc :=
    (s.driveRead_awake r (by obtain e | e | e := takes <;> simp [e])).1
  have mode : (s.driveRead r).updateFollow.drc.mode = s.drc.mode := by
    show (s.driveRead r).drc.mode = _
    rw [s.driveRead_drc]
  have taken := State.takeDriveCode_takes (s := (s.driveRead r).updateFollow) (by rwa [awake])
  have waits : ∀ c, (s.driveRead r).updateFollow.drc.lockWaits (s.driveRead r).updateFollow.ws c = true ↔
      ∃ i, c.locks i = true ∧ s.drc.mode.locks i = false ∧
        s.ws.nat Item.lockSpeedMmS < ((s.driveReady r).updateAxle i).speed.natAbs := by
    intro c
    have axle : ∀ i, ((s.driveRead r).updateFollow.drc.axles.get i).speed = ((s.driveReady r).updateAxle i).speed := by
      intro i
      rw [((s.driveReady r).updateAxle_measures i).2.1, s.driveReady_axle]
      show ((s.driveRead r).drc.axles.get i).speed = _
      rw [s.driveRead_drc, PerAxle.get_ofFn]
    have settings : (s.driveRead r).updateFollow.ws = s.ws := ws
    simp only [Drc.lockWaits_iff, mode, settings, axle]
  have queue : (s.driveRead r).updateFollow.intent = s.intent := intent
  simp only [waits, mode, queue] at taken
  exact taken

theorem State.driveReady_leaves (ready : s.mdc.mode ≠ .ready) (run : s.mdc.mode ≠ .run)
    (failsafe : s.mdc.mode ≠ .failsafe) : let t := s.driveReady r
    t.drc.lockPending = s.drc.lockPending ∧ t.drc.mode = s.drc.mode ∧ t.intent.drive = s.intent.drive := by
  have asleep : (s.driveRead r).updateFollow.takeDriveCode = (s.driveRead r).updateFollow :=
    State.takeDriveCode_leaves (s.driveRead_mode r ready (by decide)) (s.driveRead_mode r run (by decide))
      (s.driveRead_mode r failsafe (by decide))
  dsimp only
  rw [State.driveReady, asleep]
  show (s.driveRead r).drc.lockPending = _ ∧ (s.driveRead r).drc.mode = _ ∧ (s.driveRead r).intent.drive = _
  rw [s.driveRead_drc, (s.driveRead_rest r).2.2.2]
  exact ⟨rfl, rfl, rfl⟩

/-! ## The axles of the update -/

/-- What an axle measured, and its ceiling (R129, R130, R137). -/
theorem State.driveReady_measures (i : AxleId) :
    let b := (s.driveReady r).updateAxle i
    b.counts = r.counts.get i ∧
      b.speed = max (-3000) (min 3000 ((r.counts.get i * 50000).tdiv (s.ws.int Item.countsPerM))) ∧
      b.current = min 50000 (r.currents.get i) ∧
      b.ceiling = ceilingAfter (s.drc.axles.get i).ceiling b.current (s.grant (axleConsumer i)) := by
  obtain ⟨counts, speed, current, ceiling⟩ := (s.driveReady r).updateAxle_measures i
  obtain ⟨-, -, cau, -, -⟩ := s.driveReady_rest r
  have grant : (s.driveReady r).grant (axleConsumer i) = s.grant (axleConsumer i) := by
    unfold State.grant
    rw [cau]
  rw [← current, grant] at ceiling
  rw [s.driveReady_axle r i] at counts speed current ceiling
  exact ⟨counts, speed, current, ceiling⟩

/-- An axle in RUN as R131's table gives it. -/
theorem State.driveReady_runs (run : s.mdc.mode = .run) (i : AxleId) :
    let u := s.driveReady r
    let a := s.drc.axles.get i
    let b := u.updateAxle i
    let target := if u.drc.follow = .following then 0 else shaped s.ws s.intent.axes.throttle
    let d := if u.drc.follow = .following then
        followDrive s.ws s.stc.machine a.ramped a.ceiling (a.restMs - 20) b.speed u.drc.assistTarget
      else throttleDrive s.ws s.stc.machine a.ramped (a.restMs - 20) target
    if s.stc.machine = .search then b.heldAs .brake 100
    else if u.drc.mode.locks i = true then b.heldAs .locked 100
    else if u.drc.mode = .rearOnly ∧ i = .front then b.heldAs .coast 0
    else if u.drc.follow = .jamBrake then b.heldAs .brake 100
    else a.updatedBy b s.ws d target := by
  obtain ⟨ws, stc, -, mdc, intent⟩ := s.driveReady_rest r
  obtain ⟨-, speed, -, -⟩ := (s.driveReady r).updateAxle_measures i
  have axes : (s.driveReady r).intent.axes = s.intent.axes := by rw [intent]
  have runs := (s.driveReady r).updateAxle_runs i (by rw [mdc]; exact (s.driveRead_run r).2 run)
  dsimp only at runs ⊢
  rw [State.axleDrive, State.axleTarget, ← speed, s.driveReady_axle r i, ws, stc, axes] at runs
  exact runs

/-- Rest timer, effective duty, limit count and surge wish of an axle (R137 to R139). -/
theorem State.driveReady_duty (i : AxleId) :
    let a := s.drc.axles.get i
    let b := (s.driveReady r).updateAxle i
    let drives := b.state = .drive ∨ b.state = .rest
    (b.restMs = a.restMs - 20 ∨ b.restMs = 2000 ∧ b.state = .rest) ∧
      (drives → b.effective = max (-(b.ceiling : Int)) (min b.ceiling b.ramped)) ∧ (¬drives → b.effective = 0) ∧
      (b.state = .drive → s.grant (axleConsumer i) < b.current ∨ b.ceiling < b.ramped.natAbs →
        b.limitCount = min 2 (a.limitCount + 1)) ∧
      (¬(b.state = .drive ∧ (s.grant (axleConsumer i) < b.current ∨ b.ceiling < b.ramped.natAbs)) →
        b.limitCount = 0) ∧
      (((s.driveReady r).driveAxles.cau.records.get (axleConsumer i)).wish = true ↔
        b.state = .drive ∧ b.limitCount = 2) := by
  obtain ⟨-, -, cau, -, -⟩ := s.driveReady_rest r
  have grant : (s.driveReady r).grant (axleConsumer i) = s.grant (axleConsumer i) := by
    unfold State.grant
    rw [cau]
  have wish : ((s.driveReady r).driveAxles.cau.records.get (axleConsumer i)).wish =
      ((s.driveReady r).updateAxle i).wishes := by
    rw [State.driveAxles_records]
    cases i <;> rfl
  obtain ⟨rest, moving, still, active, quiet⟩ := (s.driveReady r).updateAxle_duty i
  rw [grant, s.driveReady_axle r i] at active
  rw [grant] at quiet
  rw [s.driveReady_axle r i] at rest
  exact ⟨rest, moving, still, active, quiet, by rw [wish, Axle.wishes]; simp⟩

end Ready

/-- Settles O40, step by step. -/
theorem driveUpdateReadsAndHolds : Obligations.DriveUpdateReadsAndHolds := by
  intro s r powered
  refine ⟨_, exec_driveUpdate r powered, ?_⟩
  obtain ⟨-, -, cau, mdc, intent⟩ := s.driveReady_rest r
  obtain ⟨follows, jams, idles, target⟩ := s.driveReady_follows r
  obtain ⟨speed, braking, reversing⟩ := Drc.judge_flags
    ({ (s.driveReady r).drc with axles := PerAxle.ofFn (s.driveReady r).updateAxle } : Drc) (s.driveReady r).mdc.mode
  rw [← State.driveAxles_drc] at speed braking reversing
  have changed : s.changesOnly (s.driveReady r).driveAxles [.output, .intent, .mode, .timers, .cau, .drc, .wnc] :=
    State.changesOnly_trans (State.changesOnly_mono (s.driveReady_changes r) (by simp))
      (State.changesOnly_mono (s.driveReady r).driveAxles_changes (by simp))
  simp only [State.holdAutoPark_drc, State.holdAutoPark_cau, State.holdAutoPark_intent, State.holdAutoPark_mdc_mode,
    State.holdAutoPark_mdc_wakeSet, State.holdAutoPark_mdc_wakeFirst, State.holdAutoPark_mdc_motionCount,
    State.driveAxles_axle, State.driveAxles_mdc]
  rw [mdc, s.driveRead_run r] at braking
  simp only [State.driveAxles_axle] at braking reversing
  refine ⟨fun i => ?measures, speed, follows, jams, idles, target, s.driveReady_takes r, s.driveReady_leaves r,
    fun starting i => ?coasts, fun start loading check run i => ?brakes, fun run i => ?runs, fun i => ?duty,
    braking, reversing, fun parked => ?parked, fun awake => ?awake, fun k => ?records, fun k front rear => ?others,
    State.changesOnly_parked changed (by simp), ?_, ?_, ?_, ?_⟩
  case measures => exact s.driveReady_measures r i
  case coasts =>
    refine (s.driveReady r).updateAxle_coasts i ?_
    have awake : s.mdc.mode ≠ .park := by obtain e | e | e := starting <;> simp [e]
    rwa [mdc, (s.driveRead_awake r awake).1]
  case brakes =>
    exact (s.driveReady r).updateAxle_brakes i (mdc ▸ s.driveRead_mode r start (by decide))
      (mdc ▸ s.driveRead_mode r loading (by decide)) (mdc ▸ s.driveRead_mode r check (by decide))
      (mdc ▸ s.driveRead_mode r run (by decide))
  case runs => exact s.driveReady_runs r run i
  case duty => exact s.driveReady_duty r i
  case parked =>
    have woken := s.driveRead_parked r parked
    dsimp only at woken
    rw [← mdc] at woken
    exact woken
  case awake =>
    rw [State.holdAutoPark_mdc, State.driveAxles_mdc, mdc, (s.driveRead_awake r awake).1]
  case records => rw [State.driveAxles_records, cau]
  case others =>
    rw [State.driveAxles_records, cau]
    cases k
    case driveF => exact absurd rfl front
    case driveR => exact absurd rfl rear
    all_goals rfl
  all_goals
    rw [(s.driveReady r).driveAxles_rest.1, intent]

end Sys2Proof.Machine
end

section
/-! PROOF. The Pack Monitor's energy reset (R52), and the level at a sample and at its own events (R57 to R59, R63, R64):
the rise rule, the fall rule, the PACK notice, and what a change of the level brings while PACK_CHECK goes on. -/
namespace Sys2Proof.Machine

/-! ## RESET_ENERGY (R52) -/

/-- Settles O27: the owner empties the counter and answers. -/
theorem resetEnergyZeroesTheCounter : Obligations.ResetEnergyZeroesTheCounter := by
  intro s tag serving
  let q : RawRequest := ⟨0x12, tag, []⟩
  let emptied : State := s.admitted.setPkm { s.pkm with usedMah := 0, residue := 0 }
  have acts : exec (.resetEnergy tag) s = .next (emptied.ok q []).holdAutoPark :=
    exec_serving (q := q) serving rfl rfl rfl (r := .resetEnergy) rfl
  have changed : s.changesOnly (emptied.ok q []) [.queue, .output, .pkm] :=
    State.changesOnly_trans (State.changesOnly_mono s.admitted_changes (by simp)) <|
      State.changesOnly_trans (State.changesOnly_mono (State.setPkm_changes _ _) (by simp))
        (State.changesOnly_mono (State.answer_changes _ _ _) (by simp))
  refine ⟨_, acts, State.holdAutoPark_pkm _, ?_, State.changesOnly_held changed rfl⟩
  unfold State.sent
  rw [State.holdAutoPark_link]
  exact State.ok_sent emptied q []

/-! ## The rise rule (R57) -/

/-- A level above NORMAL is the highest because a confirmed condition holds it. -/
theorem highestLevel_held {t : PerCond Bool} (above : highestLevel t ≠ .normal) :
    ∃ k, t.get k = true ∧ conditionLevel k = highestLevel t := by
  unfold highestLevel at above ⊢
  split_ifs at above ⊢ with cutoff limit caution
  · obtain low | high := Bool.or_eq_true_iff.mp cutoff
    · exact ⟨.uvCutoff, low, rfl⟩
    · exact ⟨.overvolt, high, rfl⟩
  · simp only [Bool.or_eq_true] at limit
    obtain (low | hot) | current := limit
    · exact ⟨.uvLimit, low, rfl⟩
    · exact ⟨.overtemp, hot, rfl⟩
    · exact ⟨.overcurrent, current, rfl⟩
  · simp only [Bool.or_eq_true] at caution
    obtain (low | apart) | spent := caution
    · exact ⟨.uvCaution, low, rfl⟩
    · exact ⟨.imbalance, apart, rfl⟩
    · exact ⟨.reserve, spent, rfl⟩
  · exact absurd rfl above

/-- Every condition is in the list of them, which goes up in code. -/
theorem mem_conditions (k : Condition) : k ∈ conditions := by cases k <;> decide

theorem conditions_ascend : conditions.Pairwise fun a b => conditionCode a < conditionCode b := by decide

/-- The cause of a rise is confirmed, holds the level, and has the lowest code of those that do. -/
theorem riseCause_lowest {t : PerCond Bool} {level : Level} {k : Condition} (cause : riseCause t level = some k) :
    t.get k = true ∧ conditionLevel k = level ∧
      ∀ i, t.get i = true → conditionLevel i = level → conditionCode k ≤ conditionCode i := by
  obtain ⟨found, before, after, parts, unfit⟩ := List.find?_eq_some_iff_append.mp cause
  simp only [Bool.and_eq_true, decide_eq_true_eq] at found
  refine ⟨found.1, found.2, fun i confirmed holds => ?_⟩
  have ascend := conditions_ascend
  have mem := mem_conditions i
  rw [parts] at ascend mem
  obtain ⟨-, tail, -⟩ := List.pairwise_append.mp ascend
  rw [List.mem_append, List.mem_cons] at mem
  obtain early | rfl | late := mem
  · exact absurd (unfit i early) (by simp [confirmed, holds])
  · exact le_rfl
  · exact (List.rel_of_pairwise_cons tail late).le

/-- A confirmed condition that holds a level above NORMAL gives its rise a cause. -/
theorem riseCause_highest {t : PerCond Bool} (above : highestLevel t ≠ .normal) :
    ∃ k, riseCause t (highestLevel t) = some k := by
  obtain ⟨k, confirmed, holds⟩ := highestLevel_held above
  refine Option.isSome_iff_exists.mp (List.find?_isSome.mpr ⟨k, mem_conditions k, ?_⟩)
  simp [confirmed, holds]

/-- With a cause, a level above the present one is risen to. -/
theorem State.rise_to {s : State} {level : Level} {k : Condition} (high : highestLevel s.pkm.confirmed = level)
    (above : s.pkm.level.code < level.code) (cause : riseCause s.pkm.confirmed level = some k) :
    s.rise = some (s.setLevel level (.condition k)) := by
  unfold State.rise
  dsimp only
  rw [high, if_pos above, cause]
  rfl

section Rises
variable {s : State} (r : Sample)

/-- With a higher level confirmed, step 4 of a sample raises the level to it. -/
theorem State.settleLevel_rises (above : s.pkm.level.code < (highestLevel s.pkm.confirmed).code) :
    ∃ k, riseCause s.pkm.confirmed (highestLevel s.pkm.confirmed) = some k ∧
      s.settleLevel r = s.setLevel (highestLevel s.pkm.confirmed) (.condition k) := by
  have normal : highestLevel s.pkm.confirmed ≠ .normal := fun e => by
    rw [e] at above
    exact absurd above (Nat.not_lt_zero _)
  obtain ⟨k, cause⟩ := riseCause_highest normal
  exact ⟨k, cause, by rw [State.settleLevel, State.rise_to rfl above cause]⟩

end Rises

/-! ## The fall rule (R58, R59) -/

/-- From `s` to PKM's state `p` the fall rule acted, given whether a condition holds the present level: at NORMAL and CUTOFF
and while it is held nothing is counted, a clear sample before the 200th is, and the 200th takes the level one step down. -/
def State.recoversTo (s : State) (held : Prop) (p : Pkm) : Prop :=
  ((s.pkm.level = .normal ∨ s.pkm.level = .cutoff ∨ held) → p.level = s.pkm.level ∧
    p.recovery = 0 ∧ p.lastCause = s.pkm.lastCause) ∧
  ((s.pkm.level = .caution ∨ s.pkm.level = .limit) → ¬held → s.pkm.recovery < 199 →
    p.level = s.pkm.level ∧ p.recovery = s.pkm.recovery + 1 ∧ p.lastCause = s.pkm.lastCause) ∧
  ((s.pkm.level = .caution ∨ s.pkm.level = .limit) → ¬held → 199 ≤ s.pkm.recovery →
    p.level = (if s.pkm.level = .limit then .caution else .normal) ∧ p.recovery = 0 ∧
    p.lastCause = some .recovered)

section Falls
variable {s : State} (r : Sample)

/-- With none confirmed above it, the level is left to the fall rule. -/
theorem State.settleLevel_falls (high : (highestLevel s.pkm.confirmed).code ≤ s.pkm.level.code) :
    s.settleLevel r = s.fall r := by
  have stays : s.rise = none := if_neg (Nat.not_lt.mpr high)
  rw [State.settleLevel, stays]

/-- A condition that holds the present level is present for recovery. -/
theorem State.levelHeld_iff (c : Cau) : s.levelHeld r c = true ↔
    ∃ j, conditionLevel j = s.pkm.level ∧ presentForRecovery s.ws c s.pkm.usedMah r j = true := by
  simp [State.levelHeld, mem_conditions]

/-- At NORMAL and CUTOFF, and while the level is held, the recovery count is 0. -/
theorem State.fall_held (stays : s.pkm.level = .normal ∨ s.pkm.level = .cutoff ∨ s.levelHeld r s.cau = true) :
    s.fall r = s.setPkm { s.pkm with recovery := 0 } := by
  unfold State.fall
  split
  · rename_i between
    have held : s.levelHeld r s.cau = true := by
      obtain normal | cutoff | held := stays
      · simp [normal] at between
      · simp [cutoff] at between
      · exact held
    exact if_pos held
  · rfl

/-- PKM's state after a step down (R59). -/
theorem State.stepDown_pkm (between : s.pkm.level = .caution ∨ s.pkm.level = .limit) :
    s.stepDown.pkm = { s.pkm with
      level := if s.pkm.level = .limit then .caution else .normal, recovery := 0, lastCause := some .recovered } := by
  rw [State.stepDown, State.setLevel_pkm]
  obtain level | level := between <;> rw [level] <;> rfl

/-- A clear sample before the 200th is counted. -/
theorem State.fall_counts (between : s.pkm.level = .caution ∨ s.pkm.level = .limit) (clear : ¬s.levelHeld r s.cau = true)
    (early : s.pkm.recovery < 199) : s.fall r = s.setPkm { s.pkm with recovery := s.pkm.recovery + 1 } := by
  unfold State.fall
  rw [if_pos between, if_neg clear, if_neg (by omega)]

/-- The 200th clear sample in a row takes the level down. -/
theorem State.fall_steps (between : s.pkm.level = .caution ∨ s.pkm.level = .limit) (clear : ¬s.levelHeld r s.cau = true)
    (due : 199 ≤ s.pkm.recovery) : s.fall r = s.stepDown := by
  unfold State.fall
  rw [if_pos between, if_neg clear, if_pos (by omega)]

/-- PKM after the fall rule: the level held, a clear sample counted, or the level one step lower. -/
theorem State.fall_recovers : s.recoversTo (s.levelHeld r s.cau = true) (s.fall r).pkm := by
  refine ⟨fun stays => ?held, fun between clear early => ?counts, fun between clear due => ?steps⟩
  case held => rw [State.fall_held r stays]; exact ⟨rfl, rfl, rfl⟩
  case counts => rw [State.fall_counts r between clear early]; exact ⟨rfl, rfl, rfl⟩
  case steps => rw [State.fall_steps r between clear due, State.stepDown_pkm between]; exact ⟨rfl, rfl, rfl⟩

/-- Step 4 of a sample leaves the level, or is a change of the level (R63). -/
theorem State.settleLevel_sets : (s.settleLevel r).pkm.level = s.pkm.level ∨
    ∃ new cause, s.settleLevel r = s.setLevel new cause := by
  by_cases high : (highestLevel s.pkm.confirmed).code ≤ s.pkm.level.code
  · rw [State.settleLevel_falls r high]
    by_cases between : s.pkm.level = .caution ∨ s.pkm.level = .limit
    · by_cases held : s.levelHeld r s.cau = true
      · exact .inl (by rw [State.fall_held r (.inr (.inr held))]; rfl)
      · by_cases due : 199 ≤ s.pkm.recovery
        · exact .inr ⟨_, _, State.fall_steps r between held due⟩
        · exact .inl (by rw [State.fall_counts r between held (by omega)]; rfl)
    · have outer : s.pkm.level = .normal ∨ s.pkm.level = .cutoff := by cases h : s.pkm.level <;> simp_all
      exact .inl (by rw [State.fall_held r (outer.imp_right .inl)]; rfl)
  · obtain ⟨k, -, rises⟩ := State.settleLevel_rises r (Nat.lt_of_not_le high)
    exact .inr ⟨_, _, rises⟩

end Falls

/-! ## The PACK notice of a change of the level (R64) -/

/-- An abandoned write leaves a raised notice of another kind. -/
theorem State.noticed_abandonWrite {s : State} {n : Notice} (other : n.kind ≠ .store) (told : s.noticed n) :
    s.abandonWrite.noticed n := by
  unfold State.abandonWrite
  split
  · exact State.noticed_raise other (State.noticed_of_link rfl told)
  · exact told

/-- A change of the level raises its PACK notice. -/
theorem State.setLevel_noticed {s : State} (new : Level) (cause : LevelCause) (inMask : s.ws.notices .pack = true) :
    (s.setLevel new cause).noticed (.pack ⟨s.pkm.level, new, cause, s.pkm.usedMah⟩) := by
  have raised : (s.enterLevel new cause).recomputeCau.noticed (.pack ⟨s.pkm.level, new, cause, s.pkm.usedMah⟩) :=
    State.noticed_of_link (State.recomputeCau_link _)
      (State.raise_noticed (s.setPkm _) (n := .pack ⟨s.pkm.level, new, cause, s.pkm.usedMah⟩) inMask)
  have entered : (s.levelEntered new cause).noticed (.pack ⟨s.pkm.level, new, cause, s.pkm.usedMah⟩) := by
    unfold State.levelEntered
    dsimp only
    split
    · exact State.noticed_abandonWrite (by simp [Notice.kind]) raised
    · exact raised
  rw [State.setLevel_eq, State.modeOnLevel_eq]
  exact State.noticed_setMode _ (by simp [Notice.kind]) (by simp [Notice.kind]) (State.noticed_of_link rfl entered)

/-- MDC's count of a sample leaves a raised PACK notice. -/
theorem State.noticed_countSample {s : State} {n : Notice} (pack : n.kind = .pack) (told : s.noticed n) :
    s.countSample.noticed n := by
  have counted : s.counted.noticed n := State.noticed_of_link (by unfold State.counted; split <;> rfl) told
  rw [State.countSample_eq]
  split
  · exact State.noticed_setMode _ (by rw [pack]; decide) (by rw [pack]; decide) counted
  · exact counted

/-! ## What a change of the level brings, the sample counted (R32, R63) -/

/-- A change of the level neither enters nor leaves PACK_CHECK (R44, R47). -/
theorem State.followsLevel_stage {s t : State} (h : s.followsLevel t) :
    t.mdc.mode = .packCheck ↔ s.mdc.mode = .packCheck := by
  obtain ⟨mdc, -⟩ := h
  rw [mdc]
  dsimp only
  split_ifs with ends wakes
  · obtain ⟨-, e | e | e | e | e⟩ := ends <;> simp [e]
  · simp [wakes.2.1]
  · rfl

/-- The auto-park timer is held at 0 or not, whatever the count in PACK_CHECK. -/
theorem State.counted_holdAutoPark (s : State) : s.counted.holdAutoPark = s.holdAutoPark.counted := by
  by_cases stage : s.mdc.mode = .packCheck
  · have idle : ¬s.autoParkRuns = true := fun runs => by
      rw [State.autoParkRuns_run runs] at stage
      cases stage
    have held : s.holdAutoPark = s.setMdc { s.mdc with autoParkMs := 0 } := if_neg idle
    rw [State.counted, if_pos stage, held, State.counted, if_pos (by exact stage)]
    exact if_neg idle
  · rw [State.counted, if_neg stage, State.counted, if_neg (by rwa [State.holdAutoPark_mdc_mode])]

/-- What a change of the level brings is brought as well where the sample is counted before and after it. -/
theorem State.followsLevel_counted {s t : State} (h : s.followsLevel t) : s.counted.followsLevel t.counted := by
  by_cases stage : s.mdc.mode = .packCheck
  · have staged := (State.followsLevel_stage h).mpr stage
    obtain ⟨mdc, hello, cau, before, ends, store, mode, pending, powered, lock, rest⟩ := h
    rw [State.counted, State.counted, if_pos stage, if_pos staged]
    refine ⟨congrArg (fun d : Mdc => { d with packCheckCount := d.packCheckCount + 1 }) mdc, hello, cau, before, ends,
      store, mode, pending, powered, lock, fun part outside => ?_⟩
    have same := rest part outside
    cases part
    case timers => simp at outside
    all_goals exact same
  · have elsewhere : ¬t.mdc.mode = .packCheck := fun staged => stage ((State.followsLevel_stage h).mp staged)
    rwa [State.counted, State.counted, if_neg stage, if_neg elsewhere]

/-! ## PACK_SAMPLE: the level (R57 to R59) -/

/-- The state after steps 1 to 3 of a sample (R49). -/
def State.observed (s : State) (r : PackReading) : State :=
  s.setPkm (s.pkm.observe s.ws s.cau (samplePeriod s.mdc.mode) r)

section Observed
variable (s : State) (r : PackReading)

theorem State.sampled_eq : s.sampled r = (s.observed r).settleLevel (sampleOf s.ws r) := rfl

/-- Steps 1 to 3 leave the level, the recovery count and the last cause. -/
theorem State.observed_level : (s.observed r).pkm.level = s.pkm.level ∧ (s.observed r).pkm.recovery = s.pkm.recovery ∧
    (s.observed r).pkm.lastCause = s.pkm.lastCause := by
  rw [State.observed, State.setPkm_pkm, Pkm.observe, Pkm.addCharge]
  dsimp only
  split <;> exact ⟨rfl, rfl, rfl⟩

/-- PKM after a sample is as step 4 leaves it: with the marks and the used mAh of steps 1 to 3. -/
theorem State.afterSample_settled :
    (s.afterSample r).pkm = ((s.observed r).settleLevel (sampleOf s.ws r)).pkm ∧
      (s.afterSample r).pkm.confirmed = (s.observed r).pkm.confirmed ∧
      (s.afterSample r).pkm.usedMah = (s.observed r).pkm.usedMah := by
  have whole : (s.afterSample r).pkm = ((s.observed r).settleLevel (sampleOf s.ws r)).pkm :=
    (State.holdAutoPark_pkm _).trans (State.countSample_rest _).2
  have settled := (s.observed r).settleLevel_pkm (sampleOf s.ws r)
  rw [whole]
  exact ⟨rfl, by rw [settled], by rw [settled]⟩

end Observed

section Levels
variable {s : State} (r : PackReading)

/-- A sample that confirms a higher level raises the level to it, by the lowest code (R57). -/
theorem State.afterSample_rises
    (above : s.pkm.level.code < (highestLevel (s.afterSample r).pkm.confirmed).code) :
    let t := s.afterSample r
    t.pkm.level = highestLevel t.pkm.confirmed ∧ t.pkm.recovery = 0 ∧
      ∃ j, t.pkm.lastCause = some (.condition j) ∧ riseCause t.pkm.confirmed (highestLevel t.pkm.confirmed) = some j := by
  obtain ⟨whole, confirmed, -⟩ := s.afterSample_settled r
  rw [confirmed, ← (s.observed_level r).1] at above
  obtain ⟨j, cause, rises⟩ := State.settleLevel_rises (sampleOf s.ws r) above
  rw [rises, State.setLevel_pkm] at whole
  dsimp only
  rw [whole]
  exact ⟨rfl, rfl, j, rfl, cause⟩

/-- A sample that confirms no higher level leaves PKM to the fall rule (R59). -/
theorem State.afterSample_falls
    (high : (highestLevel (s.afterSample r).pkm.confirmed).code ≤ s.pkm.level.code) :
    (s.afterSample r).pkm = ((s.observed r).fall (sampleOf s.ws r)).pkm := by
  obtain ⟨whole, confirmed, -⟩ := s.afterSample_settled r
  rw [confirmed, ← (s.observed_level r).1] at high
  rw [whole, State.settleLevel_falls _ high]

/-- The fall rule at a sample: the level is held by what is present for recovery with this sample's used mAh. -/
theorem State.afterSample_recovers
    (high : (highestLevel (s.afterSample r).pkm.confirmed).code ≤ s.pkm.level.code) :
    s.recoversTo (∃ j, conditionLevel j = s.pkm.level ∧
      presentForRecovery s.ws s.cau (s.afterSample r).pkm.usedMah (sampleOf s.ws r) j = true) (s.afterSample r).pkm := by
  have recovers := State.fall_recovers (s := s.observed r) (sampleOf s.ws r)
  obtain ⟨level, recovery, last⟩ := s.observed_level r
  rw [State.levelHeld_iff, State.recoversTo, ← State.afterSample_falls r high, level, recovery, last,
    ← (s.afterSample_settled r).2.2] at recovers
  exact recovers

/-- A sample that changes the level raises its PACK notice (R64). -/
theorem State.afterSample_noticed (changed : (s.afterSample r).pkm.level ≠ s.pkm.level)
    (inMask : s.ws.notices .pack = true) :
    let t := s.afterSample r
    ∃ why, t.pkm.lastCause = some why ∧ t.noticed (.pack ⟨s.pkm.level, t.pkm.level, why, t.pkm.usedMah⟩) := by
  obtain ⟨whole, -, used⟩ := s.afterSample_settled r
  have level := (s.observed_level r).1
  obtain stands | ⟨new, cause, sets⟩ := (s.observed r).settleLevel_sets (sampleOf s.ws r)
  · exact absurd ((congrArg Pkm.level whole).trans (stands.trans level)) changed
  · have told := (s.observed r).setLevel_noticed new cause inMask
    have after : (s.afterSample r).noticed (.pack ⟨s.pkm.level, new, cause, (s.observed r).pkm.usedMah⟩) := by
      rw [← sets, ← s.sampled_eq r, level] at told
      exact State.noticed_of_link (State.holdAutoPark_link _) (State.noticed_countSample rfl told)
    rw [sets, State.setLevel_pkm] at whole
    refine ⟨cause, by rw [whole], ?_⟩
    rw [used, whole]
    exact after

/-- Where PACK_CHECK does not end at a sample, the sample is steps 1 to 4 and its count (R32). -/
theorem State.afterSample_goesOn (goesOn : ¬s.stageEnds) (moved : s.followsLevel (s.sampled r).holdAutoPark) :
    s.afterSample r = (s.sampled r).holdAutoPark.counted := by
  have unended : ¬((s.sampled r).mdc.mode = .packCheck ∧
      (s.sampled r).ws.nat Item.confirmSamples ≤ (s.sampled r).mdc.packCheckCount + 1) := by
    rintro ⟨stage, due⟩
    rw [← State.holdAutoPark_mdc_mode, State.followsLevel_stage moved] at stage
    have sampled := State.sampled_stage stage r
    rw [sampled.ws, sampled.count] at due
    exact goesOn ⟨stage, due⟩
  unfold State.afterSample
  rw [State.countSample_eq, if_neg unended, State.counted_holdAutoPark]

/-- What a change of the level brings at a sample that does not end PACK_CHECK (R63). -/
theorem State.afterSample_followsLevel (changed : (s.afterSample r).pkm.level ≠ s.pkm.level) (goesOn : ¬s.stageEnds) :
    s.counted.followsLevel (s.afterSample r) := by
  rw [State.afterSample_level] at changed
  obtain ⟨p, level, stands⟩ | ⟨-, moved⟩ := s.sampled_cases r
  · exact absurd (by rw [stands]; exact level) changed
  · rw [State.afterSample_goesOn r goesOn moved]
    exact State.followsLevel_counted moved

end Levels

/-! ## LEVEL_RISE and LEVEL_STEP_DOWN (R57, R59; log 6) -/

/-- A condition one sample short of its figure and alone confirmed: PKM with its count and its mark. -/
theorem Pkm.reach_single {p : Pkm} {w : WorkingSet} {k : Condition} (counted : k ≠ .reserve) (fit : p.level ≠ .cutoff)
    (none_confirmed : ∀ j, p.confirmed.get j = false) (due : confirmFigure w k ≤ p.counts.get k + 1) :
    ∃ counts, p.reach w false k =
      some { p with counts := counts, confirmed := PerCond.ofFn fun j => decide (j = k) } := by
  have tested : (!frozen false k && !untested p.level k && decide (confirmFigure w k ≤ p.counts.get k + 1)) = true := by
    simp [Bool.eq_false_iff, frozen_iff, untested_iff, fit, due]
  unfold Pkm.reach
  dsimp only
  rw [if_neg counted, if_pos tested]
  exact ⟨_, by simp only [none_confirmed, Bool.false_or]; rfl⟩

/-- LEVEL_RISE is the change of the level from PKM with the condition confirmed. -/
theorem exec_levelRise_sets {s : State} {k : Condition} (powered : s.powered = true)
    (samples : sampling s.mdc.mode = true) (counted : k ≠ .reserve) (free : s.cau.holder = none)
    (fit : s.pkm.level ≠ .cutoff) (none_confirmed : ∀ j, s.pkm.confirmed.get j = false)
    (due : confirmFigure s.ws k ≤ s.pkm.counts.get k + 1) (above : s.pkm.level.code < (conditionLevel k).code) :
    ∃ counts confirmed, exec (.levelRise k) s =
      .next ((s.setPkm { s.pkm with counts := counts, confirmed := confirmed }).setLevel (conditionLevel k)
        (.condition k)).holdAutoPark := by
  have acts : exec (.levelRise k) s = act s fun s =>
      if sampling s.mdc.mode then
        match s.pkm.reach s.ws s.cau.holder.isSome k with
        | some p => ((s.setPkm p).rise).getD s
        | none => s
      else s := rfl
  obtain ⟨counts, reaches⟩ := Pkm.reach_single counted fit none_confirmed due
  obtain ⟨high, cause⟩ := highestLevel_single k
  refine ⟨counts, PerCond.ofFn fun j => decide (j = k), ?_⟩
  rw [act_powered powered, if_pos samples, free, Option.isSome_none, reaches] at acts
  have rises := State.rise_to (s := s.setPkm { s.pkm with
    counts := counts, confirmed := PerCond.ofFn fun j => decide (j = k) }) high above cause
  dsimp only at acts
  rwa [rises, Option.getD_some] at acts

/-- A change of the level that is no rise to CUTOFF leaves the axles and the Settings Store (R47, R181). -/
theorem State.followsLevel_fit {s t : State} (h : s.followsLevel t) (fit : t.pkm.level ≠ .cutoff) :
    s.changesOnly t [.output, .timers, .pkm, .cau, .mode, .wnc] := by
  obtain ⟨mdc, -, -, -, -, ⟨store, -⟩, ⟨axles, -⟩, frame⟩ := h
  refine State.changesOnly_of_stands frame fun part _ outside => ?_
  cases part
  case drc =>
    refine axles.trans (if_neg ?_)
    rintro ⟨run, leaves⟩
    rw [mdc] at leaves
    simp [fit, run] at leaves
  case store => unfold State.sameIn; rw [store, if_neg fun cuts => fit cuts.1]
  all_goals simp_all

/-- Settles O29: a sample by the rise and the fall rule, LEVEL_RISE and LEVEL_STEP_DOWN each as one change of the level. -/
theorem levelRisesAtOnceAndFallsOneStep : Obligations.LevelRisesAtOnceAndFallsOneStep := by
  intro s k powered samples
  refine ⟨fun r => ?sample, fun counted free fit none_confirmed due above => ?rise, fun between due => ?fall⟩
  case sample =>
    refine ⟨s.afterSample r, exec_packSample powered samples r, fun above => ?_, State.afterSample_noticed r,
      State.afterSample_followsLevel r, State.afterSample_recovers r⟩
    obtain ⟨level, recovery, j, last, cause⟩ := State.afterSample_rises r above
    exact ⟨level, recovery, j, last, riseCause_lowest cause⟩
  case rise =>
    obtain ⟨counts, confirmed, acts⟩ :=
      exec_levelRise_sets powered samples counted free fit none_confirmed due above
    have follows := State.setLevel_followed (s.setPkm { s.pkm with counts := counts, confirmed := confirmed })
      (conditionLevel k) (.condition k)
    have told := State.setLevel_noticed (s := s.setPkm { s.pkm with counts := counts, confirmed := confirmed })
      (conditionLevel k) (.condition k)
    have pkm := State.setLevel_pkm (s.setPkm { s.pkm with counts := counts, confirmed := confirmed })
      (conditionLevel k) (.condition k)
    rw [← State.holdAutoPark_pkm] at pkm
    replace follows := State.followsLevel_of_setPkm follows
    have inform := fun inMask => State.noticed_of_link (State.holdAutoPark_link _) (told inMask)
    generalize ((s.setPkm { s.pkm with counts := counts, confirmed := confirmed }).setLevel (conditionLevel k)
      (.condition k)).holdAutoPark = t at *
    have level : t.pkm.level = conditionLevel k := by rw [pkm]
    refine ⟨t, acts, level, by rw [pkm], by rw [pkm], by rw [pkm]; rfl, by rw [pkm]; rfl, inform, ?_, ?_, ?_, follows⟩
    all_goals obtain ⟨mdc, -, cau, -, -, ⟨store, -⟩, -, -, -, -, same⟩ := follows
    · intro done
      have ws : t.ws = s.ws := same .working (by simp)
      obtain ⟨-, budget, -⟩ := (cau done).2 done
      rw [budget, ws, State.setPkm_pkm, level]
    · intro cut run
      rw [mdc]
      simp [level, cut, run]
    · intro cut writing
      rw [store, if_pos ⟨level.trans cut, writing⟩]
      exact ⟨rfl, rfl⟩
  case fall =>
    have acts : exec .levelStepDown s = act s fun s =>
        if (s.pkm.level = .caution ∨ s.pkm.level = .limit) ∧ 200 ≤ s.pkm.recovery + 1 then s.stepDown else s := rfl
    rw [act_powered powered, if_pos ⟨between, by omega⟩] at acts
    have pkm := (State.holdAutoPark_pkm s.stepDown).trans (State.stepDown_pkm between)
    have follows : s.followsLevel s.stepDown.holdAutoPark := State.setLevel_followed _ _ _
    have fit : s.stepDown.holdAutoPark.pkm.level ≠ .cutoff := by
      rw [pkm]
      obtain level | level := between <;> simp [level]
    refine ⟨_, acts, pkm, fun inMask => ?_, follows, State.followsLevel_fit follows fit⟩
    have told := State.setLevel_noticed s.pkm.level.below .recovered inMask
    have level : s.stepDown.holdAutoPark.pkm.level = s.pkm.level.below := by
      rw [State.holdAutoPark_pkm, State.stepDown, State.setLevel_pkm]
    rw [level]
    exact State.noticed_of_link (State.holdAutoPark_link _) told

end Sys2Proof.Machine
end

section
/-! PROOF. The scaled bases (R71, R72): what one pass over the consumers takes, and what the two passes leave. -/
namespace Sys2Proof.Machine

/-! ## One value per consumer -/

@[simp] theorem PerConsumer.get_ofFn {α : Type} (f : Consumer → α) (k : Consumer) :
    (PerConsumer.ofFn f).get k = f k := by
  cases k <;> rfl

@[simp] theorem PerConsumer.get_put_self {α : Type} (t : PerConsumer α) (c : Consumer) (x : α) :
    (t.put c x).get c = x := by
  cases c <;> rfl

theorem PerConsumer.get_put_other {α : Type} (t : PerConsumer α) {c k : Consumer} (x : α) (other : k ≠ c) :
    (t.put c x).get k = t.get k := by
  cases c <;> cases k <;> simp_all [PerConsumer.get, PerConsumer.put]

/-- What holds of every consumer holds of the five. -/
theorem Consumer.forall_iff {P : Consumer → Prop} :
    (∀ k, P k) ↔ P .steer ∧ P .winch ∧ P .driveF ∧ P .driveR ∧ P .lamps :=
  ⟨fun h => ⟨h _, h _, h _, h _, h _⟩, fun ⟨a, b, c, d, e⟩ k => by cases k <;> assumption⟩

/-- No consumer's value exceeds the sum of the five. -/
theorem PerConsumer.get_le_sum (t : PerConsumer Nat) (k : Consumer) : t.get k ≤ t.sum := by
  unfold PerConsumer.sum
  cases k <;> simp only [PerConsumer.get] <;> omega

/-! ## One pass (R71) -/

/-- The drives share an amount that they have room for: neither gives more than its room (R71 step 2). -/
theorem driveSplit_fits {amount roomF roomR : Nat} (room : amount ≤ roomF + roomR) :
    (driveSplit amount roomF roomR).1 + (driveSplit amount roomF roomR).2 = amount ∧
      (driveSplit amount roomF roomR).1 ≤ roomF ∧ (driveSplit amount roomF roomR).2 ≤ roomR := by
  unfold driveSplit
  split_ifs <;> dsimp only <;> omega

/-- A pass takes the deficit, or the whole room where the deficit is larger, and from no consumer more than its
room. -/
theorem scalePass_takes {cur room : PerConsumer Nat} (fits : ∀ k, room.get k ≤ cur.get k) (deficit : Nat) :
    (scalePass deficit cur room).2 = deficit - room.sum ∧
      (scalePass deficit cur room).1.sum = cur.sum - min deficit room.sum ∧
      ∀ k, (scalePass deficit cur room).1.get k ≤ cur.get k ∧
        cur.get k - room.get k ≤ (scalePass deficit cur room).1.get k := by
  obtain ⟨steer, winch, driveF, driveR, lamps⟩ := Consumer.forall_iff.mp fits
  obtain ⟨shared, front, rear⟩ := driveSplit_fits
    (Nat.min_le_right (deficit - min deficit room.lamps) (room.driveF + room.driveR))
  rw [Consumer.forall_iff]
  unfold scalePass PerConsumer.sum
  simp only [PerConsumer.get] at *
  generalize driveSplit _ _ _ = split at *
  omega

/-! ## Both passes (R71, R72) -/

/-- The scaled bases sum to the budget, or to the bases where these do not reach it, and none exceeds its base; the
second pass, with every consumer's whole base left as room, leaves no deficit (R72). -/
theorem scaleBases_sum (b : Nat) (base floor : PerConsumer Nat) :
    (scaleBases b base floor).sum = min b base.sum ∧ ∀ k, (scaleBases b base floor).get k ≤ base.get k := by
  have room : ∀ k, (PerConsumer.ofFn fun c => base.get c - floor.get c).get k ≤ base.get k := fun k => by
    rw [PerConsumer.get_ofFn]; exact Nat.sub_le _ _
  obtain ⟨left, sum, taken⟩ := scalePass_takes room (base.sum - b)
  obtain ⟨-, sum', taken'⟩ := scalePass_takes
    (cur := (scalePass (base.sum - b) base (PerConsumer.ofFn fun c => base.get c - floor.get c)).1) (fun _ => le_rfl)
    (scalePass (base.sum - b) base (PerConsumer.ofFn fun c => base.get c - floor.get c)).2
  unfold scaleBases
  dsimp only
  split_ifs
  · exact ⟨by omega, fun _ => le_rfl⟩
  · exact ⟨by omega, fun k => (taken k).1⟩
  · exact ⟨by omega, fun k => (taken' k).1.trans (taken k).1⟩

/-- With a budget that reaches the floors, which lie within the bases, the first pass removes the whole deficit and
leaves each consumer its floor (R71). -/
theorem scaleBases_floor {b : Nat} {base floor : PerConsumer Nat} (within : ∀ k, floor.get k ≤ base.get k)
    (reaches : floor.sum ≤ b) (k : Consumer) : floor.get k ≤ (scaleBases b base floor).get k := by
  have room : ∀ k, (PerConsumer.ofFn fun c => base.get c - floor.get c).get k ≤ base.get k := fun k => by
    rw [PerConsumer.get_ofFn]; exact Nat.sub_le _ _
  have rooms : (PerConsumer.ofFn fun c => base.get c - floor.get c).sum = base.sum - floor.sum := by
    rw [Consumer.forall_iff] at within
    simp only [PerConsumer.get, PerConsumer.sum, PerConsumer.ofFn] at within ⊢
    omega
  obtain ⟨left, -, taken⟩ := scalePass_takes room (base.sum - b)
  have whole : (scalePass (base.sum - b) base (PerConsumer.ofFn fun c => base.get c - floor.get c)).2 = 0 := by omega
  have kept := (taken k).2
  have own := within k
  rw [PerConsumer.get_ofFn] at kept
  unfold scaleBases
  dsimp only
  rw [if_pos whole]
  split_ifs
  · exact own
  · omega

/-- The scaled bases of a working set sum to no more than the budget. -/
theorem scaledBases_sum_le (w : WorkingSet) (b : Nat) : (scaledBases w b).sum ≤ b := by
  rw [scaledBases, (scaleBases_sum b _ _).1]
  exact Nat.min_le_left _ _

/-- Settles O31, by what each of the two passes takes. -/
theorem scaledBasesSumToTheBudget : Obligations.ScaledBasesSumToTheBudget := by
  refine ⟨fun b base floor within => ?_, fun _ _ => rfl⟩
  obtain ⟨sum, below⟩ := scaleBases_sum b base floor
  exact ⟨sum, below, fun reaches k => scaleBases_floor within reaches k⟩

end Sys2Proof.Machine
end

section
/-! PROOF. The allotment window (R69 to R83): what each of its steps makes of the slot, the counts and a record, and what
the whole window does. -/
namespace Sys2Proof.Machine

/-! ## The steps of a window, one record at a time -/

section Steps
variable (c : Cau) (w : WorkingSet) (k : Consumer)

@[simp] theorem Cau.rescale_holder (l : Level) : (c.rescale w l).holder = c.holder := rfl

@[simp] theorem Cau.rescale_calm (l : Level) : (c.rescale w l).calm = c.calm := rfl

@[simp] theorem Cau.rescale_record (l : Level) : (c.rescale w l).records.get k =
    { c.records.get k with scaled := (scaledBases w (budgetFor w l)).get k } := PerConsumer.get_ofFn _ _

@[simp] theorem Cau.writeCeilings_holder : (c.writeCeilings w).holder = c.holder := rfl

@[simp] theorem Cau.writeCeilings_calm : (c.writeCeilings w).calm = c.calm := rfl

@[simp] theorem Cau.writeCeilings_record : (c.writeCeilings w).records.get k =
    { c.records.get k with
      granted := (c.records.get k).scaled + if c.holder = some k then w.nat Item.surgeMa else 0 } :=
  PerConsumer.get_ofFn _ _

@[simp] theorem Cau.countQuiet_holder : c.countQuiet.holder = c.holder := rfl

@[simp] theorem Cau.countQuiet_calm : c.countQuiet.calm = c.calm := rfl

@[simp] theorem Cau.countQuiet_record : c.countQuiet.records.get k =
    { c.records.get k with
      quiet := if c.holder = none then min 255 ((c.records.get k).quiet + 1) else 0 } := by
  unfold Cau.countQuiet
  rw [PerConsumer.get_ofFn]
  cases c.holder <;> rfl

@[simp] theorem Cau.clearLowered_record :
    c.clearLowered.records.get k = { c.records.get k with lowered := false } := PerConsumer.get_ofFn _ _

theorem Cau.noWish_iff : c.noWish = true ↔ ∀ k, (c.records.get k).wish = false := by
  rw [Consumer.forall_iff]
  simp [Cau.noWish, consumers]

/-- The calm count after step 6 (R83). -/
theorem Cau.countCalm_calm : c.countCalm.calm =
    if c.holder = none ∧ c.noWish = true then min 2 (c.calm + 1) else 0 := by
  unfold Cau.countCalm
  simp only [Bool.and_eq_true, Option.isNone_iff_eq_none]
  split
  · split <;> rfl
  · rfl

@[simp] theorem Cau.countCalm_holder : c.countCalm.holder = c.holder := by
  unfold Cau.countCalm
  dsimp only
  (repeat' split) <;> rfl

/-- At a calm count of 2 a LOWERED consumer returns to NORMAL; nothing else of a record moves at step 6 (R83). -/
theorem Cau.countCalm_record : c.countCalm.records.get k =
    { c.records.get k with lowered := (c.records.get k).lowered && decide (c.countCalm.calm ≠ 2) } := by
  unfold Cau.countCalm
  split
  · dsimp only
    split
    · rename_i reached
      have two : min 2 (c.calm + 1) = 2 := by omega
      simp [two, Cau.clearLowered]
    · rename_i short
      have two : min 2 (c.calm + 1) ≠ 2 := by omega
      simp [two]
  · simp

end Steps

/-! ## The release of the slot (R74, R80 to R82) -/

section Release
variable {c : Cau} {h : Consumer}

theorem Cau.release_free (free : c.holder = none) (lower : Bool) : c.release lower = c := by
  unfold Cau.release
  rw [free]

@[simp] theorem Cau.release_holder (c : Cau) (lower : Bool) : (c.release lower).holder = none := by
  unfold Cau.release
  split
  · assumption
  · rfl

@[simp] theorem Cau.release_calm (c : Cau) (lower : Bool) : (c.release lower).calm = c.calm := by
  unfold Cau.release
  split <;> rfl

theorem Cau.release_record_self (held : c.holder = some h) (lower : Bool) : (c.release lower).records.get h =
    { c.records.get h with hold := 0, lapse := 0, lowered := (c.records.get h).lowered || lower } := by
  unfold Cau.release
  rw [held]
  exact PerConsumer.get_put_self _ _ _

theorem Cau.release_record_other {k : Consumer} (other : c.holder ≠ some k) (lower : Bool) :
    (c.release lower).records.get k = c.records.get k := by
  unfold Cau.release
  split
  · rfl
  · rename_i j held
    exact PerConsumer.get_put_other _ _ fun same => other (same ▸ held)

end Release

/-! ## Step 3: the holder's counts and the test (R80, R81, R82) -/

/-- A hold is completed or lapsed at this window (R80, R81). -/
abbrev Allot.holdEnds (r : Allot) (w : WorkingSet) : Prop :=
  w.nat Item.surgeHold ≤ r.hold + 1 ∨ (r.wish = false ∧ 1 ≤ r.lapse)

/-- The holder's record with this window counted (R80, R81). -/
def Allot.heldOn (r : Allot) : Allot := { r with hold := r.hold + 1, lapse := if r.wish then 0 else r.lapse + 1 }

/-- The holder's counts of this window, and the slot as it stands. -/
def Cau.countHold (c : Cau) (h : Consumer) : Cau :=
  { c with records := c.records.put h (c.records.get h).heldOn }

section Test
variable {c : Cau} {h : Consumer} (w : WorkingSet) (run : Bool) (inSurge : Consumer → Bool)

theorem Cau.releaseTest_free (free : c.holder = none) : c.releaseTest w run inSurge = c := by
  unfold Cau.releaseTest
  rw [free]

/-- The test of a holder: given up where the hold ends, else kept where it is in its surge state in RUN, else
released, forced. -/
theorem Cau.releaseTest_held (held : c.holder = some h) : c.releaseTest w run inSurge =
    if (c.records.get h).holdEnds w then (c.countHold h).release true
    else if (run && inSurge h) = true then c.countHold h
    else (c.countHold h).release false := by
  have lapsed : 2 ≤ (if (c.records.get h).wish then 0 else (c.records.get h).lapse + 1) ↔
      (c.records.get h).wish = false ∧ 1 ≤ (c.records.get h).lapse := by
    cases (c.records.get h).wish <;> simp
  unfold Cau.releaseTest Cau.countHold
  rw [held]
  simp only [lapsed]
  rfl

theorem Cau.countHold_record_self : (c.countHold h).records.get h = (c.records.get h).heldOn :=
  PerConsumer.get_put_self _ _ _

theorem Cau.countHold_record_other {k : Consumer} (other : k ≠ h) :
    (c.countHold h).records.get k = c.records.get k := PerConsumer.get_put_other _ _ other

/-- The test moves hold and lapse counts, and the level of a holder alone. -/
theorem Cau.releaseTest_record (k : Consumer) :
    let a := c.records.get k
    let b := (c.releaseTest w run inSurge).records.get k
    b.scaled = a.scaled ∧ b.wish = a.wish ∧ b.quiet = a.quiet ∧ (c.holder ≠ some k → b = a) := by
  cases held : c.holder with
  | none => rw [Cau.releaseTest_free w run inSurge held]; exact ⟨rfl, rfl, rfl, fun _ => rfl⟩
  | some h =>
    have counted : (c.countHold h).holder = some h := held
    rw [Cau.releaseTest_held w run inSurge held]
    by_cases own : k = h
    · subst own
      refine ⟨?_, ?_, ?_, fun other => absurd rfl other⟩ <;> split_ifs <;>
        simp [Cau.release_record_self counted, Cau.countHold_record_self, Allot.heldOn]
    · have other : (c.countHold h).holder ≠ some k := fun same => own (Option.some.inj (held.symm.trans same)).symm
      split_ifs <;> simp [Cau.release_record_other other, Cau.countHold_record_other own]

theorem Cau.releaseTest_holder_of (slot : (c.releaseTest w run inSurge).holder ≠ none) :
    (c.releaseTest w run inSurge).holder = c.holder := by
  cases held : c.holder with
  | none => rw [Cau.releaseTest_free w run inSurge held, held]
  | some h =>
    rw [Cau.releaseTest_held w run inSurge held] at slot ⊢
    split_ifs at slot ⊢
    · exact absurd (Cau.release_holder _ _) slot
    · exact held
    · exact absurd (Cau.release_holder _ _) slot

@[simp] theorem Cau.releaseTest_calm : (c.releaseTest w run inSurge).calm = c.calm := by
  cases held : c.holder with
  | none => rw [Cau.releaseTest_free w run inSurge held]
  | some h =>
    rw [Cau.releaseTest_held w run inSurge held]
    split_ifs <;> simp [Cau.countHold]

end Test

/-! ## Step 5: who takes the slot (R78, R79) -/

section Arbitration
variable {c : Cau} (run : Bool) (level : Level) (inSurge : Consumer → Bool)

/-- Taking the slot restarts the holder's counts and every quiet count (R79). -/
theorem Cau.take_record (h k : Consumer) : (c.take h).records.get k =
    { c.records.get k with
      quiet := 0
      hold := if k = h then 0 else (c.records.get k).hold
      lapse := if k = h then 0 else (c.records.get k).lapse } := by
  unfold Cau.take
  rw [PerConsumer.get_ofFn]
  split <;> rfl

/-- The slot is left as it stands, or one who may takes it while it is free. -/
theorem Cau.arbitrate_cases : c.arbitrate run level inSurge = c ∨
    c.holder = none ∧ run = true ∧ slotAllowed level = true ∧
      ∃ h, c.eligible inSurge h = true ∧ c.arbitrate run level inSurge = c.take h := by
  unfold Cau.arbitrate
  split
  · rename_i free
    simp only [Bool.and_eq_true, Option.isNone_iff_eq_none] at free
    split
    · rename_i h found
      exact .inr ⟨free.1.1, free.1.2, free.2, h, List.find?_some found, rfl⟩
    · exact .inl rfl
  · exact .inl rfl

/-- Where none is eligible the slot stays as it stands. -/
theorem Cau.arbitrate_idle (none_eligible : ∀ k, c.eligible inSurge k = false) :
    c.arbitrate run level inSurge = c := by
  obtain same | ⟨-, -, -, h, may, -⟩ := Cau.arbitrate_cases (c := c) run level inSurge
  · exact same
  · exact absurd may (by simp [none_eligible h])

/-- A held slot is not taken. -/
theorem Cau.arbitrate_held (held : c.holder ≠ none) : c.arbitrate run level inSurge = c := by
  obtain same | ⟨free, -⟩ := Cau.arbitrate_cases (c := c) run level inSurge
  · exact same
  · exact absurd free held

/-- The first in the number order is the lowest-numbered. -/
theorem consumers_find?_lowest {p : Consumer → Bool} {h : Consumer} (passes : p h = true)
    (lowest : ∀ k : Consumer, k.code < h.code → p k = false) : consumers.find? p = some h := by
  rw [Consumer.forall_iff] at lowest
  cases h <;> simp_all [consumers, Consumer.code, Consumer.ctorIdx]

/-- A free slot goes to the lowest-numbered eligible consumer. -/
theorem Cau.arbitrate_lowest {h : Consumer} (free : c.holder = none) (allowed : slotAllowed level = true)
    (may : c.eligible inSurge h = true) (lowest : ∀ k : Consumer, k.code < h.code → c.eligible inSurge k = false) :
    c.arbitrate true level inSurge = c.take h := by
  unfold Cau.arbitrate
  rw [free, allowed, consumers_find?_lowest may lowest]
  rfl

/-- No consumer is eligible before its eighth quiet window (R78). -/
theorem Cau.not_eligible {k : Consumer} (soon : (c.records.get k).quiet < 8) : c.eligible inSurge k = false := by
  unfold Cau.eligible surgeThreshold
  cases k <;> simp <;> omega

end Arbitration

/-! ## The whole window (R69) -/

section Window
variable (s : State)

/-- CAU's state after step 3 of a window. -/
def State.windowTested : Cau :=
  (s.cau.rescale s.ws s.pkm.level).releaseTest s.ws (decide (s.mdc.mode = .run)) s.inSurgeState

/-- CAU's state after step 5 of a window. -/
def State.windowTaken : Cau :=
  s.windowTested.countQuiet.arbitrate (decide (s.mdc.mode = .run)) s.pkm.level s.inSurgeState

theorem State.window_cau : s.window.cau = s.windowTaken.countCalm.writeCeilings s.ws := rfl

@[simp] theorem State.window_holder : s.window.cau.holder = s.windowTaken.holder := by
  rw [State.window_cau, Cau.writeCeilings_holder, Cau.countCalm_holder]

/-- After step 5 the quiet counts have risen, or the slot is held and they are 0 (R77, R79); wishes and scaled bases
stand as steps 1 and 2 left them. -/
theorem State.windowTaken_record (k : Consumer) :
    let a := s.cau.records.get k
    let b := s.windowTaken.records.get k
    b.scaled = (scaledBases s.ws (budgetFor s.ws s.pkm.level)).get k ∧ b.wish = a.wish ∧
      b.quiet = (if s.windowTaken.holder = none then min 255 (a.quiet + 1) else 0) ∧
      (s.cau.holder ≠ some k → b.lowered = a.lowered) := by
  obtain ⟨scaled, wish, quiet, other⟩ := Cau.releaseTest_record (c := s.cau.rescale s.ws s.pkm.level) s.ws
    (decide (s.mdc.mode = .run)) s.inSurgeState k
  rw [← State.windowTested, Cau.rescale_record] at scaled wish quiet other
  rw [Cau.rescale_holder] at other
  obtain left | ⟨free, -, -, h, -, taken⟩ := Cau.arbitrate_cases (c := s.windowTested.countQuiet)
    (decide (s.mdc.mode = .run)) s.pkm.level s.inSurgeState
  · rw [← State.windowTaken] at left
    rw [left, Cau.countQuiet_record, Cau.countQuiet_holder]
    exact ⟨scaled, wish, by dsimp only; rw [quiet], fun h => by dsimp only; rw [other h]⟩
  · rw [← State.windowTaken] at taken
    rw [taken, Cau.take_record, Cau.countQuiet_record]
    exact ⟨scaled, wish, rfl, fun h => by dsimp only; rw [other h]⟩

/-- After step 5 the slot stands as it stood, or it is free, or it has been taken where it may be (R79). -/
theorem State.windowTaken_holder : s.windowTaken.holder = s.cau.holder ∨ s.windowTaken.holder = none ∨
    s.mdc.mode = .run ∧ slotAllowed s.pkm.level = true := by
  obtain left | ⟨-, run, allowed, -⟩ := Cau.arbitrate_cases (c := s.windowTested.countQuiet)
    (decide (s.mdc.mode = .run)) s.pkm.level s.inSurgeState
  · rw [State.windowTaken, left, Cau.countQuiet_holder]
    by_cases free : s.windowTested.holder = none
    · exact .inr (.inl free)
    · exact .inl (Cau.releaseTest_holder_of _ _ _ free)
  · exact .inr (.inr ⟨of_decide_eq_true run, allowed⟩)

/-- The calm count after a window (R83). -/
theorem State.window_calm : s.window.cau.calm =
    if s.window.cau.holder = none ∧ s.cau.noWish = true then min 2 (s.cau.calm + 1) else 0 := by
  have wishes : s.windowTaken.noWish = s.cau.noWish := by
    have wish : ∀ k, (s.windowTaken.records.get k).wish = (s.cau.records.get k).wish := fun k =>
      (s.windowTaken_record k).2.1
    rw [Bool.eq_iff_iff, Cau.noWish_iff, Cau.noWish_iff]
    simp only [wish]
  have calm : s.windowTaken.calm = s.cau.calm := by
    have tested : s.windowTested.calm = s.cau.calm := Cau.releaseTest_calm _ _ _
    obtain left | ⟨-, -, -, h, -, taken⟩ := Cau.arbitrate_cases (c := s.windowTested.countQuiet)
      (decide (s.mdc.mode = .run)) s.pkm.level s.inSurgeState
    · rw [State.windowTaken, left]; exact tested
    · rw [State.windowTaken, taken]; exact tested
  rw [State.window_holder, State.window_cau, Cau.writeCeilings_calm, Cau.countCalm_calm,
    wishes, calm]

/-- A record after a window (R71, R77, R83); its ceiling is `window_level`'s. -/
theorem State.window_record (k : Consumer) : s.window.cau.records.get k =
    { s.windowTaken.records.get k with
      granted := (s.windowTaken.records.get k).scaled +
        if s.windowTaken.holder = some k then s.ws.nat Item.surgeMa else 0
      lowered := (s.windowTaken.records.get k).lowered && decide (s.window.cau.calm ≠ 2) } := by
  rw [State.window_cau, Cau.writeCeilings_record, Cau.countCalm_record, Cau.countCalm_holder, Cau.writeCeilings_calm]

/-- The scaled bases after a window (R71, R72). -/
theorem State.window_scaled (k : Consumer) :
    (s.window.cau.records.get k).scaled = (scaledBases s.ws (budgetFor s.ws s.pkm.level)).get k := by
  rw [State.window_record]
  exact (s.windowTaken_record k).1

theorem State.window_quiet (k : Consumer) : (s.window.cau.records.get k).quiet =
    if s.window.cau.holder = none then min 255 ((s.cau.records.get k).quiet + 1) else 0 := by
  rw [State.window_record, State.window_holder]
  exact (s.windowTaken_record k).2.2.1

/-- A window changes CAU alone. -/
theorem State.window_changes : s.changesOnly s.window.holdAutoPark [.cau] :=
  State.changesOnly_held (s.setCau_changes _) rfl

variable {s}

/-- ALLOTMENT_WINDOW, once the start sequence has ended, is one window (R69). -/
theorem exec_allotmentWindow (powered : s.powered = true) (started : s.mdc.startDone = true) :
    exec .allotmentWindow s = .next s.window.holdAutoPark := by
  have acts : exec .allotmentWindow s = act s fun s => if s.mdc.startDone then s.window else s := rfl
  rw [acts, act_powered powered, if_pos started]

end Window

end Sys2Proof.Machine
end

section
/-! PROOF. The level budget at a window (R70), and the surge slot: taken, held, given up, and the events that do the same
one window short (R77 to R83, log 6). -/
namespace Sys2Proof.Machine

/-! ## The budget (R70) -/

theorem State.grantRule_holdAutoPark {s : State} {k : Consumer} (rule : s.grantRule k) : s.holdAutoPark.grantRule k := by
  simpa only [State.grantRule, State.ws, State.holdAutoPark_cau, State.holdAutoPark_sst] using rule

/-- Settles O30: budget and ceilings are `window_level`'s, the scaled bases `window_scaled`'s. -/
theorem windowComputesTheLevelBudget : Obligations.WindowComputesTheLevelBudget := by
  intro s powered started
  obtain ⟨level, budget, rules⟩ := s.window_level
  refine ⟨_, exec_allotmentWindow powered started, ?_⟩
  simp only [State.holdAutoPark_cau]
  refine ⟨level, fun l => ?_, fun l => ?_, fun l => ?_, fun l => ?_, fun k => ?_,
    fun k => State.grantRule_holdAutoPark (rules k), s.window_changes⟩
  · rw [budget, l]; rfl
  · rw [budget, l]; rfl
  · rw [budget, l]; rfl
  · rw [budget, l]; rfl
  · rw [budget, s.window_scaled k]

/-! ## The slot is taken (R78, R79) -/

section Slot
variable {s : State} {h : Consumer}

/-- The holder's ceiling after a window (R73). -/
theorem State.window_granted_holder (holds : s.window.cau.holder = some h) :
    (s.window.cau.records.get h).granted = (s.window.cau.records.get h).scaled + s.ws.nat Item.surgeMa := by
  have rule := s.window_level.2.2 h
  unfold State.grantRule at rule
  rw [holds, if_pos rfl] at rule
  exact rule

/-- The ceiling of a consumer that does not hold the slot (R73). -/
theorem State.window_granted_other (other : s.window.cau.holder ≠ some h) :
    (s.window.cau.records.get h).granted = (s.window.cau.records.get h).scaled := by
  have rule := s.window_level.2.2 h
  unfold State.grantRule at rule
  rw [if_neg other, Nat.add_zero] at rule
  exact rule

/-- While the slot is held after a window the calm count is 0 (R83). -/
theorem State.window_calm_held (holds : s.window.cau.holder ≠ none) : s.window.cau.calm = 0 := by
  rw [State.window_calm, if_neg fun free => holds free.1]

/-- With the slot free, those who are eligible at step 5 are those who may take it (R78). -/
theorem State.eligible_iff_mayTakeSlot (free : s.cau.holder = none) (k : Consumer) :
    s.windowTested.countQuiet.eligible s.inSurgeState k = true ↔ s.mayTakeSlot k := by
  have tested : s.windowTested = s.cau.rescale s.ws s.pkm.level := Cau.releaseTest_free _ _ _ free
  unfold Cau.eligible State.mayTakeSlot
  rw [tested, Cau.countQuiet_record, Cau.rescale_record, Cau.rescale_holder, if_pos free]
  cases k <;> simp [surgeThreshold, and_assoc]

/-- The lowest-numbered consumer that may take the free slot takes it (R79). -/
theorem State.windowTaken_lowest (run : s.mdc.mode = .run) (free : s.cau.holder = none)
    (allowed : slotAllowed s.pkm.level = true) (may : s.mayTakeSlot h)
    (lowest : ∀ k : Consumer, k.code < h.code → ¬s.mayTakeSlot k) :
    s.windowTaken = s.windowTested.countQuiet.take h := by
  have none_below : ∀ k : Consumer, k.code < h.code →
      s.windowTested.countQuiet.eligible s.inSurgeState k = false := fun k below =>
    Bool.eq_false_iff.mpr fun yes => lowest k below ((State.eligible_iff_mayTakeSlot free k).mp yes)
  unfold State.windowTaken
  rw [run, decide_eq_true rfl]
  refine Cau.arbitrate_lowest _ _ ?_ allowed ((State.eligible_iff_mayTakeSlot free h).mpr may) none_below
  rw [Cau.countQuiet_holder, State.windowTested, Cau.releaseTest_free (c := s.cau.rescale s.ws s.pkm.level) _ _ _ free]
  exact free

theorem State.window_takes (run : s.mdc.mode = .run) (free : s.cau.holder = none)
    (allowed : slotAllowed s.pkm.level = true) (may : s.mayTakeSlot h)
    (lowest : ∀ k : Consumer, k.code < h.code → ¬s.mayTakeSlot k) :
    s.window.cau.holder = some h ∧ (s.window.cau.records.get h).hold = 0 ∧
      (s.window.cau.records.get h).lapse = 0 := by
  have taken := State.windowTaken_lowest run free allowed may lowest
  rw [State.window_holder, State.window_record, taken, Cau.take_record]
  simp only [if_true]
  exact ⟨rfl, trivial, trivial⟩

/-! ## A holder at a window (R80 to R82) -/

/-- Step 3 of a window judges the holder's record as it stood: the scaled bases play no part in it. -/
theorem State.windowTested_held (held : s.cau.holder = some h) :
    let c := (s.cau.rescale s.ws s.pkm.level).countHold h
    s.windowTested = if (s.cau.records.get h).holdEnds s.ws then c.release true
      else if s.mdc.mode = .run ∧ s.inSurgeState h = true then c else c.release false := by
  unfold State.windowTested
  rw [Cau.releaseTest_held _ _ _ (c := s.cau.rescale s.ws s.pkm.level) held, Cau.rescale_record]
  simp only [Bool.and_eq_true, decide_eq_true_eq, Allot.holdEnds]

/-- A holder in its surge state in RUN whose hold neither completes nor lapses keeps the slot (R80, R81). -/
theorem State.window_keeps (held : s.cau.holder = some h) (goes_on : ¬(s.cau.records.get h).holdEnds s.ws)
    (run : s.mdc.mode = .run) (surges : s.inSurgeState h = true) :
    s.window.cau.holder = some h ∧ (s.window.cau.records.get h).hold = (s.cau.records.get h).hold + 1 ∧
      (s.window.cau.records.get h).lapse =
        (if (s.cau.records.get h).wish then 0 else (s.cau.records.get h).lapse + 1) ∧
      ∀ k, (s.window.cau.records.get k).lowered = (s.cau.records.get k).lowered := by
  have tested : s.windowTested = (s.cau.rescale s.ws s.pkm.level).countHold h := by
    rw [State.windowTested_held held, if_neg goes_on, if_pos ⟨run, surges⟩]
  have still : s.windowTested.holder = some h := by rw [tested]; exact held
  have taken : s.windowTaken = s.windowTested.countQuiet :=
    Cau.arbitrate_held _ _ _ (by rw [Cau.countQuiet_holder, still]; exact Option.some_ne_none h)
  have holds : s.window.cau.holder = some h := by
    rw [State.window_holder, taken, Cau.countQuiet_holder, still]
  have calm := State.window_calm_held (s := s) (by rw [holds]; exact Option.some_ne_none h)
  have own := s.window_record h
  rw [taken, Cau.countQuiet_record, tested, Cau.countHold_record_self] at own
  refine ⟨holds, ?_, ?_, fun k => ?_⟩
  · rw [own]; simp [Allot.heldOn]
  · rw [own]; simp [Allot.heldOn]
  · rw [State.window_record, taken, Cau.countQuiet_record, tested, calm]
    by_cases self : k = h
    · subst self; simp [Cau.countHold_record_self, Allot.heldOn]
    · simp [Cau.countHold_record_other self]

/-- A holder whose hold ends, or that is forced out, loses the slot, which nobody can take before its eighth quiet
window; LOWERED by an end of the hold alone (R80 to R82). -/
theorem State.window_releases (held : s.cau.holder = some h) (calm : s.cau.calm = 0)
    (quiet : ∀ k, (s.cau.records.get k).quiet = 0)
    (ends : (s.cau.records.get h).holdEnds s.ws ∨ s.mdc.mode ≠ .run ∨ s.inSurgeState h = false) :
    s.window.cau.holder = none ∧ (s.window.cau.records.get h).hold = 0 ∧
      (s.window.cau.records.get h).lapse = 0 ∧
      ((s.window.cau.records.get h).lowered = true ↔
        (s.cau.records.get h).lowered = true ∨ (s.cau.records.get h).holdEnds s.ws) := by
  have tested : s.windowTested = ((s.cau.rescale s.ws s.pkm.level).countHold h).release
      (decide ((s.cau.records.get h).holdEnds s.ws)) := by
    rw [State.windowTested_held held]
    by_cases ended : (s.cau.records.get h).holdEnds s.ws
    · simp [ended]
    · have forced : ¬(s.mdc.mode = .run ∧ s.inSurgeState h = true) := fun stays =>
        (ends.resolve_left ended).elim (· stays.1) fun out => by rw [stays.2] at out; cases out
      simp [ended, forced]
  have free : s.windowTested.holder = none := by rw [tested]; exact Cau.release_holder _ _
  have counted : ((s.cau.rescale s.ws s.pkm.level).countHold h).holder = some h := held
  have first : ∀ k, (s.windowTested.countQuiet.records.get k).quiet < 8 := fun k => by
    have same := (Cau.releaseTest_record (c := s.cau.rescale s.ws s.pkm.level) s.ws
      (decide (s.mdc.mode = .run)) s.inSurgeState k).2.2.1
    rw [← State.windowTested, Cau.rescale_record] at same
    rw [Cau.countQuiet_record, if_pos free]
    dsimp only
    rw [same, quiet k]
    decide
  have taken : s.windowTaken = s.windowTested.countQuiet :=
    Cau.arbitrate_idle _ _ _ fun k => Cau.not_eligible _ (first k)
  have restless : s.window.cau.calm ≠ 2 := by
    rw [State.window_calm, calm]
    split <;> decide
  have own := s.window_record h
  rw [taken, Cau.countQuiet_record, tested, Cau.release_record_self counted, Cau.countHold_record_self,
    decide_eq_true restless, Bool.and_true] at own
  refine ⟨?_, ?_, ?_, ?_⟩
  · rw [State.window_holder, taken, Cau.countQuiet_holder, free]
  · rw [own]
  · rw [own]
  · rw [own]
    simp [Allot.heldOn]

end Slot

/-! ## The events of the slot (log 6) -/

section Events
variable {s : State} {h : Consumer}

/-- A holder that gives the slot up is LOWERED, its counts 0, its ceiling its scaled base (R73, R80, R81). -/
theorem State.giveUpSlot_spec (held : s.cau.holder = some h) :
    s.giveUpSlot.cau.holder = none ∧ (s.giveUpSlot.cau.records.get h).lowered = true ∧
      (s.giveUpSlot.cau.records.get h).hold = 0 ∧ (s.giveUpSlot.cau.records.get h).lapse = 0 ∧
      (s.giveUpSlot.cau.records.get h).granted = (s.cau.records.get h).scaled := by
  unfold State.giveUpSlot
  simp [Cau.release_record_self held]

theorem State.giveUpSlot_changes (s : State) : s.changesOnly s.giveUpSlot.holdAutoPark [.cau] :=
  State.changesOnly_held (s.setCau_changes _) rfl

/-- SURGE_HOLD_COMPLETED, one window short of SURGE_HOLD (R80). -/
theorem exec_surgeHoldCompleted (powered : s.powered = true) (held : s.cau.holder = some h)
    (completed : s.ws.nat Item.surgeHold ≤ (s.cau.records.get h).hold + 1) :
    exec .surgeHoldCompleted s = .next s.giveUpSlot.holdAutoPark := by
  have acts : exec .surgeHoldCompleted s = act s fun s =>
      match s.cau.holder with
      | some h => if s.ws.nat Item.surgeHold ≤ (s.cau.records.get h).hold + 1 then s.giveUpSlot else s
      | none => s := rfl
  rw [acts, act_powered powered, held]
  dsimp only
  rw [if_pos completed]

/-- SURGE_LAPSED, at a holder's second window without its wish (R81). -/
theorem exec_surgeLapsed (powered : s.powered = true) (held : s.cau.holder = some h)
    (eased : (s.cau.records.get h).wish = false) (lapse : (s.cau.records.get h).lapse = 1) :
    exec .surgeLapsed s = .next s.giveUpSlot.holdAutoPark := by
  have acts : exec .surgeLapsed s = act s fun s =>
      match s.cau.holder with
      | some h =>
        if !(s.cau.records.get h).wish && decide (2 ≤ (s.cau.records.get h).lapse + 1) then s.giveUpSlot else s
      | none => s := rfl
  rw [acts, act_powered powered, held]
  dsimp only
  rw [eased, lapse]
  rfl

/-- CALM_RETURN, at the second calm window (R83). -/
theorem exec_calmReturn (powered : s.powered = true) (started : s.mdc.startDone = true) (free : s.cau.holder = none)
    (no_wish : s.cau.noWish = true) (calm : s.cau.calm = 1) :
    exec .calmReturn s = .next (s.setCau { s.cau with calm := 2 }.clearLowered).holdAutoPark := by
  have acts : exec .calmReturn s = act s fun s =>
      if s.mdc.startDone && s.cau.holder.isNone && s.cau.noWish && decide (2 ≤ s.cau.calm + 1) then
        s.setCau { s.cau with calm := 2 }.clearLowered
      else s := rfl
  rw [acts, act_powered powered, started, free, no_wish, calm]
  rfl

end Events

/-- Settles O32, by what the whole window does to a free and to a held slot. -/
theorem surgeSlotIsTakenHeldAndGivenUp : Obligations.SurgeSlotIsTakenHeldAndGivenUp := by
  intro s h powered started
  have acts := exec_allotmentWindow powered started
  refine ⟨fun run free level may lowest => ?takes, ?counts, fun held => ?holds, fun held completed => ?completes,
    fun held eased again => ?lapses, fun free no_wish calm => ?returns⟩
  case takes =>
    have allowed : slotAllowed s.pkm.level = true := by obtain e | e := level <;> rw [e] <;> rfl
    obtain ⟨holds, hold, lapse⟩ := State.window_takes run free allowed may lowest
    have held : s.window.cau.holder ≠ none := by rw [holds]; exact Option.some_ne_none h
    refine ⟨_, acts, ?_⟩
    simp only [State.holdAutoPark_cau]
    exact ⟨holds, hold, lapse, fun k => by rw [State.window_quiet, if_neg held], State.window_calm_held held,
      State.window_granted_holder holds, s.window_changes⟩
  case counts =>
    refine ⟨_, acts, ?_⟩
    simp only [State.holdAutoPark_cau]
    refine ⟨fun free no_wish => ?_, fun busy => ?_, fun k => ?_⟩
    · rw [State.window_calm, if_pos ⟨free, (Cau.noWish_iff _).mpr no_wish⟩]
    · rw [State.window_calm, if_neg]
      rintro ⟨free, no_wish⟩
      obtain held | ⟨k, wishes⟩ := busy
      · exact held free
      · simp [(Cau.noWish_iff _).mp no_wish k] at wishes
    · obtain ⟨-, wish, -, lowered⟩ := s.windowTaken_record k
      refine ⟨by rw [State.window_record]; exact wish, s.window_quiet k, fun calm => ?_, fun restless other => ?_⟩
      · rw [State.window_record, calm]; simp
      · rw [State.window_record]; simp [restless, lowered other]
  case holds =>
    refine ⟨fun short wishing unforced => ?_, fun calm quiet ends => ?_⟩
    · have stays : s.mdc.mode = .run ∧ s.inSurgeState h = true := by simpa using unforced
      obtain ⟨holds, hold, lapse, lowered⟩ :=
        State.window_keeps held (fun ended => ended.elim short wishing) stays.1 stays.2
      refine ⟨_, acts, ?_⟩
      simp only [State.holdAutoPark_cau]
      refine ⟨holds, hold, lapse.trans ?_, State.window_granted_holder holds, lowered, s.window_changes⟩
      cases wish : (s.cau.records.get h).wish
      · have first : ¬1 ≤ (s.cau.records.get h).lapse := fun again => wishing ⟨wish, again⟩
        rw [if_neg Bool.false_ne_true, if_neg Bool.false_ne_true]
        omega
      · rfl
    · obtain ⟨free, hold, lapse, lowered⟩ := State.window_releases held calm quiet (or_assoc.mpr ends)
      refine ⟨_, acts, ?_⟩
      simp only [State.holdAutoPark_cau]
      exact ⟨free, hold, lapse, lowered, State.window_granted_other (by rw [free]; simp), s.window_changes⟩
  case completes =>
    obtain ⟨free, lowered, hold, lapse, granted⟩ := State.giveUpSlot_spec held
    refine ⟨_, exec_surgeHoldCompleted powered held completed, ?_⟩
    simp only [State.holdAutoPark_cau]
    exact ⟨free, lowered, hold, lapse, granted, s.giveUpSlot_changes⟩
  case lapses =>
    obtain ⟨free, lowered, hold, lapse, -⟩ := State.giveUpSlot_spec held
    refine ⟨_, exec_surgeLapsed powered held eased again, ?_⟩
    simp only [State.holdAutoPark_cau]
    exact ⟨free, lowered, hold, lapse, s.giveUpSlot_changes⟩
  case returns =>
    refine ⟨_, exec_calmReturn powered started free ((Cau.noWish_iff _).mpr no_wish) calm, ?_⟩
    simp only [State.holdAutoPark_cau, State.setCau_cau, Cau.clearLowered_record]
    exact ⟨rfl, fun _ => trivial, free, State.changesOnly_held (s.setCau_changes _) rfl⟩

end Sys2Proof.Machine
end

section
/-! PROOF. The ledger: what the invariants of the allotment and of the store read of a state (R68, R73, R178), and that the
operations of the other blocks leave it. -/
namespace Sys2Proof.Machine

/-! ## The ledger -/

/-- What `State.AllotSound` and `State.StoreSound` read: the mode and whether the start sequence has ended, the level,
CAU's budget, slot, calm count and of each record its bases, ceiling and quiet count, SURGE_MA, the store. -/
structure Ledger where
  mode : VehicleMode
  startDone : Bool
  level : Level
  budget : Nat
  holder : Option Consumer
  calm : Nat
  scaled : Consumer → Nat
  granted : Consumer → Nat
  quiet : Consumer → Nat
  surge : Nat
  store : StoreState
  snapshot : Option WorkingSet
  image : Image

/-- The ledger of a state. -/
def State.ledger (s : State) : Ledger where
  mode := s.mdc.mode
  startDone := s.mdc.startDone
  level := s.pkm.level
  budget := s.cau.budget
  holder := s.cau.holder
  calm := s.cau.calm
  scaled k := (s.cau.records.get k).scaled
  granted k := (s.cau.records.get k).granted
  quiet k := (s.cau.records.get k).quiet
  surge := s.ws.nat Item.surgeMa
  store := s.sst.store
  snapshot := s.sst.snapshot
  image := s.sst.image

section Parts
variable (s : State)

@[simp] theorem State.setPending_ledger (x : List Instr) : (s.setPending x).ledger = s.ledger := rfl
@[simp] theorem State.setStoreLock_ledger (x : Bool) : (s.setStoreLock x).ledger = s.ledger := rfl
@[simp] theorem State.setLink_ledger (x : Link) : (s.setLink x).ledger = s.ledger := rfl
@[simp] theorem State.setIntent_ledger (x : Intent) : (s.setIntent x).ledger = s.ledger := rfl
@[simp] theorem State.setStc_ledger (x : Stc) : (s.setStc x).ledger = s.ledger := rfl
@[simp] theorem State.setTse_ledger (x : Tse) : (s.setTse x).ledger = s.ledger := rfl
@[simp] theorem State.setDrc_ledger (x : Drc) : (s.setDrc x).ledger = s.ledger := rfl
@[simp] theorem State.setWnc_ledger (x : Wnc) : (s.setWnc x).ledger = s.ledger := rfl
@[simp] theorem State.setLmp_ledger (x : Lmp) : (s.setLmp x).ledger = s.ledger := rfl
@[simp] theorem State.raise_ledger (n : Notice) : (s.raise n).ledger = s.ledger := rfl
@[simp] theorem State.drop_ledger (w : DropReason) : (s.drop w).ledger = s.ledger := rfl
@[simp] theorem State.ok_ledger (q : RawRequest) (b : List Byte) : (s.ok q b).ledger = s.ledger := rfl

@[simp] theorem State.holdAutoPark_ledger : s.holdAutoPark.ledger = s.ledger := by
  unfold State.holdAutoPark; split <;> rfl

/-- MDC's own counts, timers and marks are not in the ledger. -/
theorem State.setMdc_ledger {d : Mdc} (mode : d.mode = s.mdc.mode) (done : d.startDone = s.mdc.startDone) :
    (s.setMdc d).ledger = s.ledger := by
  simp [State.ledger, mode, done, State.ws]

/-- PKM's record and counts are not in the ledger. -/
theorem State.setPkm_ledger {p : Pkm} (level : p.level = s.pkm.level) : (s.setPkm p).ledger = s.ledger := by
  simp [State.ledger, level, State.ws]

/-- A wish is not in the ledger (R76). -/
@[simp] theorem State.writeWish_ledger (k : Consumer) (b : Bool) : (s.writeWish k b).ledger = s.ledger := by
  have kept : ∀ {α : Type} (f : Allot → α), (∀ a, f { a with wish := b } = f a) →
      ∀ j, f ((s.writeWish k b).cau.records.get j) = f (s.cau.records.get j) := by
    intro α f same j
    by_cases own : j = k
    · subst own
      exact (congrArg f (PerConsumer.get_put_self _ _ _)).trans (same _)
    · exact congrArg f (PerConsumer.get_put_other _ _ own)
  unfold State.ledger
  simp only [kept Allot.scaled fun _ => rfl, kept Allot.granted fun _ => rfl, kept Allot.quiet fun _ => rfl]
  rfl

/-- Of a working set only SURGE_MA is in the ledger. -/
theorem State.setWorking_ledger {w : WorkingSet} (surge : w.nat Item.surgeMa = s.ws.nat Item.surgeMa) :
    (s.setWorking w).ledger = s.ledger := by
  simp only [State.ledger]
  rw [show (s.setWorking w).ws.nat Item.surgeMa = s.ws.nat Item.surgeMa from surge]
  rfl

theorem State.remap_ledger {w : WorkingSet} (items : w.items = s.ws.items) : (s.remap w).ledger = s.ledger := by
  refine State.setWorking_ledger s ?_
  unfold WorkingSet.nat WorkingSet.int
  rw [items]

end Parts

/-! ## Steering and search (06, 07) -/

section Steering
variable (s : State)

@[simp] theorem State.aimCorners_ledger : s.aimCorners.ledger = s.ledger := by
  unfold State.aimCorners; split <;> rfl

@[simp] theorem State.alignExpires_ledger : s.alignExpires.ledger = s.ledger := by
  unfold State.alignExpires; dsimp only; split <;> rfl

@[simp] theorem State.adoptTarget_ledger : s.adoptTarget.ledger = s.ledger := by
  unfold State.adoptTarget; split <;> rfl

@[simp] theorem State.advanceMachine_ledger : s.advanceMachine.ledger = s.ledger := by
  unfold State.advanceMachine State.settleEnds State.steerNotice; dsimp only; (repeat' split) <;> simp

@[simp] theorem State.putCorner_ledger (i : CornerId) (k : Corner) : (s.putCorner i k).ledger = s.ledger := by
  unfold State.putCorner; dsimp only; split <;> rfl

@[simp] theorem State.abortOnMode_ledger : s.abortOnMode.ledger = s.ledger := by
  unfold State.abortOnMode; split <;> rfl

@[simp] theorem State.followMode_ledger : s.followMode.ledger = s.ledger := by
  unfold State.followMode; dsimp only; (repeat' split) <;> simp

@[simp] theorem State.takeSteerCode_ledger : s.takeSteerCode.ledger = s.ledger := by
  unfold State.takeSteerCode State.codeInSteady State.codeInAligning State.codeInSettling State.refuseCode
  dsimp only
  (repeat' split) <;> rfl

@[simp] theorem State.beginFrame_ledger (r : ServoReading) : (s.beginFrame r).ledger = s.ledger := by
  simp [State.beginFrame, State.setSlew]

@[simp] theorem State.beginCorner_ledger : s.beginCorner.ledger = s.ledger := by
  unfold State.beginCorner; (repeat' split) <;> rfl

@[simp] theorem State.endCorner_ledger (i : CornerId) (f : ResultEntry → ResultEntry) :
    (s.endCorner i f).ledger = s.ledger := by
  unfold State.endCorner; dsimp only; split <;> rfl

/-- A found trim is no setting of the allotment (R119). -/
@[simp] theorem State.edgeFound_ledger (i : CornerId) : (s.edgeFound i).ledger = s.ledger := by
  unfold State.edgeFound
  dsimp only
  split
  · rw [State.endCorner_ledger]
    refine State.setWorking_ledger s (congrArg Int.toNat (WorkingSet.int_setItem_of_ne _ _ ?_))
    cases i <;> decide
  · rw [State.endCorner_ledger]

@[simp] theorem State.judgeWait_ledger (i : CornerId) : (s.judgeWait i).ledger = s.ledger := by
  unfold State.judgeWait; split
  · rw [State.endCorner_ledger]; rfl
  · rfl

@[simp] theorem State.judgeStep_ledger (i : CornerId) : (s.judgeStep i).ledger = s.ledger := by
  unfold State.judgeStep; dsimp only; (repeat' split) <;> simp

@[simp] theorem State.searchFrame_ledger : s.searchFrame.ledger = s.ledger := by
  have step : ∀ i, (s.probeStep i).ledger = s.ledger := fun _ => rfl
  unfold State.searchFrame; (repeat' split) <;> simp [step]

@[simp] theorem State.workCorners_ledger : s.workCorners.ledger = s.ledger := by
  unfold State.workCorners
  split
  · exact s.searchFrame_ledger
  · exact foldl_leaves State.ledger (fun u i => u.putCorner_ledger i _) _ _

@[simp] theorem State.settleFailures_ledger (b : PerCorner Bool) : (s.settleFailures b).ledger = s.ledger := by
  unfold State.settleFailures; split <;> rfl

@[simp] theorem State.afterCorner_ledger (b : PerCorner Bool) : (s.afterCorner b).ledger = s.ledger := by
  simp [State.afterCorner]

@[simp] theorem State.endFrame_ledger : s.endFrame.ledger = s.ledger := by
  simp [State.endFrame, State.sendPulses]

end Steering

/-! ## Drive and winch (08, 09) -/

section Motion
variable (s : State)

@[simp] theorem State.takeDriveCode_ledger : s.takeDriveCode.ledger = s.ledger := by
  unfold State.takeDriveCode; (repeat' split) <;> rfl

@[simp] theorem State.writeAxleWishes_ledger : s.writeAxleWishes.ledger = s.ledger := by
  simp [State.writeAxleWishes]

@[simp] theorem State.driveAxles_ledger : s.driveAxles.ledger = s.ledger := by
  simp [State.driveAxles]

@[simp] theorem State.putAxle_ledger (i : AxleId) (a : Axle) : (s.putAxle i a).ledger = s.ledger := by
  simp [State.putAxle]

@[simp] theorem State.cancelAssist_ledger : s.cancelAssist.ledger = s.ledger := by
  unfold State.cancelAssist; split <;> rfl

/-- What moves the winch, its code and the way out alone leaves the ledger. -/
theorem State.WinchOnly.ledger {s t : State} (only : s.WinchOnly t) : t.ledger = s.ledger := by
  have store : t.sst = { s.sst with working := t.sst.working } := only.frame.2.2.2 .store (by decide)
  unfold State.ledger
  rw [only.mdc, only.pkm, only.cau, only.ws, store]

/-- A winch update writes the winch's wish, and nothing else in CAU (R146 step 8). -/
theorem State.winchUpdate_ledger (r : WinchReading) :
    ((s.winchTaken r).winchState.winchDuty.winchWish).ledger = s.ledger := by
  have wished : ∀ u : State, u.winchWish.ledger = u.ledger := fun u => by simp [State.winchWish]
  have stated : ∀ u : State, u.winchState.ledger = u.ledger := fun u => by
    unfold State.winchState State.hardHold State.jamTest State.jam State.winchNotice
    dsimp only
    (repeat' split) <;> simp
  rw [wished, (State.winchDuty_only _).ledger, stated, (s.winchTaken_only r).ledger]

end Motion

/-! ## Lamps (10) -/

section Lamps
variable (s : State)

@[simp] theorem State.onEdge_ledger (g : GenId) : (s.onEdge g).ledger = s.ledger := rfl

@[simp] theorem State.takeLightCode_ledger : s.takeLightCode.ledger = s.ledger := by
  unfold State.takeLightCode; split <;> rfl

/-- A remap gives functions other channels, and no item another value (R173). -/
@[simp] theorem State.failChannel_ledger (ch : ChannelId) : (s.failChannel ch).ledger = s.ledger := by
  unfold State.failChannel State.lampNotice
  dsimp only
  rw [State.raise_ledger, State.setLmp_ledger]
  refine s.remap_ledger ?_
  split
  · exact WorkingSet.giveSpare_items _ _
  · rfl

@[simp] theorem State.examine_ledger (ch : ChannelId) : (s.examine ch).ledger = s.ledger := by
  unfold State.examine; dsimp only; (repeat' split) <;> simp

@[simp] theorem State.lampCheck_ledger (c : Vector Nat 12) :
    (s.diagnose c).findRequested.shed.findLit.runGens.setChannels.ledger = s.ledger := by
  have diagnosed : (s.diagnose c).ledger = s.ledger :=
    foldl_leaves State.ledger (fun u ch => u.examine_ledger ch) _ _
  simp [State.setChannels, State.runGens, State.findLit, State.shed, State.findRequested, diagnosed]

@[simp] theorem State.moveFunction_ledger (f : FunctionId) (ch : Option ChannelId) :
    (s.moveFunction f ch).ledger = s.ledger := by
  unfold State.moveFunction
  split
  · rfl
  · exact s.remap_ledger rfl

@[simp] theorem State.clearFailed_ledger (ch : ChannelId) : (s.clearFailed ch).ledger = s.ledger := by
  have given : ∀ (fs : List FunctionId) (v : WorkingSet),
      (fs.foldl (fun v f => if (v.map[f]).isNone then v.giveSpare f else v) v).items = v.items := by
    intro fs
    induction fs with
    | nil => exact fun _ => rfl
    | cons f fs ih =>
      intro v
      rw [List.foldl_cons, ih]
      split
      · exact WorkingSet.giveSpare_items _ _
      · rfl
  unfold State.clearFailed State.lampNotice
  dsimp only
  rw [State.raise_ledger, State.remap_ledger, State.setLmp_ledger]
  exact given functionIds (s.ws.setFailed ch false)

end Lamps

end Sys2Proof.Machine
end

section
/-! PROOF. The allotment and the store stay sound (R68, R73, R77, R178): through a window, a recomputation, a change of the
mode and of the level, and a new working set. -/
namespace Sys2Proof.Machine

/-! ## The invariants together -/

/-- The allotment and the store are sound. -/
def State.SharesSound (s : State) : Prop := s.AllotSound ∧ s.StoreSound

/-- The modes before the first CENTERING. -/
abbrev VehicleMode.opens (m : VehicleMode) : Prop := m = .start ∨ m = .loading ∨ m = .packCheck

section Congruence
variable {s t : State}

/-- The store's invariant reads the mode, the end of the start sequence, and the store. -/
theorem State.StoreSound.congr (h : s.StoreSound) (mode : t.mdc.mode.opens → s.mdc.mode.opens)
    (done : t.mdc.startDone = s.mdc.startDone) (sst : t.sst = { s.sst with working := t.sst.working }) :
    t.StoreSound where
  early opens := done.trans (h.early (mode opens))
  snapshot := by rw [sst]; exact h.snapshot
  image := by rw [sst]; exact h.image
  valid := by rw [sst]; exact h.valid
  started := by rw [sst, done]; exact h.started

/-- Where the ledger stands but for the mode, which does not go back before the first CENTERING, so do the
invariants. -/
theorem State.SharesSound.of_ledger (h : s.SharesSound) (same : t.ledger = { s.ledger with mode := t.mdc.mode })
    (mode : t.mdc.mode.opens → s.mdc.mode.opens) : t.SharesSound := by
  obtain ⟨allot, storing⟩ := h
  simp only [State.ledger, Ledger.mk.injEq, true_and, funext_iff] at same
  obtain ⟨done, level, budget, holder, calm, scaled, granted, quiet, surge, store, snapshot, image⟩ := same
  refine ⟨⟨fun opens => done.trans (allot.early (mode opens)), ?_, ?_, ?_, fun k => ?_, ?_, ?_⟩,
    ⟨fun opens => done.trans (allot.early (mode opens)), ?_, ?_, ?_, ?_⟩⟩
  · simp only [done, holder, granted, scaled]; exact allot.zeroes
  · rw [holder, level]; exact allot.slot
  · simp only [holder, calm, quiet]; exact allot.held
  · unfold State.grantRule; rw [granted, scaled, holder, surge]; exact allot.ceilings k
  · simp only [scaled, budget]; exact allot.bound
  · simp only [level, granted]; exact allot.cutoff
  · rw [store, snapshot]; exact storing.snapshot
  · rw [store, image]; exact storing.image
  · rw [store, image]; exact storing.valid
  · rw [done, store]; exact storing.started

theorem State.SharesSound.congr (h : s.SharesSound) (same : t.ledger = s.ledger) : t.SharesSound := by
  have mode : t.mdc.mode = s.mdc.mode := congrArg Ledger.mode same
  refine h.of_ledger ?_ (by rw [mode]; exact id)
  rw [same, mode]
  rfl

end Congruence

/-! ## CAU computed anew (R70 to R75) -/

section Computed
variable {t : State}

/-- Before the end of the start sequence an empty slot and zeroes are sound (R68). -/
theorem State.AllotSound.of_zeroes (unstarted : t.mdc.startDone = false) (free : t.cau.holder = none)
    (zero : ∀ k, (t.cau.records.get k).granted = 0 ∧ (t.cau.records.get k).scaled = 0) : t.AllotSound where
  early _ := unstarted
  zeroes _ := ⟨free, zero⟩
  slot holds := by rw [free] at holds; cases holds
  held holds := by rw [free] at holds; cases holds
  ceilings k := by simp [State.grantRule, free, zero k]
  bound := by simp [PerConsumer.ofFn, PerConsumer.sum, zero]
  cutoff _ k := (zero k).1

/-- Ceilings that follow the scaled bases of the level's own budget are sound: at CUTOFF the budget, and with it every
scaled base, is 0 (R70, R72, R73). -/
theorem State.AllotSound.of_computed (started : t.mdc.startDone = true) (mode : ¬t.mdc.mode.opens)
    (slot : t.cau.holder.isSome = true → slotAllowed t.pkm.level = true)
    (held : t.cau.holder.isSome = true → t.cau.calm = 0 ∧ ∀ k, (t.cau.records.get k).quiet = 0)
    (ceilings : ∀ k, t.grantRule k) (budget : t.cau.budget = budgetFor t.ws t.pkm.level)
    (scaled : ∀ k, (t.cau.records.get k).scaled = (scaledBases t.ws t.cau.budget).get k) : t.AllotSound where
  early opens := absurd opens mode
  zeroes unstarted := by rw [started] at unstarted; cases unstarted
  slot := slot
  held := held
  ceilings := ceilings
  bound := by simp only [scaled]; exact scaledBases_sum_le t.ws t.cau.budget
  cutoff cut k := by
    have free : t.cau.holder = none := by
      cases holds : t.cau.holder with
      | none => rfl
      | some h => simpa [cut, slotAllowed] using slot (by rw [holds]; rfl)
    have none_left : t.cau.budget = 0 := by rw [budget, cut]; rfl
    have share := (PerConsumer.get_le_sum _ k).trans (scaledBases_sum_le t.ws t.cau.budget)
    have rule := ceilings k
    unfold State.grantRule at rule
    rw [free, scaled] at rule
    simp only [reduceCtorEq, if_false] at rule
    omega

/-- A window leaves the allotment sound (R69): it needs of the state before only that a holder stands where it may. -/
theorem State.AllotSound.of_window {s : State} (slot : s.cau.holder.isSome = true → slotAllowed s.pkm.level = true)
    (cau : t.cau = s.window.cau) (pkm : t.pkm = s.pkm) (ws : t.ws = s.ws) (started : t.mdc.startDone = true)
    (mode : ¬t.mdc.mode.opens) : t.AllotSound := by
  obtain ⟨-, budget, rules⟩ := s.window_level
  have holds_iff : t.cau.holder.isSome = true ↔ s.window.cau.holder ≠ none := by
    rw [cau, Option.isSome_iff_ne_none]
  refine .of_computed started mode (fun holds => ?_) (fun holds => ?_) (fun k => ?_) ?_ fun k => ?_
  · have taken := holds_iff.mp holds
    rw [State.window_holder] at taken
    rw [pkm]
    obtain stands | free | may := s.windowTaken_holder
    · exact slot (by rw [← stands]; exact Option.isSome_iff_ne_none.mpr taken)
    · exact absurd free taken
    · exact may.2
  · have taken := holds_iff.mp holds
    rw [cau]
    exact ⟨State.window_calm_held taken, fun k => by rw [State.window_quiet, if_neg taken]⟩
  · have rule := rules k
    unfold State.grantRule at rule ⊢
    rw [cau, ws]
    exact rule
  · rw [cau, pkm, ws, budget]
  · rw [cau, ws, budget, State.window_scaled]

/-- So does a recomputation outside the window, which releases a holder where the level asks for it (R74, R75). -/
theorem State.AllotSound.of_recomputes {s : State} (recomputes : s.recomputes t)
    (early : s.mdc.mode.opens → s.mdc.startDone = false)
    (zeroes : s.mdc.startDone = false →
      s.cau.holder = none ∧ ∀ k, (s.cau.records.get k).granted = 0 ∧ (s.cau.records.get k).scaled = 0)
    (held : s.cau.holder.isSome = true → s.cau.calm = 0 ∧ ∀ k, (s.cau.records.get k).quiet = 0)
    (mdc : t.mdc = s.mdc) (level : t.pkm.level = s.pkm.level) : t.AllotSound := by
  obtain ⟨unstarted, started⟩ := recomputes
  cases done : s.mdc.startDone with
  | false =>
    obtain ⟨free, zero⟩ := zeroes done
    have cau := unstarted done
    exact .of_zeroes (by rw [mdc, done]) (by rw [cau, free]) (by rw [cau]; exact zero)
  | true =>
    obtain ⟨-, budget, holder, calm, records⟩ := started done
    have holds : t.cau.holder.isSome = true → slotAllowed s.pkm.level = true ∧ s.cau.holder.isSome = true := by
      rw [holder]
      split
      · exact fun h => ⟨‹_›, h⟩
      · intro h; cases h
    have mode : ¬t.mdc.mode.opens := fun opens => by
      rw [mdc] at opens
      rw [early opens] at done
      cases done
    refine .of_computed (by rw [mdc, done]) mode (fun h => by rw [level]; exact (holds h).1) (fun h => ?_)
      (fun k => (records k).2.1) (by rw [budget, level]) fun k => (records k).1
    obtain ⟨still, quiet⟩ := held (holds h).2
    exact ⟨calm.trans still, fun k => (records k).2.2.2.2.1.trans (quiet k)⟩

end Computed

/-! ## A change of the mode (R28, R33, R69) -/

section Modes
variable {s : State}

/-- A change of the mode that does not go back before the first CENTERING keeps the invariants: where it ends the start
sequence CAU runs its first window, the slot being free. -/
theorem State.SharesSound.setMode (h : s.SharesSound) {m : VehicleMode} (on : m.opens → s.mdc.mode.opens) :
    (s.setMode m).SharesSound := by
  by_cases same : s.mdc.mode = m
  · rw [State.setMode_of_eq same]; exact h
  have entered : (s.modeEntered m).SharesSound := by
    refine h.of_ledger ?_ ?_
    · simp only [State.ledger, State.ws, State.modeEntered_mdc, State.modeEntered_cau, State.modeEntered_pkm,
        State.modeEntered_sst]
      rfl
    · rw [State.modeEntered_mdc]; exact on
  rw [State.setMode_eq same]
  split
  · rename_i ends
    simp only [State.startEnds, Bool.and_eq_true, Bool.not_eq_true', Bool.or_eq_true, decide_eq_true_eq] at ends
    obtain ⟨unstarted, last⟩ := ends
    have mode : ¬(s.modeEntered m).endStart.mdc.mode.opens := by
      rw [State.endStart_mdc, State.modeEntered_mdc]
      obtain rfl | rfl := last <;> simp [Mdc.enter]
    have idle : (s.modeEntered m).mdc.startDone = false := by rw [State.modeEntered_mdc]; exact unstarted
    obtain ⟨free, -⟩ := entered.1.zeroes idle
    refine ⟨.of_window (s := s.modeEntered m) (fun holds => by rw [free] at holds; cases holds) (State.endStart_cau _)
      (State.endStart_pkm _) (congrArg Sst.working (State.endStart_sst _)) (by rw [State.endStart_mdc]) mode,
      ⟨fun opens => absurd opens mode, ?_, ?_, ?_, fun never => ?_⟩⟩
    · rw [State.endStart_sst]; exact entered.2.snapshot
    · rw [State.endStart_sst]; exact entered.2.image
    · rw [State.endStart_sst]; exact entered.2.valid
    · rw [State.endStart_mdc] at never; cases never
  · exact entered

theorem State.SharesSound.setMdc (h : s.SharesSound) {d : Mdc} (mode : d.mode = s.mdc.mode)
    (done : d.startDone = s.mdc.startDone) : (s.setMdc d).SharesSound := h.congr (s.setMdc_ledger mode done)

theorem Mdc.recordCause_startDone (d : Mdc) (c : WakeCause) : (d.recordCause c).startDone = d.startDone := by
  unfold Mdc.recordCause
  (repeat' split) <;> rfl

/-- A wake cause keeps the invariants (R44). -/
theorem State.SharesSound.wake (h : s.SharesSound) (c : WakeCause) : (s.wake c).SharesSound := by
  have mode := Mdc.recordCause_mode s.mdc c
  have done := Mdc.recordCause_startDone s.mdc c
  unfold State.wake
  split
  · dsimp only
    split
    · refine State.SharesSound.setMode (s := s.setMdc { s.mdc.recordCause c with wakeCentering := true })
        (h.setMdc mode done) ?_
      simp
    · exact h.setMdc mode done
  · exact h

theorem State.SharesSound.judgeMotion (h : s.SharesSound) : s.judgeMotion.SharesSound := by
  unfold State.judgeMotion
  split
  · exact h.wake _
  · exact h

theorem State.SharesSound.readEncoders (h : s.SharesSound) (r : DriveReading) : (s.readEncoders r).SharesSound := by
  unfold State.readEncoders State.countMotion
  dsimp only
  split
  · exact State.SharesSound.judgeMotion (h.congr rfl)
  · exact h.congr rfl

theorem State.SharesSound.silenceExpires (h : s.SharesSound) : s.silenceExpires.SharesSound := by
  unfold State.silenceExpires
  split
  · exact h.setMode (by simp)
  · exact h

theorem State.SharesSound.autoParkExpires (h : s.SharesSound) : s.autoParkExpires.SharesSound := by
  unfold State.autoParkExpires
  split
  · exact h.setMode (by simp)
  · exact h

theorem State.SharesSound.parkTimerExpires (h : s.SharesSound) : s.parkTimerExpires.SharesSound := by
  have timed : (s.setMdc { s.mdc with parkTimer := none }).SharesSound := h.congr rfl
  unfold State.parkTimerExpires
  split
  · exact timed.wake _
  · exact h

/-- The report of an accepted frame changes to RUN, wakes, or counts (R25). -/
theorem State.SharesSound.report (h : s.SharesSound) : s.report.SharesSound := by
  have marked : (s.setMdc { s.mdc with lastNonNeutral := anyNonNeutral s.ws s.intent.axes }).SharesSound :=
    h.setMdc rfl rfl
  unfold State.report
  dsimp only
  split
  · split
    · exact marked.setMode (by simp)
    · exact marked
  · exact marked.setMdc rfl rfl
  · split
    · exact marked.setMdc rfl rfl
    · exact marked.setMdc rfl rfl
  · split
    · exact marked.wake _
    · exact marked

/-- PACK_CHECK ends in SHUTDOWN or CENTERING (R32). -/
theorem State.SharesSound.endPackCheck (h : s.SharesSound) : s.endPackCheck.SharesSound := by
  unfold State.endPackCheck
  split
  · exact h.setMode (by simp)
  · exact h.setMode (by simp)

theorem State.SharesSound.countSample (h : s.SharesSound) : s.countSample.SharesSound := by
  have counted : (s.setMdc { s.mdc with packCheckCount := s.mdc.packCheckCount + 1 }).SharesSound := h.setMdc rfl rfl
  unfold State.countSample
  split
  · dsimp only
    split
    · exact counted.endPackCheck
    · exact counted
  · exact h

/-- LOADING takes up the image and judges it, CAU standing at its zeroes (R178, R68). -/
theorem State.SharesSound.loadImage (h : s.SharesSound) (loading : s.mdc.mode = .loading) :
    s.loadImage.SharesSound := by
  obtain ⟨allot, storing⟩ := h
  have unstarted := allot.early (.inr (.inl loading))
  obtain ⟨free, zero⟩ := allot.zeroes unstarted
  have still := storing.started unstarted
  have dropped : s.sst.snapshot = none := by
    rw [← Option.not_isSome_iff_eq_none, ← storing.snapshot]; exact still
  have judged : s.loadImage.sst.store ≠ .writing ∧ (s.loadImage.sst.store = .valid → s.sst.image.valid = true) := by
    change (if s.sst.image.valid then StoreState.valid else .invalid) ≠ .writing ∧
      ((if s.sst.image.valid then StoreState.valid else .invalid) = .valid → _)
    split
    · exact ⟨by simp, fun _ => ‹_›⟩
    · simp
  refine ⟨.of_zeroes unstarted free zero, ⟨fun _ => unstarted, ?_, ?_, judged.2, fun _ => judged.1⟩⟩
  · exact ⟨fun writes => absurd writes judged.1, fun held => by
      change s.sst.snapshot.isSome = true at held
      rw [dropped] at held
      cases held⟩
  · exact fun writes => absurd writes judged.1

end Modes

end Sys2Proof.Machine
end

section
/-! PROOF. The allotment and the store stay sound through a change of the level, a new working set and the requests (R57 to
R63, R74, R75, R180 to R182). -/
namespace Sys2Proof.Machine

section
variable {s : State}

/-! ## The protection level (R57 to R63, R74, R181) -/

/-- A recomputation from a sound allotment, at a level of its own, leaves it sound. -/
theorem State.AllotSound.recomputed (h : s.AllotSound) {p : Pkm} {t : State} (recomputes : (s.setPkm p).recomputes t)
    (mdc : t.mdc = s.mdc) (level : t.pkm.level = p.level) : t.AllotSound :=
  .of_recomputes recomputes h.early h.zeroes h.held mdc level

/-- At CUTOFF a running write is abandoned: its snapshot is dropped, the image's check left wrong (R181). -/
theorem State.StoreSound.levelEntered (h : s.StoreSound) (l : Level) (c : LevelCause) :
    (s.levelEntered l c).StoreSound := by
  obtain ⟨-, -, -, -, mdc, -⟩ := s.levelEntered_rest l c
  have sst := s.levelEntered_sst l c
  by_cases abandoned : l = .cutoff ∧ s.sst.store = .writing
  · rw [if_pos abandoned] at sst
    exact ⟨by rw [mdc]; exact h.early, by rw [sst]; simp, by rw [sst]; simp, by rw [sst]; simp, by rw [sst]; simp⟩
  · rw [if_neg abandoned] at sst
    exact h.congr (by rw [mdc]; exact id) (by rw [mdc]) (by rw [sst])

theorem State.levelRecord_startDone (s : State) (l : Level) : (s.levelRecord l).startDone = s.mdc.startDone := by
  unfold State.levelRecord
  dsimp only
  (repeat' split) <;> simp [Mdc.recordCause_startDone]

/-- A change of the level brings no mode of the start sequence. -/
theorem State.levelMode_on (s : State) (l : Level) : (s.levelMode l).opens → s.mdc.mode.opens := by
  unfold State.levelMode
  split
  · split
    · simp
    · exact id
  · split
    · simp
    · exact id

/-- A change of the level keeps the invariants: CAU recomputes, a write at CUTOFF is abandoned, MDC follows (R63). -/
theorem State.SharesSound.setLevel (h : s.SharesSound) (l : Level) (c : LevelCause) : (s.setLevel l c).SharesSound := by
  obtain ⟨-, -, -, -, mdc, -⟩ := s.levelEntered_rest l c
  have entered : (s.levelEntered l c).SharesSound :=
    ⟨h.1.recomputed (s.levelEntered_cau l c) mdc rfl, h.2.levelEntered l c⟩
  rw [State.setLevel_eq, State.modeOnLevel_eq]
  refine State.SharesSound.setMode (s := (s.levelEntered l c).setMdc _)
    (entered.setMdc (State.levelRecord_mode _ l) (State.levelRecord_startDone _ l)) fun opens => ?_
  rw [State.setMdc_mdc, State.levelRecord_mode]
  exact State.levelMode_on _ l opens

/-- So does PKM's state at the same level. -/
theorem State.SharesSound.setPkm (h : s.SharesSound) {p : Pkm} (level : p.level = s.pkm.level) :
    (s.setPkm p).SharesSound := h.congr (s.setPkm_ledger level)

/-- A rise is a change of the level (R57). -/
theorem State.SharesSound.rise (h : s.SharesSound) {t : State} (rises : s.rise = some t) : t.SharesSound := by
  unfold State.rise at rises
  dsimp only at rises
  split at rises
  · obtain ⟨k, -, rfl⟩ := Option.map_eq_some_iff.mp rises
    exact h.setLevel _ _
  · cases rises

theorem State.SharesSound.fall (h : s.SharesSound) (r : Sample) : (s.fall r).SharesSound := by
  unfold State.fall
  split
  · split
    · exact h.setPkm rfl
    · split
      · exact h.setLevel _ _
      · exact h.setPkm rfl
  · exact h.setPkm rfl

theorem State.SharesSound.settleLevel (h : s.SharesSound) (r : Sample) : (s.settleLevel r).SharesSound := by
  unfold State.settleLevel
  split
  · exact h.rise ‹_›
  · exact h.fall r

theorem Pkm.addCharge_level (p : Pkm) (charge : Nat) : (p.addCharge charge).level = p.level := by
  unfold Pkm.addCharge; split <;> rfl

/-- A sample moves the level at its settlement alone (R49). -/
theorem Pkm.observe_level (p : Pkm) (w : WorkingSet) (c : Cau) (ms : Nat) (r : PackReading) :
    (p.observe w c ms r).level = p.level := Pkm.addCharge_level _ _

/-- A condition that reaches its figure leaves the level to the rise (R54, log 6). -/
theorem Pkm.reach_level {p p' : Pkm} {w : WorkingSet} {exempt : Bool} {k : Condition}
    (reached : p.reach w exempt k = some p') : p'.level = p.level := by
  unfold Pkm.reach at reached
  dsimp only at reached
  split at reached
  all_goals
    split at reached
    · obtain rfl := Option.some.inj reached
      rfl
    · cases reached

/-! ## The working set (R75, R178, R182) -/

/-- A recomputation at the level as it stands leaves the allotment sound. -/
theorem State.SharesSound.recomputeCau (h : s.SharesSound) {t : State} (recomputes : s.recomputes t)
    (mdc : t.mdc = s.mdc) (level : t.pkm.level = s.pkm.level) (sst : t.sst = { s.sst with working := t.sst.working }) :
    t.SharesSound :=
  ⟨h.1.recomputed (p := s.pkm) recomputes mdc level, h.2.congr (by rw [mdc]; exact id) (by rw [mdc]) sst⟩

theorem State.replaceWorking_level (s : State) (w : WorkingSet) : (s.replaceWorking w).pkm.level = s.pkm.level := by
  obtain ⟨-, -, -, restarts, stands⟩ := s.replaceWorking_spec w
  by_cases cells : (rederive s.ws w).int Item.cellCount = s.ws.int Item.cellCount
  · rw [stands cells]
  · have restarted := restarts cells
    unfold State.countsRestart at restarted
    rw [restarted]

/-- A new working set keeps the invariants (R75, R182). -/
theorem State.SharesSound.replaceWorking (h : s.SharesSound) (w : WorkingSet) : (s.replaceWorking w).SharesSound := by
  obtain ⟨recomputes, -⟩ := s.replaceWorking_spec w
  obtain ⟨-, -, -, parts⟩ := s.replaceWorking_changes w
  exact h.recomputeCau recomputes (s.replaceWorking_mdc w) (s.replaceWorking_level w) (parts .store (by decide))

theorem State.SharesSound.finishLoad (h : s.SharesSound) : s.finishLoad.SharesSound :=
  (h.replaceWorking s.sst.image.content).congr rfl

/-! ## SET (R75, R179) -/

/-- Setting another item leaves SURGE_MA. -/
theorem surge_setItem_of_not_allot (w : WorkingSet) {i : Fin 78} (v : Int) (other : isAllotItem i = false) :
    (w.setItem i v).nat Item.surgeMa = w.nat Item.surgeMa := by
  have ne : Item.surgeMa ≠ i := by
    rintro rfl
    revert other
    decide
  rw [WorkingSet.nat, WorkingSet.int_setItem_of_ne w v ne, WorkingSet.nat]

/-- An item of the allotment has CAU recompute and no other effect (R75). -/
theorem State.settingTakesEffect_allot (s : State) {i : Fin 78} (allot : isAllotItem i = true) :
    s.settingTakesEffect i = s.recomputeCau := by
  have ne {j : Fin 78} (other : isAllotItem j = false) : i ≠ j := fun same => by
    rw [same, other] at allot
    cases allot
  rw [State.settingTakesEffect, if_neg (ne (by decide)), if_neg (ne (by decide)), if_neg (ne (by decide)),
    if_neg (ne (by decide)), if_pos allot]

theorem State.SharesSound.settingTakesEffect (h : s.SharesSound) (i : Fin 78) :
    (s.settingTakesEffect i).SharesSound := by
  unfold State.settingTakesEffect
  split_ifs
  · exact h.congr rfl
  · exact h.silenceExpires
  · exact h
  · exact h.autoParkExpires
  · exact h
  · exact h.setPkm rfl
  · exact h.recomputeCau s.recomputeCau_recomputes (by simp) (by simp) (by simp)
  · exact h

/-- A new value of an item, in the working set. -/
theorem State.SharesSound.setItem (h : s.SharesSound) (i : Fin 78) (v : Int) (q : RawRequest) :
    (((s.setWorking (s.ws.setItem i v)).ok q []).settingTakesEffect i).SharesSound := by
  cases allot : isAllotItem i with
  | false =>
    have set : ((s.setWorking (s.ws.setItem i v)).ok q []).SharesSound :=
      h.congr (s.setWorking_ledger (surge_setItem_of_not_allot _ v allot))
    exact set.settingTakesEffect i
  | true =>
    rw [State.settingTakesEffect_allot _ allot]
    refine ⟨.of_recomputes (State.recomputeCau_recomputes _) h.1.early h.1.zeroes h.1.held (by simp) (by simp),
      h.2.congr ?_ ?_ ?_⟩ <;> simp [State.setWorking]

theorem State.SharesSound.serveSet (h : s.SharesSound) (q : RawRequest) (id : Byte) (v : Word) :
    (s.serveSet q id v).SharesSound := by
  have refused : ∀ st, (s.refuse q st).SharesSound := fun _ => h.congr rfl
  unfold State.serveSet
  dsimp only
  split
  · exact refused _
  split
  · exact refused _
  split
  · split
    · exact refused _
    split
    · exact refused _
    split
    · exact refused _
    · exact h.setItem _ _ q
  · exact refused _

/-! ## Requests (R6) -/

theorem State.SharesSound.serveHello (h : s.SharesSound) (q : RawRequest) : (s.serveHello q).SharesSound := by
  unfold State.serveHello
  split
  · rename_i start
    refine State.SharesSound.setMode (s := s.setMdc { s.mdc with deferredHello := some q.tag }) (h.congr rfl) fun _ => ?_
    exact .inl start
  all_goals exact h.congr rfl

theorem State.SharesSound.serveReset (h : s.SharesSound) (q : RawRequest) : (s.serveReset q).SharesSound := by
  unfold State.serveReset
  split <;> exact h.congr rfl

theorem State.SharesSound.serveResume (h : s.SharesSound) (q : RawRequest) : (s.serveResume q).SharesSound := by
  have resumed : (s.setMode .run).SharesSound := h.setMode (by simp)
  unfold State.serveResume
  split
  · split
    · exact resumed.congr rfl
    · split <;> exact h.congr rfl
  · exact h.congr rfl

theorem State.SharesSound.servePark (h : s.SharesSound) (q : RawRequest) : (s.servePark q).SharesSound := by
  have parked : (s.setMode .park).SharesSound := h.setMode (by simp)
  unfold State.servePark
  split
  · split
    · exact h.congr rfl
    · exact parked.congr rfl
  · exact h.congr rfl

theorem State.SharesSound.serveWake (h : s.SharesSound) (q : RawRequest) : (s.serveWake q).SharesSound := by
  have answered : (s.ok q []).SharesSound := h.congr rfl
  unfold State.serveWake
  split
  · exact answered.wake _
  · exact h.congr rfl

theorem State.SharesSound.serveClearCutoff (h : s.SharesSound) (q : RawRequest) :
    (s.serveClearCutoff q).SharesSound := by
  have cleared : ((s.setLevel .limit .cleared).ok q []).SharesSound := (h.setLevel .limit .cleared).congr rfl
  unfold State.serveClearCutoff
  dsimp only
  split
  · exact h.congr rfl
  split
  · exact h.congr rfl
  split
  · exact h.congr rfl
  split
  · exact cleared.setMode (by simp)
  · exact cleared

/-- STORE_SAVE takes the snapshot, leaves the image's check wrong, and is served after the start sequence alone (R6,
R180). -/
theorem State.SharesSound.serveStoreSave (h : s.SharesSound) (started : s.mdc.startDone = true) (q : RawRequest) :
    (s.serveStoreSave q).SharesSound := by
  unfold State.serveStoreSave
  split_ifs
  iterate 5 exact h.congr rfl
  obtain ⟨allot, storing⟩ := h
  refine ⟨⟨allot.early, allot.zeroes, allot.slot, allot.held, allot.ceilings, allot.bound, allot.cutoff⟩,
    ⟨storing.early, ?_, ?_, ?_, fun unstarted => ?_⟩⟩
  · simp
  · simp
  · simp
  · have still : s.mdc.startDone = false := unstarted
    rw [started] at still
    cases still

theorem State.SharesSound.serveStoreLoad (h : s.SharesSound) (q : RawRequest) : (s.serveStoreLoad q).SharesSound := by
  unfold State.serveStoreLoad
  split
  · exact h.congr rfl
  · split <;> exact h.congr rfl

theorem State.SharesSound.serveStoreDefaults (h : s.SharesSound) (q : RawRequest) :
    (s.serveStoreDefaults q).SharesSound := by
  have answered : (s.ok q []).SharesSound := h.congr rfl
  unfold State.serveStoreDefaults
  split
  · exact h.congr rfl
  · exact answered.replaceWorking _

section Owners
variable (s)

theorem State.serveClearCorner_ledger (q : RawRequest) (c : Byte) : (s.serveClearCorner q c).ledger = s.ledger := by
  unfold State.serveClearCorner; dsimp only; (repeat' split) <;> rfl

theorem State.serveTrimSearch_ledger (q : RawRequest) (m : Byte) : (s.serveTrimSearch q m).ledger = s.ledger := by
  unfold State.serveTrimSearch; dsimp only; split_ifs <;> rfl

theorem State.serveTrimAbort_ledger (q : RawRequest) : (s.serveTrimAbort q).ledger = s.ledger := by
  unfold State.serveTrimAbort
  split <;> rfl

theorem State.serveClutchFree_ledger (q : RawRequest) : (s.serveClutchFree q).ledger = s.ledger := by
  unfold State.serveClutchFree; split_ifs <;> rfl

theorem State.serveClutchEngage_ledger (q : RawRequest) : (s.serveClutchEngage q).ledger = s.ledger := by
  unfold State.serveClutchEngage; split_ifs <;> rfl

theorem State.serveClearWinch_ledger (q : RawRequest) : (s.serveClearWinch q).ledger = s.ledger := by
  unfold State.serveClearWinch; split <;> rfl

theorem State.serveMapLamp_ledger (q : RawRequest) (f c : Byte) : (s.serveMapLamp q f c).ledger = s.ledger := by
  unfold State.serveMapLamp
  split
  · rfl
  split
  · rfl
  split
  · exact s.moveFunction_ledger _ _
  split
  · rfl
  split
  · rfl
  split
  · rfl
  · exact s.moveFunction_ledger _ _

theorem State.serveSetFunction_ledger (q : RawRequest) (f : Byte) (r : FuncRec) :
    (s.serveSetFunction q f r).ledger = s.ledger := by
  unfold State.serveSetFunction; (repeat' split) <;> rfl

theorem State.serveGetFunction_ledger (q : RawRequest) (f : Byte) : (s.serveGetFunction q f).ledger = s.ledger := by
  unfold State.serveGetFunction; split <;> rfl

theorem State.serveSetGenerator_ledger (q : RawRequest) (g : Byte) (p : Half) (d : GenDuty) :
    (s.serveSetGenerator q g p d).ledger = s.ledger := by
  unfold State.serveSetGenerator; dsimp only; (repeat' split) <;> rfl

theorem State.serveClearChannel_ledger (q : RawRequest) (c : Byte) : (s.serveClearChannel q c).ledger = s.ledger := by
  unfold State.serveClearChannel
  split
  · rfl
  split
  · exact State.clearFailed_ledger (s.ok q []) _
  · rfl

theorem State.serveGet_ledger (q : RawRequest) (i : Byte) : (s.serveGet q i).ledger = s.ledger := by
  unfold State.serveGet; (repeat' split) <;> rfl

end Owners

/-- The owner of a request keeps the invariants; STORE_SAVE is served after the start sequence alone. -/
theorem State.SharesSound.owner (h : s.SharesSound) (q : RawRequest) {r : Request}
    (served : (s.mdc.startDone || r.early) = true) : (s.owner q r).SharesSound := by
  cases r
  case hello => exact h.serveHello q
  case reset => exact h.serveReset q
  case resume => exact h.serveResume q
  case park => exact h.servePark q
  case wake => exact h.serveWake q
  case clearCutoff => exact h.serveClearCutoff q
  case set id v => exact h.serveSet q id v
  case storeSave => exact h.serveStoreSave (by simpa [Request.early] using served) q
  case storeLoad => exact h.serveStoreLoad q
  case storeDefaults => exact h.serveStoreDefaults q
  case winchClutch engage =>
    cases engage
    · exact h.congr (s.serveClutchFree_ledger q)
    · exact h.congr (s.serveClutchEngage_ledger q)
  case clearCorner c => exact h.congr (s.serveClearCorner_ledger q c)
  case trimSearch m => exact h.congr (s.serveTrimSearch_ledger q m)
  case trimAbort => exact h.congr (s.serveTrimAbort_ledger q)
  case clearWinch => exact h.congr (s.serveClearWinch_ledger q)
  case mapLamp f c => exact h.congr (s.serveMapLamp_ledger q f c)
  case setFunction f r => exact h.congr (s.serveSetFunction_ledger q f r)
  case getFunction f => exact h.congr (s.serveGetFunction_ledger q f)
  case setGenerator g p d => exact h.congr (s.serveSetGenerator_ledger q g p d)
  case clearChannel c => exact h.congr (s.serveClearChannel_ledger q c)
  case get i => exact h.congr (s.serveGet_ledger q i)
  all_goals exact h.congr rfl

theorem State.SharesSound.serve (h : s.SharesSound) (q : RawRequest) : (s.serve q).SharesSound := by
  unfold State.serve
  split
  · exact h.congr rfl
  · split
    · exact h.congr rfl
    · split
      · exact h.owner q ‹_›
      · exact h.congr rfl

end

end Sys2Proof.Machine
end

section
/-! PROOF. O59: every step keeps the allotment and the store sound (R68 to R83, R178 to R182). -/
namespace Sys2Proof.Machine

section
variable {s : State}

/-! ## Dispatch (R6) -/

/-- A command that acts keeps the invariants if its act does. -/
theorem State.SharesSound.act {t : State} {f : State → State} (h : s.SharesSound)
    (next : Sys2Proof.Machine.act s f = .next t) (acted : (f s).SharesSound) : t.SharesSound := by
  unfold Sys2Proof.Machine.act at next
  obtain rfl := Host.Outcome.next.inj next
  split
  · exact acted.congr (by simp)
  · exact h

theorem State.SharesSound.dispatchOne (h : s.SharesSound) : s.dispatchOne.SharesSound := by
  unfold State.dispatchOne
  split
  · exact h
  · split
    · exact h
    · rename_i q rest _
      have taken : (s.setLink { s.link with waiting := rest, slots := s.link.slots + 1 }).SharesSound := h.congr rfl
      exact (taken.serve q).congr (by simp)

theorem State.SharesSound.dispatchUpTo (n : Nat) (h : s.SharesSound) : (s.dispatchUpTo n).SharesSound := by
  induction n generalizing s with
  | zero => exact h
  | succ n ih => exact ih h.dispatchOne

theorem State.SharesSound.enqueue (h : s.SharesSound) (q : RawRequest) : (s.enqueue q).SharesSound := by
  unfold State.enqueue
  split
  · exact h
  · split
    · exact State.SharesSound.dispatchUpTo _ (h.congr rfl)
    · exact h.congr rfl

/-! ## Frames from the link (R1, R3, R13) -/

/-- An accepted frame reaches the mode; the codes, the assist and the lamps are not in the ledger. -/
theorem State.SharesSound.takeControl (h : s.SharesSound) (f : ControlFrame) : (s.takeControl f).SharesSound := by
  unfold State.takeControl
  split
  · exact h
  · split
    · exact h.congr rfl
    · rename_i v _
      split
      · have seen : (s.setIntent (s.intent.take v)).SharesSound := h.congr rfl
        unfold State.acceptFrame
        exact seen.report.congr (by simp)
      · exact h

theorem State.SharesSound.judgeKind (h : s.SharesSound) (kind tag : Byte) (p : List Byte) :
    (s.judgeKind kind tag p).SharesSound := by
  have dropped : (s.drop .malformed).SharesSound := h.congr rfl
  unfold State.judgeKind
  split
  · exact h
  split
  · split
    · exact h.takeControl _
    · exact dropped
  split
  · split
    · split
      · exact h.enqueue _
      · exact dropped
    · exact h.enqueue _
  · exact dropped

theorem State.SharesSound.takeByte (h : s.SharesSound) (b : Byte) : (s.takeByte b).SharesSound := by
  have moved : ∀ rx, (s.setRx rx).SharesSound := fun _ => h.congr rfl
  unfold State.takeByte
  split
  · split
    · exact moved _
    · exact h
  · split
    · exact moved _
    · exact h.congr rfl
  · exact moved _
  · exact moved _
  · exact moved _
  · exact moved _
  · unfold State.judge
    split
    · exact (moved _).judgeKind _ _ _
    · exact h.congr rfl

/-! ## Resets (R22, R27, R67, R178) -/

/-- CAU and the store as after a reset, before the end of the start sequence, are sound at every level and with every
image. -/
theorem State.sharesSound_of_reset {t : State} (mdc : t.mdc.startDone = false) (cau : t.cau = cauReset)
    (sst : t.sst = sstReset t.sst.image) : t.SharesSound := by
  obtain ⟨free, zero⟩ := State.reset_allotSound.zeroes rfl
  have store : t.sst.store ≠ .writing := by rw [sst]; simp [sstReset]
  refine ⟨.of_zeroes mdc (by rw [cau]; exact free) (by rw [cau]; exact zero),
    ⟨fun _ => mdc, ?_, fun writes => absurd writes store, ?_, fun _ => store⟩⟩
  · rw [sst]; simp [sstReset]
  · rw [sst]; simp [sstReset]

theorem State.takeReset_sharesSound (s : State) : s.takeReset.SharesSound := State.sharesSound_of_reset rfl rfl rfl

theorem State.powerOn_sharesSound (s : State) : s.powerOn.SharesSound := State.sharesSound_of_reset rfl rfl rfl

/-! ## The slot outside the window (R80, R81, R83) -/

/-- Where the slot is free and every ceiling is the scaled base, the bases and the budget as they stood, the allotment
stays sound: at CUTOFF the bases were 0 with the ceilings. -/
theorem State.SharesSound.freed (h : s.SharesSound) {c : Cau} (free : c.holder = none)
    (budget : c.budget = s.cau.budget)
    (records : ∀ k, (c.records.get k).scaled = (s.cau.records.get k).scaled ∧
      (c.records.get k).granted = (s.cau.records.get k).scaled) : (s.setCau c).SharesSound := by
  obtain ⟨allot, storing⟩ := h
  have scaled (k : Consumer) := (records k).1
  have granted (k : Consumer) := (records k).2
  refine ⟨⟨allot.early, fun unstarted => ⟨free, fun k => ?_⟩, fun holds => ?_, fun holds => ?_, fun k => ?_, ?_,
    fun cut k => ?_⟩, storing.congr id rfl rfl⟩
  · obtain ⟨-, zero⟩ := (allot.zeroes unstarted).2 k
    exact ⟨(granted k).trans zero, (scaled k).trans zero⟩
  · rw [State.setCau_cau, free] at holds; cases holds
  · rw [State.setCau_cau, free] at holds; cases holds
  · simp [State.grantRule, free, scaled k, granted k]
  · simp only [State.setCau_cau, scaled, budget]
    exact allot.bound
  · have rule := allot.ceilings k
    have none_granted := allot.cutoff cut k
    unfold State.grantRule at rule
    exact (granted k).trans (by omega)

theorem Cau.release_scaled (c : Cau) (lower : Bool) (k : Consumer) :
    ((c.release lower).records.get k).scaled = (c.records.get k).scaled := by
  by_cases held : c.holder = some k
  · rw [Cau.release_record_self held]
  · rw [Cau.release_record_other held]

theorem State.SharesSound.giveUpSlot (h : s.SharesSound) : s.giveUpSlot.SharesSound :=
  h.freed (by simp) (s.cau.release_budget true).1 fun k => by simp [Cau.release_scaled]

/-- The return to calm clears LOWERED, the slot being free (R83). -/
theorem State.SharesSound.calmReturn (h : s.SharesSound) (free : s.cau.holder = none) :
    (s.setCau { s.cau with calm := 2 }.clearLowered).SharesSound := by
  refine h.freed free rfl fun k => ?_
  have rule := h.1.ceilings k
  simpa [State.grantRule, free] using rule

theorem State.SharesSound.window (h : s.SharesSound) (started : s.mdc.startDone = true) : s.window.SharesSound :=
  ⟨.of_window h.1.slot rfl rfl rfl started (fun opens => by
    have unstarted := h.1.early opens
    rw [started] at unstarted
    cases unstarted), h.2.congr id rfl rfl⟩

/-! ## The end of a store write (R180) -/

/-- SAVE_COMPLETE: the snapshot becomes the image, its check with it. -/
theorem State.SharesSound.saved (h : s.SharesSound) (w : WorkingSet) :
    (s.setSst { s.sst with image := Image.of w, store := .valid, snapshot := none, writeMs := 0 }).SharesSound := by
  obtain ⟨allot, storing⟩ := h
  refine ⟨⟨allot.early, allot.zeroes, allot.slot, allot.held, allot.ceilings, allot.bound, allot.cutoff⟩,
    ⟨storing.early, ?_, ?_, ?_, fun _ => ?_⟩⟩ <;> simp

/-! ## The periodic events (R49, R90, R128, R146) -/

/-- LOADING ends in PACK_CHECK, the image taken up (R31). -/
theorem State.SharesSound.loadingEnd (h : s.SharesSound) (loading : s.mdc.mode = .loading) :
    (s.loadImage.setMode .packCheck).SharesSound :=
  (h.loadImage loading).setMode fun _ => .inr (.inl loading)

theorem State.SharesSound.packSample (h : s.SharesSound) (c : Cau) (ms : Nat) (r : PackReading) (x : Sample) :
    (((s.setPkm (s.pkm.observe s.ws c ms r)).settleLevel x).countSample).SharesSound :=
  ((h.setPkm (Pkm.observe_level _ _ _ _ _)).settleLevel x).countSample

theorem State.SharesSound.driveUpdate (h : s.SharesSound) (r : DriveReading) :
    let read := (s.readEncoders r).setDrc ((s.readEncoders r).drc.readCurrents r)
    read.updateFollow.takeDriveCode.driveAxles.SharesSound :=
  (h.readEncoders r).congr (by simp [State.updateFollow])

/-! ## Steps -/

/-- A command that is neither a request nor a loss or return of supply acts, and its act keeps the invariants. -/
theorem exec_acts_sharesSound {i : Instr} (request : requestOf i = none)
    (supply : i ≠ .powerOnReset ∧ i ≠ .brownOut) :
    ∃ f : State → State, (∀ s, exec i s = act s f) ∧ ∀ s : State, s.SharesSound → (f s).SharesSound := by
  cases i
  case powerOnReset => exact absurd rfl supply.1
  case brownOut => exact absurd rfl supply.2
  case byteReceived b =>
    refine ⟨_, fun _ => rfl, fun s h => ?_⟩
    split
    · exact h
    · exact h.takeByte b
  case gapTimerExpiry => exact ⟨_, fun _ => rfl, fun s h => h.congr (by split <;> rfl)⟩
  case frameSent =>
    refine ⟨_, fun _ => rfl, fun s h => ?_⟩
    split
    · exact h
    · split
      · exact s.takeReset_sharesSound
      · exact h.congr rfl
  case controlFrame f => exact ⟨_, fun _ => rfl, fun s h => h.takeControl f⟩
  case undefinedRequest kind tag => exact ⟨_, fun _ => rfl, fun s h => h.judgeKind _ _ _⟩
  case loadingEnd =>
    refine ⟨_, fun _ => rfl, fun s h => ?_⟩
    split
    · exact h.loadingEnd ‹_›
    · exact h
  case packCheckEnd =>
    refine ⟨_, fun _ => rfl, fun s h => ?_⟩
    split
    · exact State.SharesSound.endPackCheck (h.congr rfl)
    · exact h
  case centeringEnd =>
    refine ⟨_, fun _ => rfl, fun s h => ?_⟩
    split
    · exact h.setMode (by simp)
    · exact h
  case silenceTimerExpiry => exact ⟨_, fun _ => rfl, fun s h => h.silenceExpires⟩
  case autoParkExpiry => exact ⟨_, fun _ => rfl, fun s h => h.autoParkExpires⟩
  case parkTimerExpiry => exact ⟨_, fun _ => rfl, fun s h => h.parkTimerExpires⟩
  case motionWake => exact ⟨_, fun _ => rfl, fun s h => h.judgeMotion⟩
  case packSample r =>
    refine ⟨_, fun _ => rfl, fun s h => ?_⟩
    split
    · exact h.packSample _ _ r _
    · exact h
  case levelRise k =>
    refine ⟨_, fun _ => rfl, fun s h => ?_⟩
    split
    · split
      · rename_i p reached
        cases rises : (s.setPkm p).rise with
        | none => exact h
        | some u => exact (h.setPkm (Pkm.reach_level reached)).rise rises
      · exact h
    · exact h
  case levelStepDown =>
    refine ⟨_, fun _ => rfl, fun s h => ?_⟩
    split
    · exact h.setLevel _ _
    · exact h
  case allotmentWindow =>
    refine ⟨_, fun _ => rfl, fun s h => ?_⟩
    split
    · exact h.window ‹_›
    · exact h
  case surgeHoldCompleted =>
    refine ⟨_, fun _ => rfl, fun s h => ?_⟩
    split
    · split
      · exact h.giveUpSlot
      · exact h
    · exact h
  case surgeLapsed =>
    refine ⟨_, fun _ => rfl, fun s h => ?_⟩
    split
    · split
      · exact h.giveUpSlot
      · exact h
    · exact h
  case calmReturn =>
    refine ⟨_, fun _ => rfl, fun s h => ?_⟩
    split
    · rename_i calm
      simp only [Bool.and_eq_true, Option.isNone_iff_eq_none] at calm
      exact h.calmReturn calm.1.1.2
    · exact h
  case saveComplete =>
    refine ⟨_, fun _ => rfl, fun s h => ?_⟩
    split
    · exact (h.saved _).congr rfl
    · exact h
  case storeLoadEnd =>
    refine ⟨_, fun _ => rfl, fun s h => ?_⟩
    split
    · exact State.SharesSound.dispatchUpTo _ (h.finishLoad.congr (by simp))
    · exact h
  case driveUpdate r => exact ⟨_, fun _ => rfl, fun s h => h.driveUpdate r⟩
  case servoFrame r => exact ⟨_, fun _ => rfl, fun s h => h.congr (by simp)⟩
  case winchUpdate r => exact ⟨_, fun _ => rfl, fun s h => h.congr (s.winchUpdate_ledger r)⟩
  case lampCheck c => exact ⟨_, fun _ => rfl, fun s h => h.congr (s.lampCheck_ledger c)⟩
  case pendingLockTaken =>
    exact ⟨_, fun _ => rfl, fun s h => h.congr (by
      split
      · rfl
      · split <;> simp)⟩
  case lightSelTake => exact ⟨_, fun _ => rfl, fun s h => h.congr (by simp)⟩
  case cornerStall c => exact ⟨_, fun _ => rfl, fun s h => h.congr (by dsimp only; split <;> simp)⟩
  case cornerOpen c => exact ⟨_, fun _ => rfl, fun s h => h.congr (by dsimp only; split <;> simp)⟩
  case restEnd c => exact ⟨_, fun _ => rfl, fun s h => h.congr (by dsimp only; split <;> simp)⟩
  case clearingHoldEnd c => exact ⟨_, fun _ => rfl, fun s h => h.congr (by dsimp only; split <;> simp)⟩
  case alignTimeout => exact ⟨_, fun _ => rfl, fun s h => h.congr (by split <;> simp)⟩
  case settleEnd => exact ⟨_, fun _ => rfl, fun s h => h.congr (by split <;> rfl)⟩
  case searchCornerBegin => exact ⟨_, fun _ => rfl, fun s h => h.congr (by split <;> simp)⟩
  case searchWaitEnd => exact ⟨_, fun _ => rfl, fun s h => h.congr (by (repeat' split) <;> simp)⟩
  case searchStepJudged => exact ⟨_, fun _ => rfl, fun s h => h.congr (by (repeat' split) <;> simp)⟩
  case axleStall a => exact ⟨_, fun _ => rfl, fun s h => h.congr (by dsimp only; split <;> simp)⟩
  case axleRestEnd a => exact ⟨_, fun _ => rfl, fun s h => h.congr (by dsimp only; split <;> simp)⟩
  case winchJam => exact ⟨_, fun _ => rfl, fun s h => h.congr (by dsimp only; split <;> rfl)⟩
  case clutchTimerExpiry => exact ⟨_, fun _ => rfl, fun s h => h.congr (by split <;> rfl)⟩
  case onEdge g => exact ⟨_, fun _ => rfl, fun s h => h.congr (by split <;> rfl)⟩
  case offEdge g => exact ⟨_, fun _ => rfl, fun s h => h.congr (by dsimp only; split <;> rfl)⟩
  case shortTrip c => exact ⟨_, fun _ => rfl, fun s h => h.congr (by dsimp only; split <;> rfl)⟩
  all_goals cases request

/-- Every command keeps the invariants. -/
theorem exec_sharesSound {i : Instr} {t : State} (next : exec i s = .next t) (h : s.SharesSound) : t.SharesSound := by
  by_cases up : i = .powerOnReset
  · subst up
    obtain rfl := Host.Outcome.next.inj next
    exact s.powerOn_sharesSound
  by_cases down : i = .brownOut
  · subst down
    obtain rfl := Host.Outcome.next.inj next
    exact s.powerOn_sharesSound.congr rfl
  cases request : requestOf i with
  | some q =>
    have pinned : (s.pinned i).SharesSound := by
      unfold State.pinned
      split
      · exact h.congr rfl
      · exact h
    exact pinned.act ((exec_requestOf request s).symm.trans next) (pinned.enqueue q)
  | none =>
    obtain ⟨f, acts, keeps⟩ := exec_acts_sharesSound request ⟨up, down⟩
    exact h.act ((acts s).symm.trans next) (keeps s h)

/-- A millisecond moves timers alone (log 2). -/
theorem State.SharesSound.tick (h : s.SharesSound) (idle : s.pending = []) : s.tick.SharesSound := by
  by_cases powered : s.powered = true
  · have moved : step s = .next s.tick := by unfold step; rw [idle]
    obtain moved := moved.symm.trans (idleStepMovesEveryTimerByOneMillisecond s idle powered)
    rw [Host.Outcome.next.inj moved]
    exact h.congr rfl
  · unfold State.tick
    rw [if_neg powered]
    exact h

end

/-- Settles O59, by the commands: each computes CAU anew, frees the slot, moves the mode, the level, the working set or
the store by its rule, or leaves the ledger. -/
theorem everyStepKeepsAllotmentAndStore : Obligations.EveryStepKeepsAllotmentAndStore := by
  intro s t allot storing next
  have h : s.SharesSound := ⟨allot, storing⟩
  unfold step at next
  split at next
  · exact exec_sharesSound next (h.congr rfl)
  · rename_i idle
    obtain rfl := Host.Outcome.next.inj next
    exact h.tick idle

end Sys2Proof.Machine
end

section
/-! PROOF. What the invariants of steering, axles and winch read of a state (R89, R109, R116, R131, R145, R157), and that
the Mode Controller's changes of the mode keep them. -/
namespace Sys2Proof.Machine

/-! ## The pose -/

/-- What `State.SteeringSound` and `State.WinchSound` read: steering, search, axles, winch and the vehicle mode. -/
structure Pose where
  stc : Stc
  tse : Tse
  drc : Drc
  wnc : Wnc
  mode : VehicleMode

/-- The pose of a state. -/
def State.pose (s : State) : Pose := ⟨s.stc, s.tse, s.drc, s.wnc, s.mdc.mode⟩

/-- Steering, axles and winch are sound. -/
def State.MotionSound (s : State) : Prop := s.SteeringSound ∧ s.WinchSound

section Congruence
variable {s t : State}

theorem State.SteeringSound.congr (h : s.SteeringSound) (stc : t.stc = s.stc) (tse : t.tse = s.tse) :
    t.SteeringSound := by
  obtain ⟨search, searching, idle, pending, corners, loadHeld⟩ := h
  exact ⟨by rw [stc, tse]; exact search, by rw [stc, tse]; exact searching, by rw [tse]; exact idle,
    by rw [stc]; exact pending, by rw [stc]; exact corners, by rw [stc]; exact loadHeld⟩

theorem State.WinchSound.congr (h : s.WinchSound) (drc : t.drc = s.drc) (wnc : t.wnc = s.wnc)
    (mode : t.mdc.mode = s.mdc.mode) : t.WinchSound := by
  obtain ⟨axles, moves, clutch⟩ := h
  exact ⟨by rw [drc, mode]; exact axles, by rw [wnc, mode]; exact moves, by rw [wnc]; exact clutch⟩

theorem State.MotionSound.congr (h : s.MotionSound) (same : t.pose = s.pose) : t.MotionSound := by
  simp only [State.pose, Pose.mk.injEq] at same
  obtain ⟨stc, tse, drc, wnc, mode⟩ := same
  exact ⟨h.1.congr stc tse, h.2.congr drc wnc mode⟩

/-- A frame that leaves axles, winch and mode leaves their invariant. -/
theorem State.WinchSound.of_changes {parts : List Part} (h : s.WinchSound) (changes : s.changesOnly t parts)
    (drc : Part.drc ∉ parts) (wnc : Part.wnc ∉ parts) (mode : Part.mode ∉ parts) : t.WinchSound :=
  h.congr (changes.2.2.2 .drc drc) (changes.2.2.2 .wnc wnc) (changes.2.2.2 .mode mode)

/-- A frame that leaves steering and search leaves their invariant. -/
theorem State.SteeringSound.of_changes {parts : List Part} (h : s.SteeringSound) (changes : s.changesOnly t parts)
    (stc : Part.stc ∉ parts) (tse : Part.tse ∉ parts) : t.SteeringSound :=
  h.congr (changes.2.2.2 .stc stc) (changes.2.2.2 .tse tse)

end Congruence

section Parts
variable (s : State)

@[simp] theorem State.setMdc_pose {d : Mdc} (mode : d.mode = s.mdc.mode) : (s.setMdc d).pose = s.pose := by
  simp [State.pose, mode]

@[simp] theorem State.recomputeCau_pose : s.recomputeCau.pose = s.pose := by simp [State.pose]

@[simp] theorem State.holdAutoPark_pose : s.holdAutoPark.pose = s.pose := by simp [State.pose]

theorem State.replaceWorking_pose (w : WorkingSet) : (s.replaceWorking w).pose = s.pose := by
  obtain ⟨-, -, -, same⟩ := s.replaceWorking_changes w
  simp only [State.pose, Pose.mk.injEq]
  exact ⟨same .stc (by decide), same .tse (by decide), same .drc (by decide), same .wnc (by decide),
    same .mode (by decide)⟩

theorem State.takeLightCode_pose : s.takeLightCode.pose = s.pose := by
  unfold State.takeLightCode; split <;> rfl

@[simp] theorem State.setLmp_pose (l : Lmp) : (s.setLmp l).pose = s.pose := rfl
@[simp] theorem State.remap_pose (w : WorkingSet) : (s.remap w).pose = s.pose := rfl
@[simp] theorem State.raise_pose (n : Notice) : (s.raise n).pose = s.pose := rfl

@[simp] theorem State.failChannel_pose (ch : ChannelId) : (s.failChannel ch).pose = s.pose := by
  simp [State.failChannel, State.lampNotice]

theorem State.examine_pose (ch : ChannelId) : (s.examine ch).pose = s.pose := by
  unfold State.examine; dsimp only; (repeat' split) <;> simp

theorem State.lampCheck_pose (c : Vector Nat 12) :
    (s.diagnose c).findRequested.shed.findLit.runGens.setChannels.pose = s.pose := by
  have diagnosed : (s.diagnose c).pose = s.pose :=
    foldl_leaves State.pose (fun u ch => u.examine_pose ch) _ _
  simp [State.setChannels, State.runGens, State.findLit, State.shed, State.findRequested, diagnosed]

theorem State.moveFunction_pose (f : FunctionId) (ch : Option ChannelId) : (s.moveFunction f ch).pose = s.pose := by
  unfold State.moveFunction; split <;> rfl

end Parts

/-! ## Changes of the mode (R28, R131, R157) -/

section Modes
variable {s t : State}

/-- A winch on its drum, whose clutch is engaged (R145). -/
abbrev WinchState.onDrum (w : WinchState) : Prop := w ≠ .clutchReleasing ∧ w ≠ .freespool ∧ w ≠ .clutchEngaging

theorem WinchState.onDrum_of_moves {w : WinchState} (moves : w.moves = true) : w.onDrum := by
  cases w <;> simp_all [WinchState.moves, WinchState.onDrum]

theorem idleState_onDrum (w : WorkingSet) (load : Nat) :
    (idleState w load).moves = false ∧ (idleState w load).onDrum := by
  obtain e | e := idleState_idle w load <;> rw [e] <;> exact ⟨rfl, by decide⟩

/-- What axles and winch do at a change of the mode keeps the invariant: leaving RUN halts the axles and ends a
movement, and at SHUTDOWN the clutch engages. -/
theorem State.WinchSound.followed (h : s.WinchSound) (drc : s.axlesFollowMode t) (wnc : s.winchFollowsMode t) :
    t.WinchSound := by
  obtain ⟨axles, moves, clutch⟩ := h
  refine ⟨fun i drives => ?_, fun turns => ?_, ?_⟩
  · unfold State.axlesFollowMode at drc
    rw [drc] at drives
    split at drives
    · rw [Drc.halt_state] at drives
      simp at drives
    · rename_i stays
      exact Decidable.not_not.mp fun left => stays ⟨axles i drives, left⟩
  · rw [wnc.1] at turns
    split at turns
    · simp [(idleState_onDrum _ _).1] at turns
    · rename_i unmoved
      split at turns
      · cases turns
      · have run := moves turns
        by_contra left
        exact unmoved ⟨⟨fun same => left (same.trans run), left⟩, turns⟩
  · rw [wnc.1]
    split
    · rename_i moved
      exact iff_of_true (clutch.mpr (WinchState.onDrum_of_moves moved.2)) (idleState_onDrum _ _).2
    · split
      · simp
      · exact clutch

/-- So does the whole change, with steering and search as they stand. -/
theorem State.MotionSound.followed (h : s.MotionSound) (stc : t.stc = s.stc) (tse : t.tse = s.tse)
    (followed : s.modeFollowed t) : t.MotionSound :=
  ⟨h.1.congr stc tse, h.2.followed followed.1 followed.2.1⟩

theorem State.MotionSound.setMode (h : s.MotionSound) (m : VehicleMode) : (s.setMode m).MotionSound :=
  h.followed (by simp) (by simp) (s.setMode_followed m)

theorem State.MotionSound.setMdc (h : s.MotionSound) {d : Mdc} (mode : d.mode = s.mdc.mode) :
    (s.setMdc d).MotionSound := h.congr (s.setMdc_pose mode)

theorem State.MotionSound.wake (h : s.MotionSound) (c : WakeCause) : (s.wake c).MotionSound := by
  obtain ⟨-, -, -, same⟩ := s.wake_changes c
  exact h.followed (same .stc (by decide)) (same .tse (by decide)) (s.wake_followed c)

theorem State.MotionSound.judgeMotion (h : s.MotionSound) : s.judgeMotion.MotionSound := by
  unfold State.judgeMotion
  split
  · exact h.wake _
  · exact h

theorem State.MotionSound.silenceExpires (h : s.MotionSound) : s.silenceExpires.MotionSound := by
  unfold State.silenceExpires
  split
  · exact h.setMode _
  · exact h

theorem State.MotionSound.autoParkExpires (h : s.MotionSound) : s.autoParkExpires.MotionSound := by
  unfold State.autoParkExpires
  split
  · exact h.setMode _
  · exact h

theorem State.MotionSound.parkTimerExpires (h : s.MotionSound) : s.parkTimerExpires.MotionSound := by
  have timed : (s.setMdc { s.mdc with parkTimer := none }).MotionSound := h.setMdc rfl
  unfold State.parkTimerExpires
  split
  · exact timed.wake _
  · exact h

/-- The report of an accepted frame (R25): a change to RUN, a wake cause, or counts. -/
theorem State.MotionSound.report (h : s.MotionSound) : s.report.MotionSound := by
  have judged : (s.setMdc { s.mdc with lastNonNeutral := anyNonNeutral s.ws s.intent.axes }).MotionSound := h.setMdc rfl
  unfold State.report
  dsimp only
  split
  · split
    · exact judged.setMode _
    · exact judged
  · exact judged.setMdc rfl
  · split <;> exact judged.setMdc rfl
  · split
    · exact judged.wake _
    · exact judged

/-- PACK_CHECK ends in a change of the mode (R32). -/
theorem State.MotionSound.endPackCheck (h : s.MotionSound) : s.endPackCheck.MotionSound := h.setMode _

theorem State.MotionSound.countSample (h : s.MotionSound) : s.countSample.MotionSound := by
  have counted : (s.setMdc { s.mdc with packCheckCount := s.mdc.packCheckCount + 1 }).MotionSound := h.setMdc rfl
  unfold State.countSample
  split
  · dsimp only
    split
    · exact counted.endPackCheck
    · exact counted
  · exact h

/-! ## The protection level (R57 to R63) -/

theorem State.MotionSound.setLevel (h : s.MotionSound) (l : Level) (c : LevelCause) : (s.setLevel l c).MotionSound := by
  obtain ⟨-, -, -, -, mdc, -, -, stc, tse, drc, wnc, -⟩ := s.levelEntered_rest l c
  have entered : (s.levelEntered l c).MotionSound := h.congr (by simp only [State.pose, mdc, stc, tse, drc, wnc])
  rw [State.setLevel_eq, State.modeOnLevel_eq]
  exact (entered.setMdc (State.levelRecord_mode _ l)).setMode _

/-- A rise is a change of the level (R57). -/
theorem State.MotionSound.rise (h : s.MotionSound) (rises : s.rise = some t) : t.MotionSound := by
  unfold State.rise at rises
  dsimp only at rises
  split at rises
  · obtain ⟨k, -, rfl⟩ := Option.map_eq_some_iff.mp rises
    exact h.setLevel _ _
  · cases rises

theorem State.MotionSound.fall (h : s.MotionSound) (r : Sample) : (s.fall r).MotionSound := by
  unfold State.fall
  split
  · split
    · exact h.congr rfl
    · split
      · exact h.setLevel _ _
      · exact h.congr rfl
  · exact h.congr rfl

theorem State.MotionSound.settleLevel (h : s.MotionSound) (r : Sample) : (s.settleLevel r).MotionSound := by
  unfold State.settleLevel
  split
  · exact h.rise ‹_›
  · exact h.fall r

end Modes

end Sys2Proof.Machine
end

section
/-! PROOF. Axles and winch stay sound (R131, R145, R157): an axle drives, and the winch moves, in RUN alone, and the clutch
is engaged but in the clutch states. -/
namespace Sys2Proof.Machine

/-! ## Axles (R131, R139) -/

/-- An axle drives, or rests from driving. -/
abbrev Axle.drives (a : Axle) : Prop := a.state = .drive ∨ a.state = .rest

section Axles
variable {s t : State}

/-- R131's table lets an axle drive in RUN alone. -/
theorem State.setAxle_drives {i : AxleId} {a : Axle} (drives : (s.setAxle i a).drives) : s.mdc.mode = .run := by
  by_contra still
  have row : s.axleRow i = .coasting ∨ s.axleRow i = .braked := by
    unfold State.axleRow
    by_cases early : s.mdc.mode = .start ∨ s.mdc.mode = .loading ∨ s.mdc.mode = .packCheck
    · exact .inl (if_pos early)
    · exact .inr ((if_neg early).trans (if_pos still))
  unfold State.setAxle at drives
  obtain row | row := row <;> rw [row] at drives <;> simp [Axle.drives, Axle.stop] at drives

theorem Axle.caps_state (a : Axle) (w : WorkingSet) (m : SteerMachine) : (a.caps w m).state = a.state := by
  unfold Axle.caps
  dsimp only
  (repeat' split) <;> rfl

/-- A stall turns DRIVE into REST (R139). -/
theorem Axle.runStall_drives {a : Axle} {w : WorkingSet} (drives : (a.runStall w).drives) : a.drives := by
  unfold Axle.runStall at drives
  split at drives
  · rename_i stalls
    exact .inl stalls.1
  · exact drives

theorem State.updateAxle_drives {i : AxleId} (drives : (s.updateAxle i).drives) : s.mdc.mode = .run := by
  have moved := Axle.runStall_drives (w := s.ws) (a := { (s.setAxle i { s.drc.axles.get i with
    restMs := (s.drc.axles.get i).restMs - 20 }).caps s.ws s.stc.machine with ceiling := _ }) drives
  refine State.setAxle_drives (i := i) (a := { s.drc.axles.get i with restMs := (s.drc.axles.get i).restMs - 20 }) ?_
  unfold Axle.drives at moved ⊢
  rwa [← Axle.caps_state]

/-- Axle records that drive in RUN alone keep the invariant, the winch and the mode standing. -/
theorem State.WinchSound.of_axles (h : s.WinchSound) (wnc : t.wnc = s.wnc) (mode : t.mdc.mode = s.mdc.mode)
    (axles : ∀ i, (t.drc.axles.get i).drives → s.mdc.mode = .run) : t.WinchSound where
  axles i drives := mode.trans (axles i drives)
  moves := by rw [wnc, mode]; exact h.moves
  clutch := by rw [wnc]; exact h.clutch

theorem State.WinchSound.readCurrents (h : s.WinchSound) (r : DriveReading) :
    (s.setDrc (s.drc.readCurrents r)).WinchSound :=
  h.of_axles rfl rfl fun i drives => h.axles i (by cases i <;> exact drives)

theorem State.MotionSound.readEncoders (h : s.MotionSound) (r : DriveReading) : (s.readEncoders r).MotionSound := by
  have read : (s.setDrc (s.drc.mapAxles fun i a =>
      { a with counts := r.counts.get i, speed := speedOf (r.counts.get i) (s.ws.int Item.countsPerM) })).MotionSound :=
    ⟨h.1.congr rfl rfl, h.2.of_axles rfl rfl fun i drives => h.2.axles i (by cases i <;> exact drives)⟩
  unfold State.readEncoders State.countMotion
  dsimp only
  split
  · exact State.MotionSound.judgeMotion (read.congr rfl)
  · exact read

theorem State.WinchSound.takeDriveCode (h : s.WinchSound) : s.takeDriveCode.WinchSound := by
  unfold State.takeDriveCode
  split
  · split
    · exact h.of_axles rfl rfl h.axles
    · split <;> exact h.of_axles rfl rfl h.axles
  · exact h

theorem State.WinchSound.driveAxles (h : s.WinchSound) : s.driveAxles.WinchSound :=
  h.of_axles rfl rfl fun i drives => State.updateAxle_drives (i := i) (by cases i <;> exact drives)

/-- A drive update (R128). -/
theorem State.MotionSound.driveUpdate (h : s.MotionSound) (r : DriveReading) :
    let read := (s.readEncoders r).setDrc ((s.readEncoders r).drc.readCurrents r)
    read.updateFollow.takeDriveCode.driveAxles.MotionSound := by
  intro read
  have encoded := h.readEncoders r
  have followed : read.updateFollow.WinchSound :=
    (encoded.2.readCurrents r).of_axles rfl rfl (encoded.2.readCurrents r).axles
  have steers : read.updateFollow.SteeringSound := encoded.1.congr rfl rfl
  generalize read.updateFollow = u at followed steers ⊢
  have coded : u.takeDriveCode.SteeringSound := by
    unfold State.takeDriveCode
    split
    · split
      · exact steers.congr rfl rfl
      · split <;> exact steers.congr rfl rfl
    · exact steers
  exact ⟨coded.of_changes (State.driveAxles_changes _) (by decide) (by decide), followed.takeDriveCode.driveAxles⟩

/-- A pending lock that is taken sets the axles it locks or releases (R133). -/
theorem State.WinchSound.lockTaken (h : s.WinchSound) :
    let taken := s.takeDriveCode
    ((taken.setDrc ({ taken.drc with axles := PerAxle.ofFn (taken.axleAfterTake s) }.judge
      taken.mdc.mode)).writeAxleWishes).WinchSound := by
  intro taken
  have sound : taken.WinchSound := h.takeDriveCode
  refine sound.of_axles rfl rfl fun i drives => ?_
  have drives : (taken.axleAfterTake s i).drives := by cases i <;> exact drives
  unfold State.axleAfterTake at drives
  dsimp only at drives
  split at drives
  · refine State.setAxle_drives (s := taken) (i := i) (a := taken.drc.axles.get i) ?_
    unfold Axle.drives at drives ⊢
    rwa [← Axle.caps_state]
  · exact sound.axles i drives

/-- An axle's own event replaces a record that drove, or one that does not drive. -/
theorem State.WinchSound.putAxle (h : s.WinchSound) {i : AxleId} {a : Axle} (drives : a.drives → s.mdc.mode = .run) :
    (s.putAxle i a).WinchSound := by
  refine h.of_axles rfl rfl fun j moves => ?_
  by_cases own : j = i
  · subst own
    exact drives (by cases j <;> exact moves)
  · refine h.axles j ?_
    cases i <;> cases j <;> first | exact absurd rfl own | exact moves

end Axles

/-! ## The winch (R145, R157) -/

/-- A winch record in a vehicle mode: it moves in RUN alone, and its clutch is engaged exactly on the drum. -/
structure Wnc.Sound (w : Wnc) (m : VehicleMode) : Prop where
  moves : w.state.moves = true → m = .run
  clutch : w.clutch = .engaged ↔ w.state.onDrum

section Records
variable {w v : Wnc} {m : VehicleMode}

/-- A winch whose clutch stays, on the drum or away from it, and which moves in RUN alone. -/
theorem Wnc.Sound.turn (h : w.Sound m) (clutch : v.clutch = w.clutch) (drum : v.state.onDrum ↔ w.state.onDrum)
    (moves : v.state.moves = true → m = .run) : v.Sound m :=
  ⟨moves, by rw [clutch, h.clutch, drum]⟩

/-- State and clutch are all that is read. -/
theorem Wnc.Sound.congr (h : w.Sound m) (state : v.state = w.state) (clutch : v.clutch = w.clutch) : v.Sound m :=
  h.turn clutch (by rw [state]) (by rw [state]; exact h.moves)

/-- A movement, or an idle winch, may end by load (R148). -/
theorem Wnc.Sound.endByLoad (h : w.Sound m) (drum : w.state.onDrum) (ws : WorkingSet) (b : Bool) :
    (w.endByLoad ws b).Sound m := by
  have idle := idleState_onDrum ws w.load
  refine h.turn rfl (iff_of_true ?_ drum) fun moves => ?_
  · rw [Wnc.endByLoad_state]; exact idle.2
  · rw [Wnc.endByLoad_state, idle.1] at moves; cases moves

theorem Wnc.engage_sound (w : Wnc) (m : VehicleMode) : w.engage.Sound m :=
  ⟨fun moves => (by cases moves), iff_of_false (by simp [Wnc.engage]) (by simp [Wnc.engage])⟩

theorem WinchState.onDrum_of_reels {x : WinchState} (reels : x.reels = true) : x.onDrum :=
  WinchState.onDrum_of_moves (WinchState.moves_of_reels reels)

end Records

section Winch
variable {s t : State}

theorem State.WinchSound.record (h : s.WinchSound) : s.wnc.Sound s.mdc.mode := ⟨h.moves, h.clutch⟩

/-- A sound winch record keeps the invariant, axles and mode standing. -/
theorem State.WinchSound.of_record (h : s.WinchSound) (drc : t.drc = s.drc) (mode : t.mdc.mode = s.mdc.mode)
    (wnc : t.wnc.Sound s.mdc.mode) : t.WinchSound where
  axles := by rw [drc, mode]; exact h.axles
  moves moves := mode.trans (wnc.moves moves)
  clutch := wnc.clutch

/-- Steps 1 to 3: a reel that comes home ends by load (R147). -/
theorem State.winchRead_sound (h : s.wnc.Sound s.mdc.mode) (r : WinchReading) :
    (s.winchRead r).wnc.Sound s.mdc.mode := by
  have read : (s.wnc.lineRead s.ws r).Sound s.mdc.mode := h.congr rfl rfl
  by_cases closes : s.lineInCloses r
  · rw [s.winchRead_closes r closes]
    refine Wnc.Sound.congr (w := s.wnc.lineHome s.ws r) ?_ rfl rfl
    unfold Wnc.lineHome
    split
    · rename_i reels
      exact Wnc.Sound.endByLoad (w := { s.wnc.lineRead s.ws r with line := some ⟨0, 0⟩ }) (read.congr rfl rfl)
        (WinchState.onDrum_of_reels reels) _ _
    · exact read.congr rfl rfl
  · rw [s.winchRead_open r closes]
    exact read.congr rfl rfl

/-- Step 4: a code ends what moves (R149). -/
theorem State.takeWinchCode_sound {m : VehicleMode} (h : s.wnc.Sound m) : s.takeWinchCode.wnc.Sound m := by
  cases head : s.intent.winch.queue with
  | nil => rwa [s.takeWinchCode_nil head]
  | cons c rest =>
    rw [s.takeWinchCode_cons head, State.setWnc_wnc]
    split
    · rename_i ends
      refine Wnc.Sound.endByLoad (w := { s.wnc with selection := c }) (h.congr rfl rfl) ?_ _ _
      refine WinchState.onDrum_of_moves (w := s.wnc.state) ?_
      by_contra still
      exact (State.still_goes (r := ⟨0, false, 0, 0⟩) (Bool.eq_false_iff.mpr still)).2
        ⟨c, rest, head, (codeEnds_iff _ _).mp ends⟩
    · exact h.congr rfl rfl

/-- Step 5 (R159). -/
theorem State.checkSolenoid_sound {m : VehicleMode} (h : s.wnc.Sound m) : s.checkSolenoid.wnc.Sound m := by
  obtain same | ⟨-, -, engages⟩ := s.checkSolenoid_cases
  · rwa [same]
  · rw [engages]; exact Wnc.engage_sound _ _

/-- The axis acts in RUN, on a winch that idles or moves (R151). -/
theorem State.winchAxis_sound {m : VehicleMode} (h : s.wnc.Sound m) (run : m = .run) (axis : Int) :
    (s.winchAxis axis).Sound m := by
  obtain still | moves := (em s.wnc.state.away)
  · rwa [State.winchAxis_away axis still]
  · have drum : s.wnc.state.onDrum := ⟨fun e => moves (.inl e), fun e => moves (.inr (.inl e)),
      fun e => moves (.inr (.inr (.inl e)))⟩
    have reel : (reelState s.wnc.selection).onDrum := WinchState.onDrum_of_reels (reelState_reels _)
    obtain same | ⟨-, same⟩ | same | ⟨b, same⟩ := s.winchAxis_cases axis <;> rw [same]
    · exact h
    · exact h.turn rfl (iff_of_true reel drum) fun _ => run
    · exact h.turn rfl (iff_of_true (by decide : WinchState.paying.onDrum) drum) fun _ => run
    · exact h.endByLoad drum _ _

/-- A guard ends a movement (R151). -/
theorem State.winchGuards_sound {m : VehicleMode} (h : s.wnc.Sound m) : s.winchGuards.Sound m := by
  unfold State.winchGuards
  dsimp only
  split
  · rename_i pays
    exact h.endByLoad (by rw [pays.1]; decide) _ _
  · split
    · rename_i reels
      exact h.endByLoad (by rw [reels.1]; decide) _ _
    · exact h

theorem Wnc.Sound.placeIdle {w : Wnc} {m : VehicleMode} (h : w.Sound m) (ws : WorkingSet) : (w.placeIdle ws).Sound m := by
  unfold Wnc.placeIdle
  split
  · rename_i idle
    refine Wnc.Sound.congr (w := w.endByLoad ws true) (h.endByLoad ?_ ws true) rfl rfl
    obtain e | e := idle <;> rw [e] <;> decide
  · exact h

/-- Step 6 (R148 to R152, R154). -/
theorem State.winchState_sound (h : s.wnc.Sound s.mdc.mode) : s.winchState.wnc.Sound s.mdc.mode := by
  have moved : s.winchMoved.Sound s.mdc.mode := by
    have settled : s.winchSettled.Sound s.mdc.mode := (h.placeIdle s.ws).congr (by
      unfold State.winchSettled Wnc.placeIdle; split <;> rfl) (by unfold Wnc.placeIdle; split <;> rfl)
    unfold State.winchMoved
    dsimp only
    refine State.winchGuards_sound ?_
    rw [State.setWnc_wnc]
    split
    · rename_i acts
      exact State.winchAxis_sound settled acts.1 _
    · exact settled
  have held : (s.setWnc s.winchMoved).hardHold.wnc.Sound s.mdc.mode := by
    unfold State.hardHold
    split
    · rename_i reels
      exact moved.turn rfl (iff_of_true (by decide : WinchState.holding.onDrum) (WinchState.onDrum_of_reels reels.1)) fun e => by cases e
    · exact moved
  rw [s.winchState_eq]
  generalize (s.setWnc s.winchMoved).hardHold = u at held ⊢
  unfold State.jamTest State.jam
  split
  · rename_i reels
    dsimp only
    split
    · split
      · exact held.turn rfl (iff_of_true (by decide : WinchState.jammed.onDrum) (WinchState.onDrum_of_reels reels)) fun e => by cases e
      · exact held.congr rfl rfl
    · exact held.congr rfl rfl
  · exact held

/-- A winch update (R146). -/
theorem State.MotionSound.winchUpdate (h : s.MotionSound) (r : WinchReading) :
    (s.winchTaken r).winchState.winchDuty.winchWish.MotionSound := by
  have taken := s.winchTaken_only r
  have frame : s.changesOnly (s.winchTaken r).winchState.winchDuty.winchWish.holdAutoPark [.output, .intent, .cau, .wnc] :=
    s.winchUpdate_frame r
  refine State.MotionSound.congr (s := (s.winchTaken r).winchState.winchDuty.winchWish.holdAutoPark)
    ⟨h.1.of_changes frame (by decide) (by decide),
      h.2.of_record (frame.2.2.2 .drc (by decide)) (frame.2.2.2 .mode (by decide)) ?_⟩ (State.holdAutoPark_pose _).symm
  have sound : (s.winchTaken r).wnc.Sound (s.winchTaken r).mdc.mode := by
    rw [taken.mdc]
    exact State.checkSolenoid_sound (State.takeWinchCode_sound (State.winchRead_sound h.2.record r))
  have stated := State.winchState_sound sound
  rw [taken.mdc] at stated
  rw [State.holdAutoPark_wnc]
  generalize (s.winchTaken r).winchState = u at stated ⊢
  have turned : u.winchDuty.wnc.state = u.wnc.state ∧ u.winchDuty.wnc.clutch = u.wnc.clutch := by
    unfold State.winchDuty
    dsimp only
    split <;> exact ⟨rfl, rfl⟩
  exact stated.congr turned.1 turned.2

end Winch

end Sys2Proof.Machine
end

section
/-! PROOF. What the operations of steering and search leave of the other parts (R89 to R121). -/
namespace Sys2Proof.Machine

/-! ## One corner's value -/

@[simp] theorem PerCorner.get_put_self {α : Type} (t : PerCorner α) (i : CornerId) (x : α) : (t.put i x).get i = x := by
  cases i <;> rfl

theorem PerCorner.get_put_other {α : Type} (t : PerCorner α) {i j : CornerId} (x : α) (other : j ≠ i) :
    (t.put i x).get j = t.get j := by
  cases i <;> cases j <;> first | rfl | exact absurd rfl other

@[simp] theorem PerCorner.get_ofFn {α : Type} (f : CornerId → α) (i : CornerId) : (PerCorner.ofFn f).get i = f i := by
  cases i <;> rfl

theorem PerCorner.ext_get {α : Type} {t u : PerCorner α} (same : ∀ i, t.get i = u.get i) : t = u := by
  cases t
  cases u
  exact PerCorner.mk.injEq .. ▸ ⟨same .fl, same .fr, same .rl, same .rr⟩

@[simp] theorem Stc.mapCorners_get (c : Stc) (f : Corner → Corner) (i : CornerId) :
    (c.mapCorners f).corners.get i = f (c.corners.get i) := PerCorner.get_map f c.corners i

@[simp] theorem Stc.put_get_self (c : Stc) (i : CornerId) (k : Corner) : (c.put i k).corners.get i = k :=
  PerCorner.get_put_self _ _ _

theorem Stc.put_get_other (c : Stc) {i j : CornerId} (k : Corner) (other : j ≠ i) :
    (c.put i k).corners.get j = c.corners.get j := PerCorner.get_put_other _ _ other

/-! ## Frames of the operations -/

section Frames
variable (s : State)

theorem State.setTse_changes (x : Tse) : s.changesOnly (s.setTse x) [.tse] := by
  refine ⟨rfl, rfl, rfl, fun p hp => ?_⟩
  cases p <;> simp_all [State.sameIn]

theorem State.steerNotice_changes (e : SteerEvent) : s.changesOnly (s.steerNotice e) [.output] := s.raise_changes _

/-- A new state of steering, told by a notice. -/
theorem State.setStc_notice_changes (x : Stc) (e : SteerEvent) :
    s.changesOnly ((s.setStc x).steerNotice e) [.output, .stc] :=
  State.changesOnly_trans (State.changesOnly_mono (s.setStc_changes x) (by simp))
    (State.changesOnly_mono (State.steerNotice_changes _ e) (by simp))

theorem State.putCorner_changes (i : CornerId) (k : Corner) : s.changesOnly (s.putCorner i k) [.output, .stc] := by
  unfold State.putCorner
  dsimp only
  split
  · exact s.setStc_notice_changes _ _
  · exact State.changesOnly_mono (s.setStc_changes _) (by simp)

theorem State.settleFailures_changes (b : PerCorner Bool) : s.changesOnly (s.settleFailures b) [.stc] := by
  unfold State.settleFailures
  split
  · exact s.changesOnly_refl _
  · exact s.setStc_changes _

theorem State.afterCorner_changes (b : PerCorner Bool) : s.changesOnly (s.afterCorner b) [.stc] :=
  State.changesOnly_trans (s.settleFailures_changes b) (State.setStc_changes _ _)

theorem State.settleEnds_changes : s.changesOnly s.settleEnds [.output, .stc] := s.setStc_notice_changes _ _

theorem State.alignExpires_changes : s.changesOnly s.alignExpires [.output, .stc] := by
  unfold State.alignExpires
  dsimp only
  refine State.changesOnly_trans ?_ (State.changesOnly_mono (State.setStc_changes _ _) (by simp))
  split
  · exact State.changesOnly_mono (s.setStc_changes _) (by simp)
  · exact s.setStc_notice_changes _ _

theorem State.advanceMachine_changes : s.changesOnly s.advanceMachine [.output, .stc] := by
  have set (x : Stc) : s.changesOnly (s.setStc x) [.output, .stc] := State.changesOnly_mono (s.setStc_changes x) (by simp)
  unfold State.advanceMachine
  dsimp only
  split
  · split
    · exact set _
    · split
      · exact State.changesOnly_trans (set _) (State.alignExpires_changes _)
      · exact set _
  · split
    · exact State.changesOnly_trans (set _) (State.settleEnds_changes _)
    · exact set _
  · exact s.changesOnly_refl _

theorem State.adoptTarget_changes : s.changesOnly s.adoptTarget [.output, .stc] := by
  unfold State.adoptTarget
  split
  · exact s.setStc_notice_changes _ _
  · exact s.changesOnly_refl _

theorem State.aimCorners_changes : s.changesOnly s.aimCorners [.stc] := by
  unfold State.aimCorners
  split <;> exact s.setStc_changes _

theorem State.endSearch_changes (c : EndCause) : s.changesOnly (s.endSearch c) [.output, .stc, .tse] :=
  State.changesOnly_trans (State.changesOnly_trans (State.changesOnly_mono (s.setTse_changes _) (by simp))
    (State.changesOnly_mono (State.setStc_changes _ _) (by simp))) (State.changesOnly_mono (State.raise_changes _ _) (by simp))

theorem State.abortSearch_changes (c : EndCause) : s.changesOnly (s.abortSearch c) [.output, .stc, .tse] :=
  State.changesOnly_trans (State.changesOnly_mono (s.setTse_changes _) (by simp)) (State.endSearch_changes _ _)

theorem State.followMode_changes : s.changesOnly s.followMode [.output, .stc, .tse] := by
  have aborted : s.changesOnly s.abortOnMode [.output, .stc, .tse] := by
    unfold State.abortOnMode
    split
    · exact s.abortSearch_changes _
    · exact s.changesOnly_refl _
  have set (u : State) (x : Stc) : u.changesOnly (u.setStc x) [.output, .stc, .tse] :=
    State.changesOnly_mono (u.setStc_changes x) (by simp)
  have adopted (u : State) : u.changesOnly u.adoptTarget [.output, .stc, .tse] :=
    State.changesOnly_mono u.adoptTarget_changes (by simp)
  unfold State.followMode
  dsimp only
  split
  iterate 3
    split
    · exact State.changesOnly_trans aborted (set _ _)
    · exact aborted
  all_goals exact State.changesOnly_trans aborted (State.changesOnly_trans (adopted _) (set _ _))

theorem State.takeSteerCode_changes : s.changesOnly s.takeSteerCode [.output, .intent, .stc] := by
  have set (u : State) (x : Stc) : u.changesOnly (u.setStc x) [.output, .intent, .stc] :=
    State.changesOnly_mono (u.setStc_changes x) (by simp)
  have refused (u : State) : u.changesOnly u.refuseCode [.output, .intent, .stc] :=
    State.changesOnly_mono (u.steerNotice_changes _) (by simp)
  unfold State.takeSteerCode
  split
  · exact s.changesOnly_refl _
  · rename_i c rest _
    have taken : s.changesOnly (s.setIntent { s.intent with steer := { s.intent.steer with queue := rest } })
        [.output, .intent, .stc] := State.changesOnly_mono (s.setIntent_changes _) (by simp)
    dsimp only
    split
    · refine State.changesOnly_trans taken ?_
      unfold State.codeInSteady
      split_ifs
      exacts [State.changesOnly_refl _ _, set _ _, refused _]
    · refine State.changesOnly_trans taken ?_
      unfold State.codeInAligning
      split_ifs
      exacts [set _ _, refused _, State.changesOnly_refl _ _, set _ _, refused _]
    · refine State.changesOnly_trans taken ?_
      unfold State.codeInSettling
      split_ifs
      exacts [State.changesOnly_refl _ _, set _ _, refused _]
    all_goals exact s.changesOnly_refl _

theorem State.setProbe_changes (i : CornerId) (o : Int) : s.changesOnly (s.setProbe i o) [.stc, .tse] :=
  State.changesOnly_trans (State.changesOnly_mono (s.setTse_changes _) (by simp))
    (State.changesOnly_mono (State.setStc_changes _ _) (by simp))

theorem State.beginCorner_changes : s.changesOnly s.beginCorner [.stc, .tse] := by
  unfold State.beginCorner
  split
  · split
    · exact State.changesOnly_trans (State.changesOnly_mono (s.setTse_changes _) (by simp)) (State.setProbe_changes _ _ _)
    · exact s.changesOnly_refl _
  · exact s.changesOnly_refl _

theorem State.probeStep_changes (i : CornerId) : s.changesOnly (s.probeStep i) [.stc, .tse] :=
  State.changesOnly_trans (s.setProbe_changes _ _) (State.changesOnly_mono (State.setTse_changes _ _) (by simp))

theorem State.judgeWait_changes (i : CornerId) : s.changesOnly (s.judgeWait i) [.output, .stc, .tse] := by
  have read (x : Tse) : s.changesOnly (s.setTse x) [.output, .stc, .tse] :=
    State.changesOnly_mono (s.setTse_changes x) (by simp)
  unfold State.judgeWait
  split
  · exact State.changesOnly_trans (read _) (State.endCorner_changes _ _ _).1
  · exact State.changesOnly_trans (read _) (State.changesOnly_mono (State.probeStep_changes _ _) (by simp))

/-- A found trim is written in the working set (R119). -/
theorem State.edgeFound_changes (i : CornerId) : s.changesOnly (s.edgeFound i) [.output, .stc, .tse, .working] := by
  unfold State.edgeFound
  dsimp only
  split
  · exact State.changesOnly_trans (State.changesOnly_mono (State.setWorking_changes s _) (by simp))
      (State.changesOnly_mono (State.endCorner_changes _ _ _).1 (by simp))
  · exact State.changesOnly_mono (State.endCorner_changes _ _ _).1 (by simp)

theorem State.judgeStep_changes (i : CornerId) : s.changesOnly (s.judgeStep i) [.output, .stc, .tse, .working] := by
  have read (x : Tse) : s.changesOnly (s.setTse x) [.output, .stc, .tse, .working] :=
    State.changesOnly_mono (s.setTse_changes x) (by simp)
  unfold State.judgeStep
  dsimp only
  split
  · exact State.changesOnly_trans (read _) (State.edgeFound_changes _ _)
  · split
    · exact State.changesOnly_trans (read _) (State.changesOnly_mono (State.endCorner_changes _ _ _).1 (by simp))
    · exact read _

theorem State.searchFrame_changes : s.changesOnly s.searchFrame [.output, .stc, .tse, .working] := by
  have read (x : Tse) : s.changesOnly (s.setTse x) [.output, .stc, .tse, .working] :=
    State.changesOnly_mono (s.setTse_changes x) (by simp)
  unfold State.searchFrame
  split
  · exact State.changesOnly_mono s.beginCorner_changes (by simp)
  · split
    · exact s.changesOnly_refl _
    · split
      · split
        · exact State.changesOnly_mono (s.judgeWait_changes _) (by simp)
        · exact read _
      · split
        · exact State.changesOnly_mono (s.probeStep_changes _) (by simp)
        · split
          · exact s.judgeStep_changes _
          · exact read _

/-- What each operation of a fold leaves alone, the fold leaves alone. -/
theorem State.foldl_changes {α : Type} {f : State → α → State} {parts : List Part}
    (step : ∀ u x, State.changesOnly u (f u x) parts) (l : List α) (u : State) : u.changesOnly (l.foldl f u) parts := by
  induction l generalizing u with
  | nil => exact u.changesOnly_refl _
  | cons x l ih => exact State.changesOnly_trans (step u x) (ih _)

theorem State.workCorners_changes : s.changesOnly s.workCorners [.output, .stc, .tse, .working] := by
  unfold State.workCorners
  split
  · exact s.searchFrame_changes
  · exact State.changesOnly_mono (State.foldl_changes (fun u i => u.putCorner_changes i _) cornerIds s) (by simp)

/-- Steps 1 to 5 of a frame. -/
theorem State.beginFrame_changes (r : ServoReading) : s.changesOnly (s.beginFrame r) [.output, .intent, .stc, .tse] := by
  have set (u : State) (x : Stc) : u.changesOnly (u.setStc x) [.output, .intent, .stc, .tse] :=
    State.changesOnly_mono (u.setStc_changes x) (by simp)
  unfold State.beginFrame State.setSlew
  dsimp only
  exact State.changesOnly_trans (State.changesOnly_trans (State.changesOnly_trans (State.changesOnly_trans
    (State.changesOnly_trans (set _ _) (State.changesOnly_mono (State.followMode_changes _) (by simp))) (set _ _)) (set _ _))
    (State.changesOnly_mono (State.takeSteerCode_changes _) (by simp)))
    (State.changesOnly_mono (State.aimCorners_changes _) (by simp))

/-- Steps 6 to 8 of a frame. -/
def State.frameWorked : State := ((s.workCorners).settleFailures s.stc.failedSet).advanceMachine

theorem State.frameWorked_changes : s.changesOnly s.frameWorked [.output, .stc, .tse, .working] :=
  State.changesOnly_trans (State.changesOnly_trans s.workCorners_changes
    (State.changesOnly_mono (State.settleFailures_changes _ _) (by simp)))
    (State.changesOnly_mono (State.advanceMachine_changes _) (by simp))

theorem State.endFrame_eq : s.endFrame =
    (s.frameWorked.writeWish .steer (s.frameWorked.steerWish s.stc.gaps)).sendPulses := rfl

/-- Steps 6 to 10 of a frame. -/
theorem State.endFrame_changes : s.changesOnly s.endFrame [.output, .cau, .stc, .tse, .working] := by
  rw [s.endFrame_eq]
  exact State.changesOnly_trans (State.changesOnly_trans (State.changesOnly_mono s.frameWorked_changes (by simp))
    (State.changesOnly_mono (State.writeWish_changes _ _ _) (by simp)))
    (State.changesOnly_mono (State.setStc_changes _ _) (by simp))

/-- A whole servo frame (R90). -/
theorem State.servoFrame_changes (r : ServoReading) :
    s.changesOnly (s.beginFrame r).endFrame [.output, .intent, .cau, .stc, .tse, .working] :=
  State.changesOnly_trans (State.changesOnly_mono (s.beginFrame_changes r) (by simp))
    (State.changesOnly_mono (State.endFrame_changes _) (by simp))

end Frames

end Sys2Proof.Machine
end

section
/-! PROOF. Steering and search stay sound through their own operations (R89 to R121). -/
namespace Sys2Proof.Machine

/-! ## One corner at a time -/

/-- A corner record is held by a load only where it is HELD (R109). -/
abbrev Corner.LoadRule (k : Corner) : Prop := k.loadHeld = true → k.state = .held

/-- From one corner record to the next: no search begins or ends, a powered corner stays powered, and the rule of loads
holds of the new record. -/
structure Corner.Keeps (k b : Corner) : Prop where
  searching : b.state = .searching ↔ k.state = .searching
  powered : k.state.powered = true → b.state.powered = true
  loadRule : b.LoadRule

section Corners
variable {k b c : Corner}

theorem Corner.Keeps.trans (first : k.Keeps b) (after : b.Keeps c) : k.Keeps c where
  searching := after.searching.trans first.searching
  powered := after.powered ∘ first.powered
  loadRule := after.loadRule

/-- A record of the same state and hold. -/
theorem Corner.Keeps.same (state : b.state = k.state) (hold : b.loadHeld = k.loadHeld) (rule : k.LoadRule) :
    k.Keeps b where
  searching := by rw [state]
  powered := by rw [state]; exact id
  loadRule := by unfold Corner.LoadRule; rw [state, hold]; exact rule

/-- A corner that does not search takes a powered state, the rule of loads kept. -/
theorem Corner.Keeps.turn (idle : k.state ≠ .searching) (powered : b.state.powered = true) (rule : b.LoadRule) :
    k.Keeps b where
  searching := iff_of_false (fun e => by rw [e] at powered; cases powered) idle
  powered _ := powered
  loadRule := rule

theorem Corner.age_keeps (rule : k.LoadRule) (now : Nat) : k.Keeps (k.age now) := by
  unfold Corner.age
  split
  · exact .same rfl rfl rule
  · exact .same rfl rfl rule

theorem Corner.aim_loadHeld (k : Corner) (a : Int) : (k.aim a).loadHeld = k.loadHeld := by
  unfold Corner.aim; split
  · rfl
  · split <;> rfl

theorem Corner.aim_keeps (rule : k.LoadRule) (a : Int) : k.Keeps (k.aim a) := .same (by simp) (k.aim_loadHeld a) rule

/-- Step 6 leaves a corner that is neither ACTIVE nor in REST nor HELD. -/
theorem Corner.frame_of_idle (active : k.state ≠ .active) (rest : k.state ≠ .rest) (held : k.state ≠ .held)
    (w : WorkingSet) (m : SteerMode) (loading : Bool) (step now : Nat) : k.frame w m loading step now = k := by
  have counted : k.countDown m loading = k := by
    unfold Corner.countDown
    rw [if_neg rest, if_neg fun e => held e.1]
  unfold Corner.frame
  dsimp only
  rw [counted, if_neg active]

/-- Step 6 (R97 to R99, R108). -/
theorem Corner.frame_kept (rule : k.LoadRule) (w : WorkingSet) (m : SteerMode) (loading : Bool) (step now : Nat) :
    k.Keeps (k.frame w m loading step now) := by
  cases powered : k.state.powered with
  | true =>
    have kept := Corner.frame_keeps powered rule w m loading step now
    exact .turn (fun e => by rw [e] at powered; cases powered) kept.1 kept.2
  | false =>
    have stands : k.frame w m loading step now = k := by
      have idle : k.state ≠ .active ∧ k.state ≠ .rest ∧ k.state ≠ .held := by
        refine ⟨fun e => ?_, fun e => ?_, fun e => ?_⟩ <;> rw [e] at powered <;> cases powered
      exact Corner.frame_of_idle idle.1 idle.2.1 idle.2.2 w m loading step now
    rw [stands]
    exact .same rfl rfl rule

theorem Corner.parkAt_keeps (idle : k.state ≠ .searching) {x : CornerState} (powered : x.powered = true) :
    k.Keeps (k.parkAt x) := .turn idle powered fun held => by cases held

theorem Corner.fail_keeps (idle : k.state ≠ .searching) (why : FaultKind) : k.Keeps (k.fail why) :=
  .turn idle rfl fun held => by cases held

theorem Corner.activate_kept (idle : k.state ≠ .searching) (loading : Bool) : k.Keeps (k.activate loading) :=
  .turn idle (Corner.activate_keeps k loading).1 (Corner.activate_keeps k loading).2

theorem Corner.steady_kept (idle : k.state ≠ .searching) (rule : k.LoadRule) (m : SteerMode) (loading : Bool) :
    k.Keeps (k.steady m loading) :=
  .turn idle (Corner.steady_keeps rule m loading).1 (Corner.steady_keeps rule m loading).2

/-- A corner that follows or that a load holds does not search. -/
theorem Corner.adopt_keeps (rule : k.LoadRule) (old new : SteerMode) (loading : Bool) :
    k.Keeps (k.adopt old new loading) := by
  unfold Corner.adopt
  split
  · split
    · rename_i moves
      refine Corner.parkAt_keeps (fun e => ?_) rfl
      rw [Bool.or_eq_true] at moves
      obtain follows | held := moves
      · simp [Corner.follows, e] at follows
      · rw [rule held] at e; cases e
    · exact .same rfl rfl rule
  · split
    · rename_i held
      exact Corner.activate_kept (by rw [held.2.1]; simp) loading
    · exact .same rfl rfl rule

theorem Corner.endClearing_keeps (held : k.state = .held) (m : SteerMode) (loading : Bool) :
    k.Keeps (k.endClearing m loading) := by
  unfold Corner.endClearing
  split
  · exact .turn (by rw [held]; simp) (by rw [held]; rfl) fun _ => held
  · exact Corner.activate_kept (by rw [held]; simp) loading

theorem Corner.stall_kept (active : k.state = .active) (rule : k.LoadRule) (now : Nat) : k.Keeps (k.stall now) := by
  have free : k.loadHeld = false := by
    cases held : k.loadHeld with
    | false => rfl
    | true => rw [rule held] at active; cases active
  have kept := Corner.stall_keeps free now
  exact .turn (by rw [active]; simp) kept.1 fun held => by rw [kept.2] at held; cases held

theorem Corner.holdForLoad_keeps (rule : k.LoadRule) : k.Keeps k.holdForLoad := by
  by_cases active : k.state = .active
  · rw [Corner.holdForLoad_active active]
    exact .turn (by rw [active]; simp) rfl fun _ => rfl
  · rw [Corner.holdForLoad_other active]
    exact .same rfl rfl rule

theorem Corner.releaseLoad_keeps (rule : k.LoadRule) (m : SteerMachine) : k.Keeps (k.releaseLoad m) := by
  cases held : k.loadHeld with
  | true =>
    rw [Corner.releaseLoad_held m held]
    exact .turn (by rw [rule held]; simp) rfl fun e => by cases e
  | false =>
    rw [Corner.releaseLoad_other m held]
    exact .same rfl rfl rule

theorem Corner.clear_keeps (failed : k.state = .failed) {m : SteerMachine} (driven : m ≠ .unpowered) :
    k.Keeps (k.clear m) := by
  have idle : k.state ≠ .searching := by rw [failed]; simp
  cases m
  case unpowered => exact absurd rfl driven
  all_goals exact .turn idle rfl fun e => by cases e

end Corners

/-! ## The invariant -/

/-- The machine is STEADY, ALIGNING or SETTLING (R89). -/
abbrev SteerMachine.steers (m : SteerMachine) : Prop := m = .steady ∨ m = .aligning ∨ m = .settling

/-- The machine is in a transition (R103). -/
abbrev SteerMachine.turns (m : SteerMachine) : Prop := m = .aligning ∨ m = .settling

section Sound
variable {s t : State}

/-- Corners kept, and a machine that neither begins nor ends a search and whose pending target goes with a transition. -/
theorem State.SteeringSound.moved (h : s.SteeringSound) (tse : t.tse = s.tse)
    (keeps : ∀ i, (s.stc.corners.get i).Keeps (t.stc.corners.get i))
    (search : t.stc.machine = .search ↔ s.stc.machine = .search)
    (pending : t.stc.pending.isSome = true ↔ t.stc.machine.turns)
    (steers : t.stc.machine.steers → s.stc.machine.steers) : t.SteeringSound where
  search := by rw [search, tse]; exact h.search
  searching i := by rw [(keeps i).searching, tse]; exact h.searching i
  idle := by rw [tse]; exact h.idle
  pending := pending
  corners steady i := (keeps i).powered (h.corners (steers steady) i)
  loadHeld i := (keeps i).loadRule

/-- Corners kept, the machine and its pending target as they stood. -/
theorem State.SteeringSound.of_corners (h : s.SteeringSound) (tse : t.tse = s.tse)
    (machine : t.stc.machine = s.stc.machine) (pending : t.stc.pending = s.stc.pending)
    (keeps : ∀ i, (s.stc.corners.get i).Keeps (t.stc.corners.get i)) : t.SteeringSound :=
  h.moved tse keeps (by rw [machine]) (by rw [machine, pending]; exact h.pending) (by rw [machine]; exact id)

/-- Each record stands in what the invariant reads. -/
theorem State.SteeringSound.same (h : s.SteeringSound) (i : CornerId) :
    (s.stc.corners.get i).Keeps (s.stc.corners.get i) := .same rfl rfl (h.loadHeld i)

/-- Another machine over the same corners. -/
theorem State.SteeringSound.of_machine (h : s.SteeringSound) (tse : t.tse = s.tse)
    (corners : t.stc.corners = s.stc.corners) (search : t.stc.machine = .search ↔ s.stc.machine = .search)
    (pending : t.stc.pending.isSome = true ↔ t.stc.machine.turns)
    (steers : t.stc.machine.steers → s.stc.machine.steers) : t.SteeringSound :=
  h.moved tse (fun i => by rw [corners]; exact h.same i) search pending steers

theorem State.SteeringSound.mapCorners (h : s.SteeringSound) {f : Corner → Corner}
    (keeps : ∀ i, (s.stc.corners.get i).Keeps (f (s.stc.corners.get i))) :
    (s.setStc (s.stc.mapCorners f)).SteeringSound :=
  h.of_corners rfl rfl rfl fun i => by rw [State.setStc_stc, Stc.mapCorners_get]; exact keeps i

theorem State.SteeringSound.put (h : s.SteeringSound) {i : CornerId} {k : Corner}
    (keeps : (s.stc.corners.get i).Keeps k) : (s.setStc (s.stc.put i k)).SteeringSound := by
  refine h.of_corners rfl rfl rfl fun j => ?_
  by_cases own : j = i
  · subst own
    rw [State.setStc_stc, Stc.put_get_self]
    exact keeps
  · rw [State.setStc_stc, Stc.put_get_other _ _ own]
    exact h.same j

theorem State.SteeringSound.putCorner (h : s.SteeringSound) {i : CornerId} {k : Corner}
    (keeps : (s.stc.corners.get i).Keeps k) : (s.putCorner i k).SteeringSound := by
  unfold State.putCorner
  dsimp only
  split
  · exact (h.put keeps).congr rfl rfl
  · exact h.put keeps

/-- Outside a search no corner searches. -/
theorem State.SteeringSound.idle_corner (h : s.SteeringSound) (still : s.stc.machine ≠ .search) (i : CornerId) :
    (s.stc.corners.get i).state ≠ .searching := by
  have stopped : s.tse.running = false := Bool.eq_false_iff.mpr fun runs => still (h.search.mpr runs)
  intro e
  have running := (h.searching i).mp e
  rw [(h.idle stopped).1] at running
  cases running

/-! ## Transitions (R101 to R107) -/

theorem Stc.fallBack_machine (c : Stc) : c.fallBack.machine = c.machine := by
  unfold Stc.fallBack
  split
  · split <;> rfl
  · rfl

theorem Stc.fallBack_corners (c : Stc) : c.fallBack.corners = c.corners := by
  unfold Stc.fallBack
  split
  · split <;> rfl
  · rfl

theorem Stc.fallBack_isSome (c : Stc) : c.fallBack.pending.isSome = c.pending.isSome := by
  unfold Stc.fallBack
  split
  · rename_i waits
    split
    · rfl
    · rw [waits]; rfl
  · rfl

theorem State.SteeringSound.fallBack (h : s.SteeringSound) : (s.setStc s.stc.fallBack).SteeringSound :=
  h.of_machine rfl (Stc.fallBack_corners _) (by rw [State.setStc_stc, Stc.fallBack_machine])
    (by rw [State.setStc_stc, Stc.fallBack_machine, Stc.fallBack_isSome]; exact h.pending)
    (by rw [State.setStc_stc, Stc.fallBack_machine]; exact id)

/-- ALIGNING gives way to SETTLING (R103). -/
theorem State.SteeringSound.beginSettling (h : s.SteeringSound) (aligning : s.stc.machine = .aligning) :
    (s.setStc s.stc.beginSettling).SteeringSound :=
  h.of_machine rfl rfl (by simp [Stc.beginSettling, aligning])
    (iff_of_true (h.pending.mpr (.inl aligning)) (.inr rfl)) fun _ => .inr (.inl aligning)

/-- A transition begins out of STEADY (R101, R102). -/
theorem State.SteeringSound.beginAligning (h : s.SteeringSound) (steady : s.stc.machine = .steady) (m : SteerMode) :
    (s.setStc (s.stc.beginAligning m)).SteeringSound :=
  h.of_machine rfl rfl (by simp [Stc.beginAligning, steady]) (iff_of_true rfl (.inl rfl)) fun _ => .inl steady

theorem State.SteeringSound.settleFailures (h : s.SteeringSound) (b : PerCorner Bool) :
    (s.settleFailures b).SteeringSound := by
  unfold State.settleFailures
  split
  · exact h
  · unfold Stc.settleFailure
    split
    · rename_i steady
      split
      · exact h.congr rfl rfl
      · have begun := h.beginAligning steady (fallbackMode s.stc.failedSet)
        exact (begun.mapCorners fun i => Corner.aim_keeps (begun.loadHeld i) 0).congr rfl rfl
    · exact h.fallBack
    · exact h.fallBack
    · exact h.congr rfl rfl

theorem State.SteeringSound.afterCorner (h : s.SteeringSound) (b : PerCorner Bool) : (s.afterCorner b).SteeringSound := by
  have settled := h.settleFailures b
  unfold State.afterCorner Stc.settleIfAligned
  dsimp only
  split
  · rename_i straight
    exact settled.beginSettling straight.1
  · exact settled.congr rfl rfl

theorem State.SteeringSound.settleEnds (h : s.SteeringSound) (settling : s.stc.machine = .settling) :
    s.settleEnds.SteeringSound := by
  have adopted := h.mapCorners (f := fun k => k.adopt s.stc.mode (s.stc.pending.getD s.stc.mode) s.link.held)
    fun i => Corner.adopt_keeps (h.loadHeld i) _ _ _
  refine adopted.of_machine rfl rfl ?_ ?_ fun _ => .inr (.inr settling)
  · exact iff_of_false (by simp [State.settleEnds, State.steerNotice]) (by simp [Stc.mapCorners, settling])
  · exact iff_of_false (by simp [State.settleEnds, State.steerNotice])
      (by simp [State.settleEnds, State.steerNotice, SteerMachine.turns])

theorem State.SteeringSound.alignExpires (h : s.SteeringSound) (aligning : s.stc.machine = .aligning) :
    s.alignExpires.SteeringSound := by
  have failed := h.mapCorners (f := fun k => if k.state ≠ .failed ∧ k.commanded ≠ 0 then k.fail .align else k) fun i => by
    split
    · exact Corner.fail_keeps (h.idle_corner (by rw [aligning]; simp) i) .align
    · exact h.same i
  have settles : ∀ u : State, u.SteeringSound → u.stc.machine = .aligning →
      (u.setStc u.stc.fallBack.beginSettling).SteeringSound := fun u sound at_ =>
    sound.fallBack.beginSettling (by rw [State.setStc_stc, Stc.fallBack_machine, at_])
  unfold State.alignExpires
  dsimp only
  refine settles _ ?_ ?_
  · split
    · exact failed
    · exact failed.congr rfl rfl
  · split <;> exact aligning

theorem State.SteeringSound.advanceMachine (h : s.SteeringSound) : s.advanceMachine.SteeringSound := by
  have timed (c : Stc) (corners : c.corners = s.stc.corners) (machine : c.machine = s.stc.machine)
      (pending : c.pending = s.stc.pending) : (s.setStc c).SteeringSound :=
    h.of_corners rfl machine pending fun i => by rw [State.setStc_stc, corners]; exact h.same i
  unfold State.advanceMachine
  dsimp only
  split
  · rename_i aligning
    split
    · exact h.beginSettling aligning
    · split
      · exact (timed { s.stc with alignMs := s.stc.nextAlignMs } rfl rfl rfl).alignExpires aligning
      · exact timed _ rfl rfl rfl
  · rename_i settling
    split
    · exact (timed { s.stc with settleMs := min 500 (s.stc.settleMs + 10) } rfl rfl rfl).settleEnds settling
    · exact timed _ rfl rfl rfl
  · exact h

/-- What the head of the STEER_SEL queue makes of the machine and its pending target, and whether it is refused (R102,
R104, R105). -/
def State.takenCode (s : State) : SteerMachine × Option SteerMode × Bool :=
  match s.intent.steer.queue with
  | [] => (s.stc.machine, s.stc.pending, false)
  | code :: _ => codeOutcome (modeAllowed s.stc.failedSet) s.stc.mode s.stc.pending code.mode s.stc.machine

/-- Steering as a taken code leaves it: a transition begins, and a transition that is abandoned ends, with its timer at
0. -/
def Stc.coded (c : Stc) (o : SteerMachine × Option SteerMode × Bool) : Stc :=
  { c with
    machine := o.1
    pending := o.2.1
    alignMs := if o.1 = c.machine then c.alignMs else 0
    settleMs := if c.machine = .steady ∧ o.1 = .aligning then 0 else c.settleMs }

theorem Stc.coded_self (c : Stc) (b : Bool) : c.coded (c.machine, c.pending, b) = c := by
  unfold Stc.coded
  rw [if_pos rfl, if_neg]
  rintro ⟨steady, aligning⟩
  rw [steady] at aligning
  cases aligning

/-- The state that a taken code leaves, with the notice of a refused one. -/
def State.withCode (u : State) (o : SteerMachine × Option SteerMode × Bool) : State :=
  if o.2.2 then (u.setStc (u.stc.coded o)).refuseCode else u.setStc (u.stc.coded o)

theorem State.withCode_stays (u : State) : u.withCode (u.stc.machine, u.stc.pending, false) = u := by
  unfold State.withCode
  rw [Stc.coded_self]
  rfl

theorem State.withCode_refused (u : State) : u.withCode (u.stc.machine, u.stc.pending, true) = u.refuseCode := by
  unfold State.withCode
  rw [Stc.coded_self]
  rfl

/-- The outcome of a code that `u` takes. -/
abbrev State.outcomeOf (u : State) (m : SteerMode) : SteerMachine × Option SteerMode × Bool :=
  codeOutcome (modeAllowed u.stc.failedSet) u.stc.mode u.stc.pending m u.stc.machine

/-- The table of R102. -/
theorem State.codeInSteady_eq (u : State) (m : SteerMode) (steady : u.stc.machine = .steady) :
    u.codeInSteady m = u.withCode (u.outcomeOf m) := by
  have stays := u.withCode_stays
  have refused := u.withCode_refused
  unfold State.codeInSteady State.outcomeOf
  rw [steady] at stays refused ⊢
  unfold codeOutcome
  dsimp only
  split_ifs
  · exact stays.symm
  · simp [State.withCode, Stc.coded, Stc.beginAligning, steady]
  · exact refused.symm

/-- The table of R104. -/
theorem State.codeInAligning_eq (u : State) (m : SteerMode) (aligning : u.stc.machine = .aligning) :
    u.codeInAligning m = u.withCode (u.outcomeOf m) := by
  have stays := u.withCode_stays
  have refused := u.withCode_refused
  unfold State.codeInAligning State.outcomeOf
  rw [aligning] at stays refused ⊢
  unfold codeOutcome
  dsimp only
  split_ifs
  · simp [State.withCode, Stc.coded, aligning]
  · exact refused.symm
  · exact stays.symm
  · simp [State.withCode, Stc.coded, aligning]
  · exact refused.symm

/-- The table of R105. -/
theorem State.codeInSettling_eq (u : State) (m : SteerMode) (settling : u.stc.machine = .settling) :
    u.codeInSettling m = u.withCode (u.outcomeOf m) := by
  have stays := u.withCode_stays
  have refused := u.withCode_refused
  unfold State.codeInSettling State.outcomeOf
  rw [settling] at stays refused ⊢
  unfold codeOutcome
  dsimp only
  split_ifs
  · exact stays.symm
  · simp [State.withCode, Stc.coded, settling]
  · exact refused.symm

/-- Step 4 takes no code outside STEADY, ALIGNING and SETTLING (R102, R120). -/
theorem State.takeSteerCode_idle (idle : ¬s.stc.machine.steers) : s.takeSteerCode = s := by
  unfold State.takeSteerCode
  split
  · rfl
  · dsimp only
    split
    · rename_i at_; exact absurd (.inl at_) idle
    · rename_i at_; exact absurd (.inr (.inl at_)) idle
    · rename_i at_; exact absurd (.inr (.inr at_)) idle
    all_goals rfl

/-- The state whose STEER_SEL queue has lost its head. -/
abbrev State.codeTaken (s : State) : State :=
  s.setIntent { s.intent with steer := { s.intent.steer with queue := s.intent.steer.queue.tail } }

/-- In those the head of the queue is taken (R102, R104, R105). -/
theorem State.takeSteerCode_steers (steers : s.stc.machine.steers) :
    s.takeSteerCode = s.codeTaken.withCode s.takenCode := by
  unfold State.takeSteerCode State.takenCode State.codeTaken
  split
  · rename_i empty
    simp only [empty, List.tail_nil]
    refine Eq.trans ?_ (State.withCode_stays _).symm
    rw [← empty]
    rfl
  · rename_i code rest head
    simp only [head, List.tail_cons]
    have same : (s.setIntent { s.intent with steer := { s.intent.steer with queue := rest } }).stc = s.stc := rfl
    generalize s.setIntent { s.intent with steer := { s.intent.steer with queue := rest } } = u at same ⊢
    rw [← same] at steers ⊢
    obtain at_ | at_ | at_ := steers
    · simp only [u.codeInSteady_eq _ at_, State.outcomeOf, at_]
    · simp only [u.codeInAligning_eq _ at_, State.outcomeOf, at_]
    · simp only [u.codeInSettling_eq _ at_, State.outcomeOf, at_]

end Sound

end Sys2Proof.Machine
end

section
/-! PROOF. Steering and search stay sound through a servo frame and through the operations of a search (R90, R91, R107,
R115 to R122). -/
namespace Sys2Proof.Machine

/-! ## Codes (R102, R104, R105) -/

section Codes
variable {s : State}

/-- A taken code leaves the machine in or between its modes, a pending target going with a transition. -/
theorem codeOutcome_sound {allowed : SteerMode → Bool} {inEffect c : SteerMode} {pending : Option SteerMode}
    {m : SteerMachine} (steers : m.steers) (waits : pending.isSome = true ↔ m.turns) :
    let o := codeOutcome allowed inEffect pending c m
    o.1.steers ∧ (o.2.1.isSome = true ↔ o.1.turns) := by
  obtain rfl | rfl | rfl := steers
  · unfold codeOutcome
    dsimp only
    split_ifs
    · exact ⟨.inl rfl, waits⟩
    · exact ⟨.inr (.inl rfl), iff_of_true rfl (.inl rfl)⟩
    · exact ⟨.inl rfl, waits⟩
  · unfold codeOutcome
    dsimp only
    split_ifs
    · exact ⟨.inl rfl, iff_of_false (by simp) (by simp [SteerMachine.turns])⟩
    · exact ⟨.inr (.inl rfl), waits⟩
    · exact ⟨.inr (.inl rfl), waits⟩
    · exact ⟨.inr (.inl rfl), iff_of_true rfl (.inl rfl)⟩
    · exact ⟨.inr (.inl rfl), waits⟩
  · unfold codeOutcome
    dsimp only
    split_ifs
    · exact ⟨.inr (.inr rfl), waits⟩
    · exact ⟨.inr (.inr rfl), iff_of_true rfl (.inr rfl)⟩
    · exact ⟨.inr (.inr rfl), waits⟩

theorem State.SteeringSound.takenCode (h : s.SteeringSound) (steers : s.stc.machine.steers) :
    s.takenCode.1.steers ∧ (s.takenCode.2.1.isSome = true ↔ s.takenCode.1.turns) := by
  unfold State.takenCode
  split
  · exact ⟨steers, h.pending⟩
  · exact codeOutcome_sound steers h.pending

theorem SteerMachine.ne_search_of_steers {m : SteerMachine} (steers : m.steers) : m ≠ .search := by
  rintro rfl
  obtain e | e | e := steers <;> cases e

theorem State.SteeringSound.takeSteerCode (h : s.SteeringSound) : s.takeSteerCode.SteeringSound := by
  by_cases steers : s.stc.machine.steers
  · obtain ⟨ends, waits⟩ := h.takenCode steers
    have coded : (s.codeTaken.setStc (s.stc.coded s.takenCode)).SteeringSound :=
      h.of_machine rfl rfl (iff_of_false (SteerMachine.ne_search_of_steers ends) (SteerMachine.ne_search_of_steers steers))
        waits fun _ => steers
    rw [State.takeSteerCode_steers steers]
    unfold State.withCode
    split
    · exact coded.congr rfl rfl
    · exact coded
  · rw [State.takeSteerCode_idle steers]
    exact h

end Codes

/-! ## Steps 1 to 5 of a frame -/

section Begin
variable {s t : State}

/-- The trim search is idle (R113). -/
structure Tse.Idle (t : Tse) : Prop where
  running : t.running = false
  corner : t.corner = none
  list : t.list = []

theorem State.SteeringSound.tse_idle (h : s.SteeringSound) (still : s.tse.running = false) : s.tse.Idle :=
  ⟨still, (h.idle still).1, (h.idle still).2⟩

theorem State.SteeringSound.unsearched (h : s.SteeringSound) (still : s.stc.machine ≠ .search) : s.tse.Idle :=
  h.tse_idle (Bool.eq_false_iff.mpr fun runs => still (h.search.mpr runs))

/-- A machine outside SEARCH, the search idle. -/
theorem State.SteeringSound.of_idle (idle : t.tse.Idle) (machine : t.stc.machine ≠ .search)
    (pending : t.stc.pending.isSome = true ↔ t.stc.machine.turns)
    (steers : t.stc.machine.steers → ∀ i, (t.stc.corners.get i).state.powered = true)
    (corners : ∀ i, (t.stc.corners.get i).state ≠ .searching ∧ (t.stc.corners.get i).LoadRule) : t.SteeringSound where
  search := iff_of_false machine (by rw [idle.running]; simp)
  searching i := iff_of_false (corners i).1 (by rw [idle.corner]; simp)
  idle _ := ⟨idle.corner, idle.list⟩
  pending := pending
  corners := steers
  loadHeld i := (corners i).2

theorem Corner.ne_searching_of_powered {k : Corner} (powered : k.state.powered = true) : k.state ≠ .searching :=
  fun e => by rw [e] at powered; cases powered

/-- Outside a transition no target is pending. -/
theorem State.SteeringSound.pending_none (h : s.SteeringSound) (rests : ¬s.stc.machine.turns) :
    s.stc.pending = none := by
  rw [← Option.not_isSome_iff_eq_none]
  exact fun some => rests (h.pending.mp some)

/-- The machine comes to STEADY (R91, R120). -/
theorem State.SteeringSound.returnToSteady (idle : s.tse.Idle) (pending : s.stc.pending = none)
    (rules : ∀ i, (s.stc.corners.get i).LoadRule) (loading : Bool) :
    (s.setStc (s.stc.returnToSteady loading)).SteeringSound := by
  have kept (i : CornerId) : let k := (s.stc.returnToSteady loading).corners.get i
      k.state.powered = true ∧ k.LoadRule := by
    intro k
    have same : k = (s.stc.corners.get i).steady s.stc.mode loading := Stc.mapCorners_get _ _ _
    rw [same]
    exact Corner.steady_keeps (rules i) _ _
  refine .of_idle idle (by simp [Stc.returnToSteady]) (iff_of_false ?_ ?_) (fun _ i => (kept i).1) fun i =>
    ⟨Corner.ne_searching_of_powered (kept i).1, (kept i).2⟩
  · simp [Stc.returnToSteady, Stc.mapCorners, pending]
  · simp [Stc.returnToSteady, SteerMachine.turns]

theorem State.SteeringSound.endSearch (pending : s.stc.pending = none) (rules : ∀ i, (s.stc.corners.get i).LoadRule)
    (c : EndCause) : (s.endSearch c).SteeringSound := by
  unfold State.endSearch State.trimNotice
  dsimp only
  refine State.SteeringSound.congr (State.SteeringSound.returnToSteady ?_ ?_ ?_ _) rfl rfl
  exacts [⟨rfl, rfl, rfl⟩, pending, rules]

theorem State.SteeringSound.abortSearch (h : s.SteeringSound) (search : s.stc.machine = .search) (c : EndCause) :
    (s.abortSearch c).SteeringSound := by
  unfold State.abortSearch
  refine .endSearch ?_ ?_ c
  exacts [h.pending_none (by simp [search, SteerMachine.turns]), h.loadHeld]

theorem State.SteeringSound.abortOnMode (h : s.SteeringSound) : s.abortOnMode.SteeringSound := by
  unfold State.abortOnMode
  split
  · rename_i runs
    exact h.abortSearch (h.search.mpr runs.1) _
  · exact h

theorem State.abortOnMode_mode : s.abortOnMode.mdc.mode = s.mdc.mode := by
  unfold State.abortOnMode
  split <;> rfl

/-- Step 1 leaves no search in a mode other than READY and RUN (R122). -/
theorem State.abortOnMode_idle (h : s.SteeringSound) (ready : s.mdc.mode ≠ .ready) (run : s.mdc.mode ≠ .run) :
    s.abortOnMode.tse.Idle := by
  unfold State.abortOnMode
  split
  · exact ⟨rfl, rfl, rfl⟩
  · rename_i stays
    exact h.tse_idle (Bool.eq_false_iff.mpr fun runs => stays ⟨runs, ready, run⟩)

theorem State.adoptTarget_corners : s.adoptTarget.stc.corners = s.stc.corners := by
  unfold State.adoptTarget
  split <;> rfl

theorem State.adoptTarget_tse : s.adoptTarget.tse = s.tse := by
  unfold State.adoptTarget
  split <;> rfl

theorem State.adoptTarget_pending (h : s.SteeringSound) : s.adoptTarget.stc.pending = none := by
  unfold State.adoptTarget
  split
  · rfl
  · exact h.pending_none ‹_›

/-- Steering is set still, its transition abandoned for the target (R91, R107). -/
theorem State.SteeringSound.setStill (h : s.SteeringSound) (idle : s.tse.Idle) {f : Corner → Corner} {m : SteerMachine}
    (keeps : ∀ k : Corner, k.LoadRule → (f k).state ≠ .searching ∧ (f k).LoadRule) (rests : m = .unpowered ∨ m = .centering) :
    (s.adoptTarget.setStc { s.adoptTarget.stc.mapCorners f with machine := m }).SteeringSound := by
  have corner (i : CornerId) : (s.adoptTarget.stc.mapCorners f).corners.get i = f (s.stc.corners.get i) := by
    rw [Stc.mapCorners_get, State.adoptTarget_corners]
  have still : m ≠ .search ∧ ¬m.turns ∧ ¬m.steers := by
    obtain rfl | rfl := rests <;> simp [SteerMachine.turns, SteerMachine.steers]
  refine .of_idle (by rw [State.setStc_tse, State.adoptTarget_tse]; exact idle) still.1
    (iff_of_false ?_ still.2.1) (fun steers => absurd steers still.2.2) fun i => ?_
  · simp [Stc.mapCorners, State.adoptTarget_pending h]
  · rw [State.setStc_stc, corner]
    exact keeps _ (h.loadHeld i)

theorem Corner.centre_still {k : Corner} (rule : k.LoadRule) : k.centre.state ≠ .searching ∧ k.centre.LoadRule := by
  unfold Corner.centre
  split
  · rename_i failed
    exact ⟨by rw [failed]; simp, rule⟩
  · exact ⟨by simp [Corner.parkAt], fun held => by cases held⟩

theorem Corner.unpower_still {k : Corner} (rule : k.LoadRule) : k.unpower.state ≠ .searching ∧ k.unpower.LoadRule := by
  unfold Corner.unpower
  split
  · rename_i failed
    exact ⟨by rw [failed]; simp, rule⟩
  · exact ⟨by simp, fun held => by cases held⟩

theorem State.SteeringSound.followMode (h : s.SteeringSound) : s.followMode.SteeringSound := by
  have aborted := h.abortOnMode
  have drives : (s.abortOnMode.stc.machine = .unpowered ∨ s.abortOnMode.stc.machine = .centering) →
      (s.abortOnMode.setStc (s.abortOnMode.stc.returnToSteady s.abortOnMode.link.held)).SteeringSound := fun rests => by
    have still : s.abortOnMode.stc.machine ≠ .search ∧ ¬s.abortOnMode.stc.machine.turns := by
      obtain e | e := rests <;> simp [e, SteerMachine.turns]
    exact .returnToSteady (aborted.unsearched still.1) (aborted.pending_none still.2) aborted.loadHeld _
  unfold State.followMode
  dsimp only
  split
  iterate 3
    split
    · exact drives ‹_›
    · exact aborted
  all_goals
    rename_i mode
    rw [State.abortOnMode_mode] at mode
    have idle := State.abortOnMode_idle h (by rw [mode]; simp) (by rw [mode]; simp)
  · exact aborted.setStill idle (fun _ => Corner.centre_still) (.inr rfl)
  all_goals exact aborted.setStill idle (fun _ => Corner.unpower_still) (.inl rfl)

/-- Corners of the same states and holds, the rest of the search's and the machine's record as it stands. -/
theorem State.SteeringSound.same_corners (h : s.SteeringSound) (tse : t.tse = s.tse)
    (machine : t.stc.machine = s.stc.machine) (pending : t.stc.pending = s.stc.pending)
    (same : ∀ i, (t.stc.corners.get i).state = (s.stc.corners.get i).state ∧
      (t.stc.corners.get i).loadHeld = (s.stc.corners.get i).loadHeld) : t.SteeringSound :=
  h.of_corners tse machine pending fun i => .same (same i).1 (same i).2 (h.loadHeld i)

/-- The geometry aims each corner (R92). -/
theorem Stc.aimGeometry_get (c : Stc) (w : WorkingSet) (a b : Int) (i : CornerId) :
    ∃ goal, (c.aimGeometry w a b).corners.get i = (c.corners.get i).aim goal := by
  cases i <;> exact ⟨_, rfl⟩

theorem State.SteeringSound.aimCorners (h : s.SteeringSound) : s.aimCorners.SteeringSound := by
  unfold State.aimCorners
  split
  · refine h.of_corners rfl rfl rfl fun i => ?_
    obtain ⟨goal, aimed⟩ := s.stc.aimGeometry_get s.ws s.steerAxes.1 s.steerAxes.2 i
    rw [State.setStc_stc, aimed]
    exact Corner.aim_keeps (h.loadHeld i) goal
  · exact h.mapCorners fun i => Corner.aim_keeps (h.loadHeld i) 0
  · exact h.mapCorners fun i => Corner.aim_keeps (h.loadHeld i) 0
  · refine h.mapCorners fun i => ?_
    split
    · exact Corner.aim_keeps (h.loadHeld i) 0
    · exact h.same i

theorem State.SteeringSound.beginFrame (h : s.SteeringSound) (r : ServoReading) : (s.beginFrame r).SteeringSound := by
  have aged := h.mapCorners (f := fun k => k.age (s.stc.frameNo + 1)) fun i => Corner.age_keeps (h.loadHeld i) _
  have counted : (s.setStc { s.stc.mapCorners (fun k => k.age (s.stc.frameNo + 1)) with
      frameNo := s.stc.frameNo + 1 }).SteeringSound :=
    aged.same_corners rfl rfl rfl fun _ => ⟨rfl, rfl⟩
  unfold State.beginFrame State.setSlew
  dsimp only
  have followed := counted.followMode
  generalize State.followMode _ = u at followed ⊢
  have sampled : (u.setStc (u.stc.sample r)).SteeringSound :=
    followed.same_corners rfl rfl rfl fun i => by
      rw [State.setStc_stc, Stc.sample, PerCorner.get_ofFn]
      exact ⟨rfl, rfl⟩
  generalize u.setStc (u.stc.sample r) = v at sampled ⊢
  have slewed : (v.setStc { v.stc with
      starved := isStarved v.ws (v.grant .steer), slewStep := slewFor v.ws (v.grant .steer) }).SteeringSound :=
    sampled.same_corners rfl rfl rfl fun _ => ⟨rfl, rfl⟩
  exact slewed.takeSteerCode.aimCorners

end Begin

/-! ## The search (R116 to R119) -/

section Search
variable {s t : State}

/-- The same running corner and list. -/
theorem State.SteeringSound.of_tse (h : s.SteeringSound) (stc : t.stc = s.stc) (running : t.tse.running = s.tse.running)
    (corner : t.tse.corner = s.tse.corner) (list : t.tse.list = s.tse.list) : t.SteeringSound where
  search := by rw [stc, running]; exact h.search
  searching := by rw [stc, corner]; exact h.searching
  idle := by rw [running, corner, list]; exact h.idle
  pending := by rw [stc]; exact h.pending
  corners := by rw [stc]; exact h.corners
  loadHeld := by rw [stc]; exact h.loadHeld

/-- The probe is set at the running corner, which is new or was running (R116, R117). -/
theorem State.SteeringSound.setProbe (h : s.SteeringSound) (search : s.stc.machine = .search) {i : CornerId}
    (stc : t.stc = s.stc) (running : t.tse.running = true) (own : t.tse.corner = some i)
    (was : s.tse.corner = none ∨ s.tse.corner = some i) (o : Int) : (t.setProbe i o).SteeringSound := by
  have corner_self : ((t.setProbe i o).stc.corners.get i).state = .searching ∧
      ((t.setProbe i o).stc.corners.get i).loadHeld = false := by
    simp [State.setProbe]
  have corner_other {j : CornerId} (other : j ≠ i) :
      (t.setProbe i o).stc.corners.get j = s.stc.corners.get j := by
    simp [State.setProbe, Stc.put_get_other _ _ other, stc]
  have machine : (t.setProbe i o).stc.machine = .search := by rw [← search, ← stc]; rfl
  have pending : (t.setProbe i o).stc.pending = none := by
    rw [← h.pending_none (by simp [search, SteerMachine.turns]), ← stc]; rfl
  refine
    { search := iff_of_true machine running
      searching := fun j => ?_
      idle := fun stopped => absurd (running.symm.trans stopped) (by simp)
      pending := iff_of_false (by simp [pending]) (by simp [machine])
      corners := fun steers => absurd machine (SteerMachine.ne_search_of_steers steers)
      loadHeld := fun j => ?_ }
  · by_cases same : j = i
    · subst same
      exact iff_of_true corner_self.1 own
    · rw [corner_other same, h.searching j]
      refine iff_of_false ?_ fun e => same (Option.some.inj (e.symm.trans own))
      obtain e | e := was <;> rw [e]
      · simp
      · exact fun e => same (Option.some.inj e).symm
  · by_cases same : j = i
    · subst same
      exact fun held => by rw [corner_self.2] at held; cases held
    · rw [corner_other same]
      exact h.loadHeld j

theorem State.SteeringSound.beginCorner (h : s.SteeringSound) (search : s.stc.machine = .search) :
    s.beginCorner.SteeringSound := by
  unfold State.beginCorner
  split
  · rename_i rested _
    split
    · refine h.setProbe search ?_ ?_ ?_ (.inl rested) _
      exacts [rfl, h.search.mp search, rfl]
    · exact h
  · exact h

theorem State.SteeringSound.probeStep (h : s.SteeringSound) (search : s.stc.machine = .search) {i : CornerId}
    (runs : s.tse.corner = some i) : (s.probeStep i).SteeringSound :=
  (h.setProbe search rfl (h.search.mp search) runs (.inr runs) (s.tse.probe + s.tse.step)).of_tse rfl rfl rfl rfl

/-- The running corner ends (R119, R120). -/
theorem State.SteeringSound.endCorner (h : s.SteeringSound) (search : s.stc.machine = .search) {i : CornerId}
    (runs : s.tse.corner = some i) (f : ResultEntry → ResultEntry) : (s.endCorner i f).SteeringSound := by
  have pending := h.pending_none (by simp [search, SteerMachine.turns])
  have still (j : CornerId) :
      let k := (s.stc.put i ((s.stc.corners.get i).parkAt .held)).corners.get j
      k.state ≠ .searching ∧ k.LoadRule := by
    dsimp only
    by_cases same : j = i
    · rw [same, Stc.put_get_self]
      exact ⟨by simp [Corner.parkAt], fun held => by cases held⟩
    · rw [Stc.put_get_other _ _ same]
      exact ⟨fun e => same (Option.some.inj (((h.searching j).mp e).symm.trans runs)), h.loadHeld j⟩
  unfold State.endCorner
  dsimp only
  split
  · refine .endSearch ?_ ?_ _
    exacts [pending, fun j => (still j).2]
  · have running := h.search.mp search
    constructor
    case search => exact iff_of_true search running
    case searching => exact fun j => iff_of_false (still j).1 (by simp [Tse.setResult])
    case idle => exact fun stopped => absurd (running.symm.trans stopped) (by simp)
    case pending => exact iff_of_false (by simp [Stc.put, pending]) (by simp [Stc.put, search])
    case corners => exact fun steers => absurd search (SteerMachine.ne_search_of_steers steers)
    case loadHeld => exact fun j => (still j).2

theorem State.SteeringSound.judgeWait (h : s.SteeringSound) (search : s.stc.machine = .search) {i : CornerId}
    (runs : s.tse.corner = some i) : (s.judgeWait i).SteeringSound := by
  unfold State.judgeWait
  split
  · exact (h.of_tse (t := s.setTse { s.tse with frames := 10 }) rfl rfl rfl rfl).endCorner search runs _
  · exact (h.of_tse (t := s.setTse { s.tse with lastClear := false, last0 := s.tse.probe }) rfl rfl rfl rfl).probeStep
      search runs

theorem State.SteeringSound.edgeFound (h : s.SteeringSound) (search : s.stc.machine = .search) {i : CornerId}
    (runs : s.tse.corner = some i) : (s.edgeFound i).SteeringSound := by
  unfold State.edgeFound
  dsimp only
  split
  · refine State.SteeringSound.endCorner ?_ ?_ ?_ _
    exacts [h.congr rfl rfl, search, runs]
  · exact h.endCorner search runs _

theorem State.SteeringSound.judgeStep (h : s.SteeringSound) (search : s.stc.machine = .search) {i : CornerId}
    (runs : s.tse.corner = some i) : (s.judgeStep i).SteeringSound := by
  have read (x : Tse) (running : x.running = s.tse.running) (corner : x.corner = s.tse.corner)
      (list : x.list = s.tse.list) : (s.setTse x).SteeringSound := h.of_tse rfl running corner list
  unfold State.judgeStep
  dsimp only
  have judged := read (if decide (s.tse.firstSample = (s.stc.corners.get i).sense) then
      { s.tse with
        frames := 4, lastClear := (s.stc.corners.get i).sense
        last0 := if (s.stc.corners.get i).sense then s.tse.last0 else s.tse.probe }
    else { s.tse with frames := 4 }) (by split <;> rfl) (by split <;> rfl) (by split <;> rfl)
  have runs : (if decide (s.tse.firstSample = (s.stc.corners.get i).sense) then
      { s.tse with
        frames := 4, lastClear := (s.stc.corners.get i).sense
        last0 := if (s.stc.corners.get i).sense then s.tse.last0 else s.tse.probe }
    else { s.tse with frames := 4 }).corner = some i := by split <;> exact runs
  split
  · exact judged.edgeFound search runs
  · split
    · exact judged.endCorner search runs _
    · exact judged

theorem State.SteeringSound.searchFrame (h : s.SteeringSound) (search : s.stc.machine = .search) :
    s.searchFrame.SteeringSound := by
  have read (x : Tse) (running : x.running = s.tse.running) (corner : x.corner = s.tse.corner)
      (list : x.list = s.tse.list) : (s.setTse x).SteeringSound := h.of_tse rfl running corner list
  unfold State.searchFrame
  split
  · exact h.beginCorner search
  · rename_i i runs
    split
    · exact h
    · split
      · split
        · exact h.judgeWait search runs
        · exact read _ rfl rfl rfl
      · split
        · exact h.probeStep search runs
        · split
          · exact h.judgeStep search runs
          · exact read _ rfl rfl rfl

end Search

/-! ## Steps 6 to 10 of a frame -/

section End
variable {s : State}

theorem State.SteeringSound.workCorner (h : s.SteeringSound) (i : CornerId) : (s.workCorner i).SteeringSound :=
  h.putCorner (Corner.frame_kept (h.loadHeld i) _ _ _ _ _)

theorem State.SteeringSound.workCorners (h : s.SteeringSound) : s.workCorners.SteeringSound := by
  have all (l : List CornerId) : ∀ u : State, u.SteeringSound → (l.foldl State.workCorner u).SteeringSound := by
    induction l with
    | nil => exact fun _ sound => sound
    | cons i l ih => exact fun u sound => ih _ (sound.workCorner i)
  unfold State.workCorners
  split
  · exact h.searchFrame ‹_›
  · exact all _ _ h

theorem State.SteeringSound.endFrame (h : s.SteeringSound) : s.endFrame.SteeringSound := by
  have worked : s.frameWorked.SteeringSound := (h.workCorners.settleFailures s.stc.failedSet).advanceMachine
  rw [State.endFrame_eq]
  generalize s.frameWorked = u at worked ⊢
  have wished : (u.writeWish .steer (u.steerWish s.stc.gaps)).SteeringSound :=
    worked.of_changes (State.writeWish_changes _ _ _) (by decide) (by decide)
  exact wished.same_corners rfl rfl rfl fun i => by
    rw [State.sendPulses, State.setStc_stc, PerCorner.get_ofFn]
    exact ⟨rfl, rfl⟩

/-- A servo frame (R90). -/
theorem State.MotionSound.servoFrame (h : s.MotionSound) (r : ServoReading) : (s.beginFrame r).endFrame.MotionSound :=
  ⟨(h.1.beginFrame r).endFrame, h.2.of_changes (s.servoFrame_changes r) (by decide) (by decide) (by decide)⟩

end End

end Sys2Proof.Machine
end

section
/-! PROOF. Steering and winch stay sound through their events, the requests and a store load (R97 to R109, R114 to R121,
R142, R148 to R156). -/
namespace Sys2Proof.Machine

section
variable {s : State}

/-! ## Events of corners and of the steering machine -/

/-- A steering event moves steering alone. -/
theorem State.MotionSound.of_steering {t : State} {parts : List Part} (h : s.MotionSound) (steering : t.SteeringSound)
    (changes : s.changesOnly t parts) (drc : Part.drc ∉ parts) (wnc : Part.wnc ∉ parts) (mode : Part.mode ∉ parts) :
    t.MotionSound := ⟨steering, h.2.of_changes changes drc wnc mode⟩

/-- A drive or winch event leaves steering and search. -/
theorem State.MotionSound.of_winch {t : State} (h : s.MotionSound) (stc : t.stc = s.stc) (tse : t.tse = s.tse)
    (winch : t.WinchSound) : t.MotionSound := ⟨h.1.congr stc tse, winch⟩

theorem State.MotionSound.putCorner (h : s.MotionSound) {i : CornerId} {k : Corner}
    (keeps : (s.stc.corners.get i).Keeps k) : (s.putCorner i k).MotionSound :=
  h.of_steering (h.1.putCorner keeps) (s.putCorner_changes i k) (by decide) (by decide) (by decide)

theorem State.MotionSound.afterCorner (h : s.MotionSound) (b : PerCorner Bool) : (s.afterCorner b).MotionSound :=
  h.of_steering (h.1.afterCorner b) (s.afterCorner_changes b) (by decide) (by decide) (by decide)

theorem State.MotionSound.alignExpires (h : s.MotionSound) (aligning : s.stc.machine = .aligning) :
    s.alignExpires.MotionSound :=
  h.of_steering (h.1.alignExpires aligning) s.alignExpires_changes (by decide) (by decide) (by decide)

theorem State.MotionSound.settleEnds (h : s.MotionSound) (settling : s.stc.machine = .settling) :
    s.settleEnds.MotionSound :=
  h.of_steering (h.1.settleEnds settling) s.settleEnds_changes (by decide) (by decide) (by decide)

theorem State.MotionSound.beginCorner (h : s.MotionSound) (search : s.stc.machine = .search) :
    s.beginCorner.MotionSound :=
  h.of_steering (h.1.beginCorner search) s.beginCorner_changes (by decide) (by decide) (by decide)

theorem State.MotionSound.judgeWait (h : s.MotionSound) (search : s.stc.machine = .search) {i : CornerId}
    (runs : s.tse.corner = some i) : (s.judgeWait i).MotionSound :=
  h.of_steering (h.1.judgeWait search runs) (s.judgeWait_changes i) (by decide) (by decide) (by decide)

theorem State.MotionSound.judgeStep (h : s.MotionSound) (search : s.stc.machine = .search) {i : CornerId}
    (runs : s.tse.corner = some i) : (s.judgeStep i).MotionSound :=
  h.of_steering (h.1.judgeStep search runs) (s.judgeStep_changes i) (by decide) (by decide) (by decide)

theorem State.MotionSound.abortSearch (h : s.MotionSound) (runs : s.tse.running = true) (c : EndCause) :
    (s.abortSearch c).MotionSound :=
  h.of_steering (h.1.abortSearch (h.1.search.mpr runs) c) (s.abortSearch_changes c) (by decide) (by decide) (by decide)

/-! ## Events of axles and winch -/

theorem State.takeDriveCode_steering : s.takeDriveCode.stc = s.stc ∧ s.takeDriveCode.tse = s.tse := by
  unfold State.takeDriveCode
  split
  · split
    · exact ⟨rfl, rfl⟩
    · split <;> exact ⟨rfl, rfl⟩
  · exact ⟨rfl, rfl⟩

theorem State.MotionSound.lockTaken (h : s.MotionSound) :
    let taken := s.takeDriveCode
    ((taken.setDrc ({ taken.drc with axles := PerAxle.ofFn (taken.axleAfterTake s) }.judge
      taken.mdc.mode)).writeAxleWishes).MotionSound :=
  h.of_winch s.takeDriveCode_steering.1 s.takeDriveCode_steering.2 h.2.lockTaken

/-- A driving axle stalls into REST (R139). -/
theorem State.MotionSound.axleStall (h : s.MotionSound) {i : AxleId} (drives : (s.drc.axles.get i).state = .drive) :
    (s.putAxle i { (s.drc.axles.get i).stall.setEffective with limitCount := 0 }).MotionSound :=
  h.of_winch rfl rfl (h.2.putAxle fun _ => h.2.axles i (.inl drives))

/-- An axle's rest ends (R139). -/
theorem State.MotionSound.axleRestEnd (h : s.MotionSound) (i : AxleId) :
    let a := s.drc.axles.get i
    (s.putAxle i { a with
      restMs := 0, state := if a.state = .rest ∧ s.mdc.mode = .run then .drive else a.state }).MotionSound := by
  intro a
  refine h.of_winch rfl rfl (h.2.putAxle fun drives => ?_)
  unfold Axle.drives at drives
  dsimp only at drives
  split at drives
  · rename_i rests
    exact rests.2
  · exact h.2.axles i drives

theorem State.MotionSound.jam (h : s.MotionSound) (reels : s.wnc.state.reels = true) (ms : Nat) :
    (s.jam ms).MotionSound :=
  h.of_winch rfl rfl (h.2.of_record rfl rfl (h.2.record.turn rfl
    (iff_of_true (by decide : WinchState.jammed.onDrum) (WinchState.onDrum_of_reels reels)) fun e => by cases e))

/-- The clutch's movement ends FREE or ENGAGED (R156). -/
theorem State.MotionSound.clutchMoved (h : s.MotionSound) {w : Wnc} (sound : w.Sound s.mdc.mode) :
    (s.setWnc w).MotionSound := h.of_winch rfl rfl (h.2.of_record rfl rfl sound)

theorem State.MotionSound.cancelAssist (h : s.MotionSound) : s.cancelAssist.MotionSound := by
  unfold State.cancelAssist
  split
  · rename_i assists
    exact h.clutchMoved (h.2.record.endByLoad (by rw [assists.1]; decide) s.ws true)
  · exact h

/-! ## The working set and a store load (R109, R182) -/

theorem State.MotionSound.replaceWorking (h : s.MotionSound) (w : WorkingSet) : (s.replaceWorking w).MotionSound :=
  h.congr (s.replaceWorking_pose w)

theorem State.MotionSound.holdForLoad (h : s.MotionSound) :
    (s.setStc (s.stc.mapCorners Corner.holdForLoad)).MotionSound :=
  ⟨h.1.mapCorners fun i => Corner.holdForLoad_keeps (h.1.loadHeld i), h.2.congr rfl rfl rfl⟩

theorem State.MotionSound.finishLoad (h : s.MotionSound) : s.finishLoad.MotionSound := by
  have replaced := h.replaceWorking s.sst.image.content
  unfold State.finishLoad
  dsimp only
  generalize s.replaceWorking s.sst.image.content = u at replaced ⊢
  have freed : (u.setLink { u.link with held := false, loadMs := 0 }).MotionSound := replaced.congr rfl
  exact ⟨freed.1.mapCorners fun i => Corner.releaseLoad_keeps (freed.1.loadHeld i) _, freed.2.congr rfl rfl rfl⟩

theorem State.loadImage_pose : s.loadImage.pose = s.pose := by
  have judged (u : State) (st : StoreState) (r : StoreResult) :
      ((u.setSst { u.sst with store := st }).setMdc { u.mdc with storeResult := r }).pose = u.pose := rfl
  unfold State.loadImage
  exact (judged _ _ _).trans (s.remap_pose _)

/-- A sample observes, settles the level, and counts (R49). -/
theorem State.MotionSound.packSample (h : s.MotionSound) (p : Pkm) (x : Sample) :
    (((s.setPkm p).settleLevel x).countSample).MotionSound := by
  have observed : (s.setPkm p).MotionSound := h.congr rfl
  exact (observed.settleLevel x).countSample

theorem State.MotionSound.settingTakesEffect (h : s.MotionSound) (i : Fin 78) :
    (s.settingTakesEffect i).MotionSound := by
  unfold State.settingTakesEffect
  split_ifs
  · exact h.congr rfl
  · exact h.silenceExpires
  · exact h
  · exact h.autoParkExpires
  · exact h
  · exact h.congr rfl
  · exact h.congr (by simp)
  · exact h

/-! ## Requests (R6) -/

theorem State.MotionSound.serveHello (h : s.MotionSound) (q : RawRequest) : (s.serveHello q).MotionSound := by
  have deferred : (s.setMdc { s.mdc with deferredHello := some q.tag }).MotionSound := h.congr rfl
  unfold State.serveHello
  split
  · exact deferred.setMode _
  all_goals exact h.congr rfl

theorem State.MotionSound.serveReset (h : s.MotionSound) (q : RawRequest) : (s.serveReset q).MotionSound := by
  unfold State.serveReset
  split <;> exact h.congr rfl

theorem State.MotionSound.serveResume (h : s.MotionSound) (q : RawRequest) : (s.serveResume q).MotionSound := by
  have resumed := h.setMode .run
  unfold State.serveResume
  split
  · split
    · exact resumed.congr rfl
    · split <;> exact h.congr rfl
  · exact h.congr rfl

theorem State.MotionSound.servePark (h : s.MotionSound) (q : RawRequest) : (s.servePark q).MotionSound := by
  have parked := h.setMode .park
  unfold State.servePark
  split
  · split
    · exact h.congr rfl
    · exact parked.congr rfl
  · exact h.congr rfl

theorem State.MotionSound.serveWake (h : s.MotionSound) (q : RawRequest) : (s.serveWake q).MotionSound := by
  have answered : (s.ok q []).MotionSound := h.congr rfl
  unfold State.serveWake
  split
  · exact answered.wake _
  · exact h.congr rfl

theorem State.MotionSound.serveClearCutoff (h : s.MotionSound) (q : RawRequest) :
    (s.serveClearCutoff q).MotionSound := by
  have cleared : ((s.setLevel .limit .cleared).ok q []).MotionSound := (h.setLevel .limit .cleared).congr rfl
  unfold State.serveClearCutoff
  dsimp only
  split_ifs
  iterate 3 exact h.congr rfl
  · exact cleared.setMode _
  · exact cleared

theorem State.MotionSound.serveSet (h : s.MotionSound) (q : RawRequest) (id : Byte) (v : Word) :
    (s.serveSet q id v).MotionSound := by
  have refused (st : Status) : (s.refuse q st).MotionSound := h.congr rfl
  have set (w : WorkingSet) : ((s.setWorking w).ok q []).MotionSound := h.congr rfl
  unfold State.serveSet
  dsimp only
  split
  · exact refused _
  split
  · exact refused _
  split
  · split
    · exact refused _
    split
    · exact refused _
    split
    · exact refused _
    · exact (set _).settingTakesEffect _
  · exact refused _

theorem State.MotionSound.serveStoreLoad (h : s.MotionSound) (q : RawRequest) : (s.serveStoreLoad q).MotionSound := by
  unfold State.serveStoreLoad
  split
  · exact h.congr rfl
  · split
    · exact h.congr rfl
    · have started : ((s.ok q []).setLink { (s.ok q []).link with held := true, loadMs := 0 }).MotionSound :=
        h.congr rfl
      exact started.holdForLoad

theorem State.MotionSound.serveStoreDefaults (h : s.MotionSound) (q : RawRequest) :
    (s.serveStoreDefaults q).MotionSound := by
  have answered : (s.ok q []).MotionSound := h.congr rfl
  unfold State.serveStoreDefaults
  split
  · exact h.congr rfl
  · exact answered.replaceWorking _

/-- A FAILED corner is cleared outside SEARCH (R108). -/
theorem State.SteeringSound.clearCorner (h : s.SteeringSound) {i : CornerId}
    (failed : (s.stc.corners.get i).state = .failed) (still : s.stc.machine ≠ .search) :
    (s.setStc (s.stc.put i ((s.stc.corners.get i).clear s.stc.machine))).SteeringSound := by
  by_cases driven : s.stc.machine = .unpowered
  · have resting : ¬s.stc.machine.turns ∧ ¬s.stc.machine.steers := by
      simp [driven, SteerMachine.turns, SteerMachine.steers]
    refine .of_idle (h.unsearched still) still h.pending (fun steers => absurd steers resting.2) fun j => ?_
    rw [State.setStc_stc]
    by_cases own : j = i
    · rw [own, Stc.put_get_self, driven]
      exact ⟨by simp [Corner.clear, Corner.parkAt], fun held => by cases held⟩
    · rw [Stc.put_get_other _ _ own]
      exact ⟨h.idle_corner still j, h.loadHeld j⟩
  · exact h.put (Corner.clear_keeps failed driven)

theorem State.MotionSound.serveClearCorner (h : s.MotionSound) (q : RawRequest) (c : Byte) :
    (s.serveClearCorner q c).MotionSound := by
  have answered : (s.ok q []).MotionSound := h.congr rfl
  unfold State.serveClearCorner
  split
  · exact h.congr rfl
  · dsimp only
    split_ifs with working search
    · exact h.congr rfl
    · exact h.congr rfl
    · exact ⟨(answered.1.clearCorner (not_not.mp working) search).congr rfl rfl, h.2.congr rfl rfl rfl⟩

/-- A search begins with no corner running and every corner set still (R115). -/
theorem State.SteeringSound.startSearch (h : s.SteeringSound) (steady : s.stc.machine = .steady)
    (named : PerCorner Bool) : (s.startSearch named).SteeringSound := by
  have corner (i : CornerId) : (s.startSearch named).stc.corners.get i = (s.stc.corners.get i).centre :=
    Stc.mapCorners_get _ _ _
  have pending : s.stc.pending = none := h.pending_none (by simp [steady, SteerMachine.turns])
  constructor
  case search => exact iff_of_true rfl rfl
  case searching => exact fun i => iff_of_false (by rw [corner]; exact (Corner.centre_still (h.loadHeld i)).1) (by
    simp [State.startSearch])
  case idle => exact fun stopped => by cases stopped
  case pending => exact iff_of_false (by simp [State.startSearch, Stc.mapCorners, pending]) (by simp [State.startSearch])
  case corners => exact fun steers => absurd rfl (SteerMachine.ne_search_of_steers steers)
  case loadHeld => exact fun i => by rw [corner]; exact (Corner.centre_still (h.loadHeld i)).2

theorem State.MotionSound.serveTrimSearch (h : s.MotionSound) (q : RawRequest) (m : Byte) :
    (s.serveTrimSearch q m).MotionSound := by
  unfold State.serveTrimSearch
  dsimp only
  split_ifs with _ _ _ _ _ _ moves
  iterate 9 exact h.congr rfl
  exact ⟨(h.1.startSearch (not_not.mp moves) _).congr rfl rfl, h.2.congr rfl rfl rfl⟩

theorem State.MotionSound.serveTrimAbort (h : s.MotionSound) (q : RawRequest) : (s.serveTrimAbort q).MotionSound := by
  have answered : (s.ok q []).MotionSound := h.congr rfl
  unfold State.serveTrimAbort
  split
  · exact answered.abortSearch ‹_› _
  · exact h.congr rfl

theorem State.MotionSound.serveClutch (h : s.MotionSound) (q : RawRequest) (engage : Bool) :
    (s.owner q (.winchClutch engage)).MotionSound := by
  have answered : (s.ok q []).MotionSound := h.congr rfl
  cases engage
  · change (s.serveClutchFree q).MotionSound
    unfold State.serveClutchFree
    split_ifs
    iterate 6 exact h.congr rfl
    refine answered.clutchMoved ⟨fun moves => (by cases moves), ?_⟩
    exact iff_of_false (by simp) (by simp)
  · change (s.serveClutchEngage q).MotionSound
    unfold State.serveClutchEngage
    split_ifs
    · exact answered.clutchMoved (Wnc.engage_sound _ _)
    · exact h.congr rfl
    · exact h.congr rfl

theorem State.MotionSound.serveClearWinch (h : s.MotionSound) (q : RawRequest) : (s.serveClearWinch q).MotionSound := by
  have answered : (s.ok q []).MotionSound := h.congr rfl
  unfold State.serveClearWinch
  split
  · rename_i jammed
    exact answered.clutchMoved (answered.2.record.endByLoad (by rw [State.ok_wnc, jammed]; decide) _ true)
  · exact h.congr rfl

section Lamps
variable (s)

theorem State.clearFailed_pose (ch : ChannelId) : (s.clearFailed ch).pose = s.pose := rfl

theorem State.serveMapLamp_pose (q : RawRequest) (f c : Byte) : (s.serveMapLamp q f c).pose = s.pose := by
  unfold State.serveMapLamp
  (repeat' split) <;> first | rfl | exact s.moveFunction_pose _ _

theorem State.serveSetFunction_pose (q : RawRequest) (f : Byte) (r : FuncRec) :
    (s.serveSetFunction q f r).pose = s.pose := by
  unfold State.serveSetFunction; (repeat' split) <;> rfl

theorem State.serveGetFunction_pose (q : RawRequest) (f : Byte) : (s.serveGetFunction q f).pose = s.pose := by
  unfold State.serveGetFunction; split <;> rfl

theorem State.serveSetGenerator_pose (q : RawRequest) (g : Byte) (p : Half) (d : GenDuty) :
    (s.serveSetGenerator q g p d).pose = s.pose := by
  unfold State.serveSetGenerator; dsimp only; (repeat' split) <;> rfl

theorem State.serveClearChannel_pose (q : RawRequest) (c : Byte) : (s.serveClearChannel q c).pose = s.pose := by
  unfold State.serveClearChannel
  (repeat' split) <;> rfl

theorem State.serveGet_pose (q : RawRequest) (i : Byte) : (s.serveGet q i).pose = s.pose := by
  unfold State.serveGet; (repeat' split) <;> rfl

theorem State.serveStoreSave_pose (q : RawRequest) : (s.serveStoreSave q).pose = s.pose := by
  unfold State.serveStoreSave; split_ifs <;> rfl

end Lamps

/-- The owner of a request keeps the invariants. -/
theorem State.MotionSound.owner (h : s.MotionSound) (q : RawRequest) (r : Request) : (s.owner q r).MotionSound := by
  cases r
  case hello => exact h.serveHello q
  case reset => exact h.serveReset q
  case resume => exact h.serveResume q
  case park => exact h.servePark q
  case wake => exact h.serveWake q
  case clearCutoff => exact h.serveClearCutoff q
  case set id v => exact h.serveSet q id v
  case storeSave => exact h.congr (s.serveStoreSave_pose q)
  case storeLoad => exact h.serveStoreLoad q
  case storeDefaults => exact h.serveStoreDefaults q
  case winchClutch engage => exact h.serveClutch q engage
  case clearCorner c => exact h.serveClearCorner q c
  case trimSearch m => exact h.serveTrimSearch q m
  case trimAbort => exact h.serveTrimAbort q
  case clearWinch => exact h.serveClearWinch q
  case mapLamp f c => exact h.congr (s.serveMapLamp_pose q f c)
  case setFunction f r => exact h.congr (s.serveSetFunction_pose q f r)
  case getFunction f => exact h.congr (s.serveGetFunction_pose q f)
  case setGenerator g p d => exact h.congr (s.serveSetGenerator_pose q g p d)
  case clearChannel c => exact h.congr (s.serveClearChannel_pose q c)
  case get i => exact h.congr (s.serveGet_pose q i)
  all_goals exact h.congr rfl

theorem State.MotionSound.serve (h : s.MotionSound) (q : RawRequest) : (s.serve q).MotionSound := by
  unfold State.serve
  split
  · exact h.congr rfl
  · split
    · exact h.congr rfl
    · split
      · exact h.owner q _
      · exact h.congr rfl

end

end Sys2Proof.Machine
end

section
/-! PROOF. O58: every step keeps steering and winch sound (R89, R109, R116, R131, R145, R157). -/
namespace Sys2Proof.Machine

section
variable {s : State}

/-! ## Dispatch (R6) -/

/-- A command that acts keeps the invariants if its act does. -/
theorem State.MotionSound.act {t : State} {f : State → State} (h : s.MotionSound)
    (next : Sys2Proof.Machine.act s f = .next t) (acted : (f s).MotionSound) : t.MotionSound := by
  unfold Sys2Proof.Machine.act at next
  obtain rfl := Host.Outcome.next.inj next
  split
  · exact acted.congr (by simp)
  · exact h

theorem State.MotionSound.dispatchOne (h : s.MotionSound) : s.dispatchOne.MotionSound := by
  unfold State.dispatchOne
  split
  · exact h
  · split
    · exact h
    · rename_i q rest _
      have taken : (s.setLink { s.link with waiting := rest, slots := s.link.slots + 1 }).MotionSound := h.congr rfl
      exact (taken.serve q).congr (by simp)

theorem State.MotionSound.dispatchUpTo (n : Nat) (h : s.MotionSound) : (s.dispatchUpTo n).MotionSound := by
  induction n generalizing s with
  | zero => exact h
  | succ n ih => exact ih h.dispatchOne

theorem State.MotionSound.enqueue (h : s.MotionSound) (q : RawRequest) : (s.enqueue q).MotionSound := by
  unfold State.enqueue
  split
  · exact h
  · split
    · exact State.MotionSound.dispatchUpTo _ (h.congr rfl)
    · exact h.congr rfl

/-! ## Frames from the link (R1, R3, R13) -/

/-- An accepted frame reaches the mode and the assist (R25, R153). -/
theorem State.MotionSound.takeControl (h : s.MotionSound) (f : ControlFrame) : (s.takeControl f).MotionSound := by
  unfold State.takeControl
  split
  · exact h
  · split
    · exact h.congr rfl
    · rename_i v _
      split
      · have seen : (s.setIntent (s.intent.take v)).MotionSound := h.congr rfl
        unfold State.acceptFrame
        exact seen.report.cancelAssist.congr ((State.takeLightCode_pose _).trans (State.takeLightCode_pose _))
      · exact h

theorem State.MotionSound.judgeKind (h : s.MotionSound) (kind tag : Byte) (p : List Byte) :
    (s.judgeKind kind tag p).MotionSound := by
  have dropped : (s.drop .malformed).MotionSound := h.congr rfl
  unfold State.judgeKind
  split
  · exact h
  split
  · split
    · exact h.takeControl _
    · exact dropped
  split
  · split
    · split
      · exact h.enqueue _
      · exact dropped
    · exact h.enqueue _
  · exact dropped

theorem State.MotionSound.takeByte (h : s.MotionSound) (b : Byte) : (s.takeByte b).MotionSound := by
  have moved : ∀ rx, (s.setRx rx).MotionSound := fun _ => h.congr rfl
  unfold State.takeByte
  split
  · split
    · exact moved _
    · exact h
  · split
    · exact moved _
    · exact h.congr rfl
  · exact moved _
  · exact moved _
  · exact moved _
  · exact moved _
  · unfold State.judge
    split
    · exact (moved _).judgeKind _ _ _
    · exact h.congr rfl

/-! ## Resets (R22, R27) -/

theorem State.reset_motionSound : State.reset.MotionSound := ⟨State.reset_steeringSound, State.reset_winchSound⟩

theorem State.takeReset_motionSound (s : State) : s.takeReset.MotionSound := State.reset_motionSound.congr rfl

theorem State.powerOn_motionSound (s : State) : s.powerOn.MotionSound := State.reset_motionSound.congr rfl

/-! ## Steps -/

/-- The periodic events and those of the link, the mode, the level and the ceilings. -/
theorem exec_acts_motionSound {i : Instr} (request : requestOf i = none)
    (supply : i ≠ .powerOnReset ∧ i ≠ .brownOut) :
    ∃ f : State → State, (∀ s, exec i s = act s f) ∧ ∀ s : State, s.MotionSound → (f s).MotionSound := by
  cases i
  case powerOnReset => exact absurd rfl supply.1
  case brownOut => exact absurd rfl supply.2
  case byteReceived b =>
    refine ⟨_, fun _ => rfl, fun s h => ?_⟩
    split
    · exact h
    · exact h.takeByte b
  case gapTimerExpiry => exact ⟨_, fun _ => rfl, fun s h => h.congr (by split <;> rfl)⟩
  case frameSent =>
    refine ⟨_, fun _ => rfl, fun s h => ?_⟩
    split
    · exact h
    · split
      · exact s.takeReset_motionSound
      · exact h.congr rfl
  case controlFrame f => exact ⟨_, fun _ => rfl, fun s h => h.takeControl f⟩
  case undefinedRequest kind tag => exact ⟨_, fun _ => rfl, fun s h => h.judgeKind _ _ _⟩
  case loadingEnd =>
    refine ⟨_, fun _ => rfl, fun s h => ?_⟩
    split
    · exact State.MotionSound.setMode (h.congr s.loadImage_pose) _
    · exact h
  case packCheckEnd =>
    refine ⟨_, fun _ => rfl, fun s h => ?_⟩
    split
    · exact State.MotionSound.endPackCheck (h.congr rfl)
    · exact h
  case centeringEnd =>
    refine ⟨_, fun _ => rfl, fun s h => ?_⟩
    split
    · exact h.setMode _
    · exact h
  case silenceTimerExpiry => exact ⟨_, fun _ => rfl, fun s h => h.silenceExpires⟩
  case autoParkExpiry => exact ⟨_, fun _ => rfl, fun s h => h.autoParkExpires⟩
  case parkTimerExpiry => exact ⟨_, fun _ => rfl, fun s h => h.parkTimerExpires⟩
  case motionWake => exact ⟨_, fun _ => rfl, fun s h => h.judgeMotion⟩
  case packSample r =>
    refine ⟨_, fun _ => rfl, fun s h => ?_⟩
    split
    · exact h.packSample _ _
    · exact h
  case levelRise k =>
    refine ⟨_, fun _ => rfl, fun s h => ?_⟩
    split
    · split
      · rename_i p _
        cases rises : (s.setPkm p).rise with
        | none => exact h
        | some u => exact State.MotionSound.rise (s := s.setPkm p) (h.congr rfl) rises
      · exact h
    · exact h
  case levelStepDown =>
    refine ⟨_, fun _ => rfl, fun s h => ?_⟩
    split
    · exact h.setLevel _ _
    · exact h
  case storeLoadEnd =>
    refine ⟨_, fun _ => rfl, fun s h => ?_⟩
    split
    · exact State.MotionSound.dispatchUpTo _ (h.finishLoad.congr (by simp))
    · exact h
  case servoFrame r => exact ⟨_, fun _ => rfl, fun s h => h.servoFrame r⟩
  case driveUpdate r => exact ⟨_, fun _ => rfl, fun s h => h.driveUpdate r⟩
  case winchUpdate r => exact ⟨_, fun _ => rfl, fun s h => h.winchUpdate r⟩
  case lampCheck c => exact ⟨_, fun _ => rfl, fun s h => h.congr (s.lampCheck_pose c)⟩
  case allotmentWindow => exact ⟨_, fun _ => rfl, fun s h => h.congr (by split <;> rfl)⟩
  case surgeHoldCompleted => exact ⟨_, fun _ => rfl, fun s h => h.congr (by (repeat' split) <;> rfl)⟩
  case surgeLapsed => exact ⟨_, fun _ => rfl, fun s h => h.congr (by (repeat' split) <;> rfl)⟩
  case calmReturn => exact ⟨_, fun _ => rfl, fun s h => h.congr (by split <;> rfl)⟩
  case saveComplete => exact ⟨_, fun _ => rfl, fun s h => h.congr (by split <;> rfl)⟩
  case lightSelTake => exact ⟨_, fun _ => rfl, fun s h => h.congr s.takeLightCode_pose⟩
  case onEdge g => exact ⟨_, fun _ => rfl, fun s h => h.congr (by split <;> rfl)⟩
  case offEdge g => exact ⟨_, fun _ => rfl, fun s h => h.congr (by dsimp only; split <;> rfl)⟩
  case shortTrip c => exact ⟨_, fun _ => rfl, fun s h => h.congr (by dsimp only; split <;> simp)⟩
  case pendingLockTaken =>
    refine ⟨_, fun _ => rfl, fun s h => ?_⟩
    split
    · exact h
    · split
      · exact h.lockTaken
      · exact h
  case axleStall a =>
    refine ⟨_, fun _ => rfl, fun s h => ?_⟩
    dsimp only
    split
    · rename_i stalls
      exact h.axleStall stalls.1
    · exact h
  case axleRestEnd a =>
    refine ⟨_, fun _ => rfl, fun s h => ?_⟩
    dsimp only
    split
    · exact h.axleRestEnd a
    · exact h
  case winchJam =>
    refine ⟨_, fun _ => rfl, fun s h => ?_⟩
    dsimp only
    split
    · rename_i jams
      exact h.jam jams.1 _
    · exact h
  case clutchTimerExpiry =>
    refine ⟨_, fun _ => rfl, fun s h => ?_⟩
    split
    · exact h.clutchMoved ⟨fun moves => (by cases moves), iff_of_false (by simp) (by simp)⟩
    · exact h.clutchMoved ⟨fun moves => (by cases moves), iff_of_true rfl (by decide : WinchState.stopped.onDrum)⟩
    · exact h
  case cornerStall c =>
    refine ⟨_, fun _ => rfl, fun s h => ?_⟩
    dsimp only
    split
    · rename_i stalls
      exact (h.putCorner (Corner.stall_kept stalls.1 (h.1.loadHeld c) _)).afterCorner _
    · exact h
  case cornerOpen c =>
    refine ⟨_, fun _ => rfl, fun s h => ?_⟩
    dsimp only
    split
    · rename_i opens
      exact (h.putCorner (Corner.fail_keeps (by rw [opens.1]; simp) _)).afterCorner _
    · exact h
  case restEnd c =>
    refine ⟨_, fun _ => rfl, fun s h => ?_⟩
    dsimp only
    split
    · rename_i ends
      exact h.putCorner (Corner.activate_kept (by rw [ends.1]; simp) _)
    · exact h
  case clearingHoldEnd c =>
    refine ⟨_, fun _ => rfl, fun s h => ?_⟩
    dsimp only
    split
    · rename_i ends
      exact h.putCorner (Corner.endClearing_keeps ends.1 _ _)
    · exact h
  case alignTimeout =>
    refine ⟨_, fun _ => rfl, fun s h => ?_⟩
    split
    · rename_i expires
      exact h.alignExpires expires.1
    · exact h
  case settleEnd =>
    refine ⟨_, fun _ => rfl, fun s h => ?_⟩
    split
    · rename_i ends
      exact h.settleEnds ends.1
    · exact h
  case searchCornerBegin =>
    refine ⟨_, fun _ => rfl, fun s h => ?_⟩
    split
    · exact h.beginCorner ‹_›
    · exact h
  case searchWaitEnd =>
    refine ⟨_, fun _ => rfl, fun s h => ?_⟩
    split
    · rename_i runs
      split
      · rename_i waits
        exact h.judgeWait waits.1 runs
      · exact h
    · exact h
  case searchStepJudged =>
    refine ⟨_, fun _ => rfl, fun s h => ?_⟩
    split
    · rename_i runs
      split
      · rename_i judged
        exact h.judgeStep judged.1 runs
      · exact h
    · exact h
  all_goals cases request

/-- Every command keeps the invariants. -/
theorem exec_motionSound {i : Instr} {t : State} (next : exec i s = .next t) (h : s.MotionSound) : t.MotionSound := by
  by_cases up : i = .powerOnReset
  · subst up
    obtain rfl := Host.Outcome.next.inj next
    exact s.powerOn_motionSound
  by_cases down : i = .brownOut
  · subst down
    obtain rfl := Host.Outcome.next.inj next
    exact s.powerOn_motionSound.congr rfl
  cases request : requestOf i with
  | some q =>
    have pinned : (s.pinned i).MotionSound := by
      unfold State.pinned
      split
      · exact h.congr rfl
      · exact h
    exact pinned.act ((exec_requestOf request s).symm.trans next) (pinned.enqueue q)
  | none =>
    obtain ⟨f, acts, keeps⟩ := exec_acts_motionSound request ⟨up, down⟩
    exact h.act ((acts s).symm.trans next) (keeps s h)

/-- A millisecond moves timers alone (log 2). -/
theorem State.MotionSound.tick (h : s.MotionSound) (idle : s.pending = []) : s.tick.MotionSound := by
  by_cases powered : s.powered = true
  · have moved : step s = .next s.tick := by unfold step; rw [idle]
    obtain moved := moved.symm.trans (idleStepMovesEveryTimerByOneMillisecond s idle powered)
    rw [Host.Outcome.next.inj moved]
    exact ⟨h.1.congr rfl rfl, h.2.of_record rfl rfl (h.2.record.congr rfl rfl)⟩
  · unfold State.tick
    rw [if_neg powered]
    exact h

end

/-- Settles O58, by the commands: each keeps a corner's record, turns the machine or the search by its rule, sets an axle
by R131's table, moves the winch in RUN alone, or leaves the pose. -/
theorem everyStepKeepsSteeringAndWinch : Obligations.EveryStepKeepsSteeringAndWinch := by
  intro s t steering winch next
  have h : s.MotionSound := ⟨steering, winch⟩
  unfold step at next
  split at next
  · exact exec_motionSound next (h.congr rfl)
  · rename_i idle
    obtain rfl := Host.Outcome.next.inj next
    exact h.tick idle

end Sys2Proof.Machine
end

section
/-! PROOF. O36: CLEAR_CORNER (R108). -/
namespace Sys2Proof.Machine

/-- A cleared corner's record, by the machine's state. -/
theorem Corner.clear_spec (k : Corner) (m : SteerMachine) :
    (k.clear m).state = (if m = .unpowered then .unpowered else .held) ∧ (k.clear m).fault = .none ∧
      (k.clear m).history = [] ∧ ((k.clear m).clearing = true ↔ m ≠ .unpowered ∧ m ≠ .centering) ∧
      (k.clear m).stateTimer = (if m ≠ .unpowered ∧ m ≠ .centering then 200 else 0) ∧ (k.clear m).commanded = 0 := by
  cases m <;> simp [Corner.clear, Corner.parkAt]

theorem cornerOfNumber_cornerCode (i : CornerId) : cornerOfNumber (BitVec.ofNat 8 (cornerCode i)).toNat = some i := by
  cases i <;> rfl

theorem cornerOfNumber_none {n : Nat} (above : 4 ≤ n) : cornerOfNumber n = none := by
  unfold cornerOfNumber
  split
  iterate 4 omega
  rfl

/-- The request is its owner's. -/
theorem exec_clearCorner {s : State} (serving : s.Serving) (tag c : Byte) :
    exec (.clearCorner tag c) s = .next (s.admitted.serveClearCorner ⟨0x19, tag, [c]⟩ c).holdAutoPark :=
  exec_serving (q := ⟨0x19, tag, [c]⟩) (r := .clearCorner c) serving rfl rfl rfl rfl

section Owner
variable {s : State}

/-- A number above 3 is UNKNOWN. -/
theorem State.serveClearCorner_unknown (q : RawRequest) {c : Byte} (above : 4 ≤ c.toNat) :
    s.serveClearCorner q c = s.refuse q .unknown := by
  unfold State.serveClearCorner
  rw [cornerOfNumber_none above]

section Named
variable (q : RawRequest) (i : CornerId)

theorem State.serveClearCorner_working (works : (s.stc.corners.get i).state ≠ .failed) :
    s.serveClearCorner q (BitVec.ofNat 8 (cornerCode i)) = s.refuse q .badState := by
  unfold State.serveClearCorner
  rw [cornerOfNumber_cornerCode]
  exact if_pos works

theorem State.serveClearCorner_search (failed : (s.stc.corners.get i).state = .failed)
    (search : s.stc.machine = .search) :
    s.serveClearCorner q (BitVec.ofNat 8 (cornerCode i)) = s.refuse q .busy := by
  unfold State.serveClearCorner
  rw [cornerOfNumber_cornerCode]
  exact (if_neg (not_not.mpr failed)).trans (if_pos search)

/-- The reply to a corner that is cleared, and its new record. -/
def State.cornerCleared (s : State) (q : RawRequest) (i : CornerId) : State :=
  (s.ok q []).setStc (s.stc.put i ((s.stc.corners.get i).clear s.stc.machine))

theorem State.serveClearCorner_clears (failed : (s.stc.corners.get i).state = .failed)
    (still : s.stc.machine ≠ .search) :
    s.serveClearCorner q (BitVec.ofNat 8 (cornerCode i)) = (s.cornerCleared q i).steerNotice .cleared := by
  unfold State.serveClearCorner
  rw [cornerOfNumber_cornerCode]
  exact (if_neg (not_not.mpr failed)).trans (if_neg still)

/-- The notice waits behind the reply (R9, R11). -/
theorem State.cornerCleared_sent :
    s.sent ((s.cornerCleared q i).steerNotice .cleared) (replyFrame q.kind q.tag .ok []) := by
  have busy : ∃ f, (s.cornerCleared q i).link.tx = some f := Link.answer_busy _ _
  unfold State.sent State.steerNotice
  rw [(State.raise_outgoing_busy busy _).1]
  exact State.ok_sent s q []

theorem State.cornerCleared_changes :
    s.changesOnly ((s.cornerCleared q i).steerNotice .cleared) [.output, .stc] :=
  State.changesOnly_trans (State.changesOnly_mono (State.answer_changes s q _) (by simp))
    (State.setStc_notice_changes _ _ _)

end Named

end Owner

/-- Settles O36, by the owner's tests in order. -/
theorem clearCornerClearsAFailedOne : Obligations.ClearCornerClearsAFailedOne := by
  intro s tag serving
  refine ⟨fun c above => ⟨_, exec_clearCorner serving tag c, ?_⟩,
    fun i works => ⟨_, exec_clearCorner serving tag _, ?_⟩,
    fun i failed search => ⟨_, exec_clearCorner serving tag _, ?_⟩,
    fun i failed still => ⟨_, exec_clearCorner serving tag _, ?_⟩⟩
  · rw [State.serveClearCorner_unknown _ above]
    exact s.admitted_refuse _ _
  · rw [State.serveClearCorner_working (s := s.admitted) _ i works]
    exact s.admitted_refuse _ _
  · rw [State.serveClearCorner_search (s := s.admitted) _ i failed search]
    exact s.admitted_refuse _ _
  · let q : RawRequest := ⟨0x19, tag, [BitVec.ofNat 8 (cornerCode i)]⟩
    let k := s.stc.corners.get i
    rw [State.serveClearCorner_clears (s := s.admitted) _ i failed still]
    have stc : (((s.admitted.cornerCleared q i).steerNotice .cleared).holdAutoPark).stc =
        s.stc.put i (k.clear s.stc.machine) := State.holdAutoPark_stc _
    have corner : (s.stc.put i (k.clear s.stc.machine)).corners.get i = k.clear s.stc.machine :=
      Stc.put_get_self _ _ _
    obtain ⟨state, fault, history, clearing, timer, commanded⟩ := k.clear_spec s.stc.machine
    have changes : s.changesOnly ((s.admitted.cornerCleared q i).steerNotice .cleared) [.queue, .output, .stc] :=
      State.changesOnly_trans (State.changesOnly_mono s.admitted_changes (by simp))
        (State.changesOnly_mono (State.cornerCleared_changes q i) (by simp))
    have sent : s.sent ((s.admitted.cornerCleared q i).steerNotice .cleared) (replyFrame 0x19 tag .ok []) :=
      s.admitted.cornerCleared_sent q i
    rw [stc, corner]
    refine ⟨?_, state, fault, history, clearing, timer, commanded, fun j other => Stc.put_get_other _ _ other, rfl, rfl,
      rfl, fun masked => ?_, State.changesOnly_held changes rfl⟩
    · unfold State.sent
      rw [State.holdAutoPark_link]
      exact sent
    · exact State.noticed_of_link (State.holdAutoPark_link _) (State.raise_noticed _ masked)

end Sys2Proof.Machine
end

section
/-! PROOF. O35 fails: SETTLE_END is stated of every state, and in one whose steering is not sound a FAILED corner becomes HELD. -/
namespace Sys2Proof.Machine

/-- A settle toward NONE about to end, with a FAILED corner that a load holds: no sound steering holds it (R109). -/
def State.heldFailure : State :=
  State.reset.setStc (Stc.put
    { State.reset.stc with machine := .settling, pending := some .none, settleMs := 500 } .fl
    { State.reset.stc.corners.fl with state := .failed, loadHeld := true })

/-- The settle sets that corner HELD with the others (R105): no corner is FAILED. -/
theorem State.heldFailure_settles :
    State.heldFailure.settleEnds.stc.failedSet = ⟨false, false, false, false⟩ ∧
      State.heldFailure.stc.failedSet = ⟨true, false, false, false⟩ := by decide

/-- The notice on its way tells of no FAILED corner, and none is pending. -/
theorem State.heldFailure_link :
    State.heldFailure.settleEnds.link.notices.steer = none ∧
      State.heldFailure.settleEnds.link.outgoing =
        [(Notice.steer ⟨.switched, .none, ⟨false, false, false, false⟩⟩).frame] := by decide

/-- Refutes O35: at the end of a settle toward NONE a FAILED corner that a load holds becomes HELD, so that the SWITCHED
notice carries another failed set than the state before. No sound state shows it. -/
theorem not_transitionsTimeOutAndSettle : ¬Obligations.TransitionsTimeOutAndSettle := by
  intro h
  obtain ⟨-, -, -, ends⟩ := h State.heldFailure rfl
  obtain ⟨t, next, -, -, -, -, told, -⟩ := ends .none rfl rfl (by decide)
  have acts : exec .settleEnd State.heldFailure = .next State.heldFailure.settleEnds.holdAutoPark := rfl
  obtain rfl := Host.Outcome.next.inj (acts.symm.trans next)
  obtain ⟨still, sends⟩ := State.heldFailure_link
  have noticed := told (by decide)
  unfold State.noticed at noticed
  rw [State.holdAutoPark_link, State.heldFailure_settles.2, sends] at noticed
  obtain pending | sent := noticed
  · have unpended : (State.heldFailure.settleEnds.link.notices.get .steer) = none := by
      unfold NoticeSet.get
      rw [still]
      rfl
    rw [show (Notice.steer _).kind = NoticeKind.steer from rfl, unpended] at pending
    cases pending
  · revert sent
    decide

end Sys2Proof.Machine
end

section
/-! PROOF. What every operation of a servo frame keeps of the gauges (R90, R94, R95, R110): the frame count, the slew step,
STARVED and the readings, and that HELD and FAILED corners keep the target of R93. -/
namespace Sys2Proof.Machine

/-! ## One corner -/

/-- A HELD corner's target is its commanded angle, a FAILED one's 0 (R93). -/
def Corner.Aimed (k : Corner) : Prop :=
  (k.state = .held → k.target = k.commanded) ∧ (k.state = .failed → k.target = 0)

/-- From one corner record to the next the readings stand, and R93's rule is kept. -/
structure Corner.Handled (k b : Corner) : Prop where
  current : b.current = k.current
  sense : b.sense = k.sense
  prevSense : b.prevSense = k.prevSense
  aimed : k.Aimed → b.Aimed

section Corners
variable {k b c : Corner}

theorem Corner.Handled.refl (k : Corner) : k.Handled k := ⟨rfl, rfl, rfl, id⟩

theorem Corner.Handled.trans (first : k.Handled b) (after : b.Handled c) : k.Handled c where
  current := after.current.trans first.current
  sense := after.sense.trans first.sense
  prevSense := after.prevSense.trans first.prevSense
  aimed := after.aimed ∘ first.aimed

/-- A corner that is neither HELD nor FAILED follows R93. -/
theorem Corner.aimed_of_moves (held : k.state ≠ .held) (failed : k.state ≠ .failed) : k.Aimed :=
  ⟨fun e => absurd e held, fun e => absurd e failed⟩

theorem Corner.parkAt_handled (k : Corner) (x : CornerState) : k.Handled (k.parkAt x) :=
  ⟨rfl, rfl, rfl, fun _ => ⟨fun _ => rfl, fun _ => rfl⟩⟩

theorem Corner.fail_handled (k : Corner) (why : FaultKind) : k.Handled (k.fail why) :=
  ⟨rfl, rfl, rfl, fun _ => ⟨fun _ => rfl, fun _ => rfl⟩⟩

theorem Corner.activate_handled (k : Corner) (loading : Bool) : k.Handled (k.activate loading) := by
  cases loading
  · exact ⟨rfl, rfl, rfl, fun _ => Corner.aimed_of_moves (by simp [Corner.activate]) (by simp [Corner.activate])⟩
  · exact ⟨rfl, rfl, rfl, fun _ => ⟨fun _ => rfl, fun e => by cases e⟩⟩

theorem Corner.steady_handled (k : Corner) (m : SteerMode) (loading : Bool) : k.Handled (k.steady m loading) := by
  unfold Corner.steady
  split
  · exact .refl k
  · split
    · exact k.parkAt_handled _
    · exact (k.parkAt_handled _).trans (Corner.activate_handled _ _)

theorem Corner.centre_handled (k : Corner) : k.Handled k.centre := by
  unfold Corner.centre
  split
  · exact .refl k
  · exact k.parkAt_handled _

theorem Corner.unpower_handled (k : Corner) : k.Handled k.unpower := by
  unfold Corner.unpower
  split
  · exact .refl k
  · exact ⟨rfl, rfl, rfl, fun _ => Corner.aimed_of_moves (by simp) (by simp)⟩

/-- Step 5 gives every corner the target of R93. -/
theorem Corner.aim_handled (k : Corner) (a : Int) : k.Handled (k.aim a) ∧ (k.aim a).Aimed := by
  have aimed : (k.aim a).Aimed := by
    unfold Corner.aim
    split
    · rename_i follows
      refine Corner.aimed_of_moves ?_ ?_ <;> intro e <;> simp [Corner.follows, show k.state = _ from e] at follows
    · split
      · rename_i held
        exact ⟨fun _ => rfl, fun e => absurd (held.symm.trans e) (by decide)⟩
      · rename_i failed
        exact ⟨fun e => absurd (failed.symm.trans e) (by decide), fun _ => rfl⟩
      · rename_i held failed
        exact Corner.aimed_of_moves held failed
  refine ⟨?_, aimed⟩
  constructor
  case aimed => exact fun _ => aimed
  all_goals
    unfold Corner.aim
    split
    · rfl
    · split <;> rfl

theorem Corner.endClearing_handled (k : Corner) (m : SteerMode) (loading : Bool) :
    k.Handled (k.endClearing m loading) := by
  unfold Corner.endClearing
  split
  · exact ⟨rfl, rfl, rfl, id⟩
  · exact k.activate_handled loading

theorem Corner.countDown_handled (k : Corner) (m : SteerMode) (loading : Bool) :
    k.Handled (k.countDown m loading) := by
  unfold Corner.countDown
  split
  · split
    · exact k.activate_handled loading
    · exact ⟨rfl, rfl, rfl, id⟩
  · split
    · split
      · exact k.endClearing_handled m loading
      · exact ⟨rfl, rfl, rfl, id⟩
    · exact .refl k

theorem Corner.stall_handled (k : Corner) (now : Nat) : k.Handled (k.stall now) := by
  unfold Corner.stall
  dsimp only
  split
  · exact ⟨rfl, rfl, rfl, fun _ => Corner.aimed_of_moves (by simp) (by simp)⟩
  · exact ⟨rfl, rfl, rfl, fun _ => ⟨fun _ => rfl, fun _ => rfl⟩⟩

theorem Corner.runStall_handled (k : Corner) (w : WorkingSet) (now : Nat) : k.Handled (k.runStall w now) := by
  unfold Corner.runStall
  split
  · split
    · exact k.stall_handled now
    · exact ⟨rfl, rfl, rfl, id⟩
  · exact ⟨rfl, rfl, rfl, id⟩

theorem Corner.runOpen_handled (k : Corner) : k.Handled k.runOpen := by
  unfold Corner.runOpen
  split
  · split
    · exact k.fail_handled _
    · exact ⟨rfl, rfl, rfl, id⟩
  · exact ⟨rfl, rfl, rfl, id⟩

theorem Corner.slew_handled (active : k.state = .active) (w : WorkingSet) (step : Nat) : k.Handled (k.slew w step) := by
  unfold Corner.slew
  split
  · exact .refl k
  · exact ⟨rfl, rfl, rfl, fun _ => Corner.aimed_of_moves (by simp [active]) (by simp [active])⟩

theorem Corner.work_handled (active : k.state = .active) (w : WorkingSet) (step now : Nat) :
    k.Handled (k.work w step now) := by
  have moved := (Corner.slew_handled active w step).trans (Corner.runStall_handled _ w now)
  unfold Corner.work
  dsimp only
  split
  · exact moved.trans (Corner.runOpen_handled _)
  · exact moved

/-- Step 6. -/
theorem Corner.frame_handled (k : Corner) (w : WorkingSet) (m : SteerMode) (loading : Bool) (step now : Nat) :
    k.Handled (k.frame w m loading step now) := by
  have counted := k.countDown_handled m loading
  unfold Corner.frame
  dsimp only
  split
  · exact counted.trans (Corner.work_handled ‹_› w step now)
  · exact counted

theorem Corner.adopt_handled (k : Corner) (old new : SteerMode) (loading : Bool) :
    k.Handled (k.adopt old new loading) := by
  unfold Corner.adopt
  split
  · split
    · exact k.parkAt_handled _
    · exact .refl k
  · split
    · exact k.activate_handled loading
    · exact .refl k

end Corners

/-! ## Steering -/

/-- From one record of steering to the next the frame count, STARVED and the slew step stand, and corners are handled. -/
structure Stc.Handled (c d : Stc) : Prop where
  frameNo : d.frameNo = c.frameNo
  starved : d.starved = c.starved
  slewStep : d.slewStep = c.slewStep
  corners : ∀ i, (c.corners.get i).Handled (d.corners.get i)

section Records
variable {c d e : Stc}

theorem Stc.Handled.refl (c : Stc) : c.Handled c := ⟨rfl, rfl, rfl, fun _ => .refl _⟩

theorem Stc.Handled.trans (first : c.Handled d) (after : d.Handled e) : c.Handled e where
  frameNo := after.frameNo.trans first.frameNo
  starved := after.starved.trans first.starved
  slewStep := after.slewStep.trans first.slewStep
  corners i := (first.corners i).trans (after.corners i)

/-- The same corners, with another machine, mode, target or timer. -/
theorem Stc.Handled.same (frameNo : d.frameNo = c.frameNo) (starved : d.starved = c.starved)
    (slewStep : d.slewStep = c.slewStep) (corners : d.corners = c.corners) : c.Handled d :=
  ⟨frameNo, starved, slewStep, fun _ => by rw [corners]; exact .refl _⟩

theorem Stc.mapCorners_handled {f : Corner → Corner} (c : Stc) (each : ∀ k : Corner, k.Handled (f k)) :
    c.Handled (c.mapCorners f) := ⟨rfl, rfl, rfl, fun i => by rw [Stc.mapCorners_get]; exact each _⟩

theorem Stc.put_handled {i : CornerId} {k : Corner} (own : (c.corners.get i).Handled k) : c.Handled (c.put i k) := by
  refine ⟨rfl, rfl, rfl, fun j => ?_⟩
  by_cases same : j = i
  · subst same
    rw [Stc.put_get_self]
    exact own
  · rw [Stc.put_get_other _ _ same]
    exact .refl _

theorem Stc.aimStraight_handled (c : Stc) : c.Handled c.aimStraight :=
  c.mapCorners_handled fun k => (k.aim_handled 0).1

theorem Stc.aimGeometry_handled (c : Stc) (w : WorkingSet) (a b : Int) : c.Handled (c.aimGeometry w a b) := by
  refine ⟨rfl, rfl, rfl, fun i => ?_⟩
  obtain ⟨goal, aimed⟩ := c.aimGeometry_get w a b i
  rw [aimed]
  exact (Corner.aim_handled _ goal).1

theorem Stc.returnToSteady_handled (c : Stc) (loading : Bool) : c.Handled (c.returnToSteady loading) :=
  (c.mapCorners_handled fun k => k.steady_handled c.mode loading).trans (.same rfl rfl rfl rfl)

theorem Stc.fallBack_handled (c : Stc) : c.Handled c.fallBack := by
  unfold Stc.fallBack
  split
  · split
    · exact .refl c
    · exact .same rfl rfl rfl rfl
  · exact .refl c

theorem Stc.settleFailure_handled (c : Stc) : c.Handled c.settleFailure := by
  unfold Stc.settleFailure
  split
  · split
    · exact .refl c
    · exact Stc.Handled.trans (d := c.beginAligning (fallbackMode c.failedSet)) (.same rfl rfl rfl rfl)
        (Stc.aimStraight_handled _)
  · exact c.fallBack_handled
  · exact c.fallBack_handled
  · exact .refl c

theorem Stc.coded_handled (c : Stc) (o : SteerMachine × Option SteerMode × Bool) : c.Handled (c.coded o) :=
  .same rfl rfl rfl rfl

end Records

/-! ## Operations of a frame -/

section Operations
variable (s : State)

theorem State.adoptTarget_handled : s.stc.Handled s.adoptTarget.stc := by
  unfold State.adoptTarget
  split
  · exact .same rfl rfl rfl rfl
  · exact .refl _

theorem State.endSearch_handled {u : State} (same : u.stc = s.stc) (c : EndCause) :
    s.stc.Handled (u.endSearch c).stc := by
  rw [← same]
  exact u.stc.returnToSteady_handled u.link.held

theorem State.abortOnMode_handled : s.stc.Handled s.abortOnMode.stc := by
  unfold State.abortOnMode
  split
  · exact State.endSearch_handled s (by rfl) _
  · exact .refl _

/-- Step 1. -/
theorem State.followMode_handled : s.stc.Handled s.followMode.stc := by
  have aborted := s.abortOnMode_handled
  have still (f : Corner → Corner) (m : SteerMachine) (each : ∀ k : Corner, k.Handled (f k)) :
      s.stc.Handled { s.abortOnMode.adoptTarget.stc.mapCorners f with machine := m } :=
    (aborted.trans (State.adoptTarget_handled _)).trans
      ((Stc.mapCorners_handled _ each).trans (.same rfl rfl rfl rfl))
  unfold State.followMode
  dsimp only
  split
  iterate 3
    split
    · exact aborted.trans (Stc.returnToSteady_handled _ _)
    · exact aborted
  · exact still _ _ Corner.centre_handled
  all_goals exact still _ _ Corner.unpower_handled

/-- Step 4. -/
theorem State.takeSteerCode_handled : s.stc.Handled s.takeSteerCode.stc := by
  by_cases steers : s.stc.machine.steers
  · rw [State.takeSteerCode_steers steers]
    unfold State.withCode
    split <;> exact Stc.coded_handled _ _
  · rw [State.takeSteerCode_idle steers]
    exact .refl _

/-- Step 5. -/
theorem State.aimCorners_handled :
    s.stc.Handled s.aimCorners.stc ∧ ∀ i, (s.aimCorners.stc.corners.get i).Aimed := by
  have straight : ∀ i, (s.stc.aimStraight.corners.get i).Aimed := fun i => by
    rw [Stc.aimStraight, Stc.mapCorners_get]
    exact (Corner.aim_handled _ 0).2
  unfold State.aimCorners
  split
  · refine ⟨s.stc.aimGeometry_handled _ _ _, fun i => ?_⟩
    obtain ⟨goal, aimed⟩ := s.stc.aimGeometry_get s.ws s.steerAxes.1 s.steerAxes.2 i
    rw [State.setStc_stc, aimed]
    exact (Corner.aim_handled _ goal).2
  · exact ⟨s.stc.aimStraight_handled, straight⟩
  · exact ⟨s.stc.aimStraight_handled, straight⟩
  · refine ⟨s.stc.mapCorners_handled fun k => ?_, fun i => ?_⟩
    · split
      · exact (k.aim_handled 0).1
      · exact .refl k
    · rw [State.setStc_stc, Stc.mapCorners_get]
      split
      · exact (Corner.aim_handled _ 0).2
      · rename_i moves
        exact Corner.aimed_of_moves (fun e => moves (.inl e)) (fun e => moves (.inr e))

theorem State.putCorner_handled {i : CornerId} {k : Corner} (own : (s.stc.corners.get i).Handled k) :
    s.stc.Handled (s.putCorner i k).stc := by
  unfold State.putCorner
  dsimp only
  split <;> exact Stc.put_handled own

theorem State.setProbe_handled (i : CornerId) (o : Int) : s.stc.Handled (s.setProbe i o).stc :=
  Stc.put_handled ⟨rfl, rfl, rfl, fun _ => Corner.aimed_of_moves (by simp) (by simp)⟩

theorem State.beginCorner_handled : s.stc.Handled s.beginCorner.stc := by
  unfold State.beginCorner
  split
  · split
    · exact State.setProbe_handled (s.setTse _) _ _
    · exact .refl _
  · exact .refl _

theorem State.endCorner_handled {u : State} (same : u.stc = s.stc) (i : CornerId) (f : ResultEntry → ResultEntry) :
    s.stc.Handled (u.endCorner i f).stc := by
  rw [← same]
  have parked := Stc.put_handled (c := u.stc) (i := i) (Corner.parkAt_handled _ .held)
  unfold State.endCorner
  dsimp only
  split
  · exact parked.trans (Stc.returnToSteady_handled _ _)
  · exact parked

theorem State.probeStep_handled {u : State} (same : u.stc = s.stc) (i : CornerId) :
    s.stc.Handled (u.probeStep i).stc := by
  rw [← same]
  exact u.setProbe_handled i _

theorem State.judgeWait_handled (i : CornerId) : s.stc.Handled (s.judgeWait i).stc := by
  unfold State.judgeWait
  split
  · exact State.endCorner_handled s (by rfl) _ _
  · exact State.probeStep_handled s (by rfl) _

theorem State.edgeFound_handled {u : State} (same : u.stc = s.stc) (i : CornerId) :
    s.stc.Handled (u.edgeFound i).stc := by
  unfold State.edgeFound
  dsimp only
  split <;> exact State.endCorner_handled s (by exact same) _ _

theorem State.judgeStep_handled (i : CornerId) : s.stc.Handled (s.judgeStep i).stc := by
  unfold State.judgeStep
  dsimp only
  split
  · exact State.edgeFound_handled s (by rfl) _
  · split
    · exact State.endCorner_handled s (by rfl) _ _
    · exact .refl _

theorem State.searchFrame_handled : s.stc.Handled s.searchFrame.stc := by
  unfold State.searchFrame
  split
  · exact s.beginCorner_handled
  · split
    · exact .refl _
    · split
      · split
        · exact s.judgeWait_handled _
        · exact .refl _
      · split
        · exact s.setProbe_handled _ _
        · split
          · exact s.judgeStep_handled _
          · exact .refl _

/-- Step 6. -/
theorem State.workCorners_handled : s.stc.Handled s.workCorners.stc := by
  have all (l : List CornerId) : ∀ u : State, u.stc.Handled (l.foldl State.workCorner u).stc := by
    induction l with
    | nil => exact fun u => .refl _
    | cons i l ih => exact fun u => (u.putCorner_handled (Corner.frame_handled _ _ _ _ _ _)).trans (ih _)
  unfold State.workCorners
  split
  · exact s.searchFrame_handled
  · exact all _ s

/-- Step 7. -/
theorem State.settleFailures_handled (b : PerCorner Bool) : s.stc.Handled (s.settleFailures b).stc := by
  unfold State.settleFailures
  split
  · exact .refl _
  · exact s.stc.settleFailure_handled

theorem State.alignExpires_handled : s.stc.Handled s.alignExpires.stc := by
  have failed := s.stc.mapCorners_handled (f := fun k =>
      if k.state ≠ .failed ∧ k.commanded ≠ 0 then k.fail .align else k) fun k => by
    split
    · exact k.fail_handled _
    · exact .refl k
  have settles (c : Stc) : c.Handled c.fallBack.beginSettling := c.fallBack_handled.trans (.same rfl rfl rfl rfl)
  unfold State.alignExpires
  dsimp only
  split <;> exact failed.trans (settles _)

theorem State.settleEnds_handled : s.stc.Handled s.settleEnds.stc :=
  (s.stc.mapCorners_handled fun k => k.adopt_handled _ _ _).trans (.same rfl rfl rfl rfl)

/-- Step 8. -/
theorem State.advanceMachine_handled : s.stc.Handled s.advanceMachine.stc := by
  have timed (c : Stc) (frameNo : c.frameNo = s.stc.frameNo) (starved : c.starved = s.stc.starved)
      (slewStep : c.slewStep = s.stc.slewStep) (corners : c.corners = s.stc.corners) :
      s.stc.Handled (s.setStc c).stc := .same frameNo starved slewStep corners
  unfold State.advanceMachine
  dsimp only
  split
  · split
    · exact .same rfl rfl rfl rfl
    · split
      · exact (timed { s.stc with alignMs := s.stc.nextAlignMs } rfl rfl rfl rfl).trans (State.alignExpires_handled _)
      · exact .same rfl rfl rfl rfl
  · split
    · exact (timed { s.stc with settleMs := min 500 (s.stc.settleMs + 10) } rfl rfl rfl rfl).trans
        (State.settleEnds_handled _)
    · exact .same rfl rfl rfl rfl
  · exact .refl _

theorem State.frameWorked_handled : s.stc.Handled s.frameWorked.stc :=
  (s.workCorners_handled.trans (State.settleFailures_handled _ _)).trans (State.advanceMachine_handled _)

/-- Steps 6 to 10 write the pulses by R89, and keep the gauges. -/
theorem State.endFrame_corner (i : CornerId) :
    s.endFrame.stc.corners.get i = { s.frameWorked.stc.corners.get i with
      pulse := (s.frameWorked.stc.corners.get i).pulseFor (s.frameWorked.ws.trim i) } := by
  rw [State.endFrame_eq, State.sendPulses, State.setStc_stc, PerCorner.get_ofFn, State.writeWish_stc]
  rfl

theorem State.endFrame_stc : s.endFrame.stc = { s.frameWorked.stc with corners := s.endFrame.stc.corners } := rfl

theorem State.endFrame_handled : s.stc.Handled s.endFrame.stc := by
  refine s.frameWorked_handled.trans ⟨rfl, rfl, rfl, fun i => ?_⟩
  rw [s.endFrame_corner]
  exact ⟨rfl, rfl, rfl, id⟩

end Operations

/-! ## Steps 1 to 5 -/

section Begin
variable (s : State) (r : ServoReading)

/-- The frame is counted and old stalls are removed (R98). -/
def State.frameCounted : State :=
  s.setStc { s.stc.mapCorners (fun k => k.age (s.stc.frameNo + 1)) with frameNo := s.stc.frameNo + 1 }

/-- Steps 1 to 3 of a frame: the mode is followed, the sensors are read, the grant sets the slew step. -/
def State.frameRead : State :=
  (s.frameCounted.followMode.setStc (s.frameCounted.followMode.stc.sample r)).setSlew

theorem State.beginFrame_eq : s.beginFrame r = (s.frameRead r).takeSteerCode.aimCorners := rfl

theorem State.frameCounted_corner (i : CornerId) :
    s.frameCounted.stc.corners.get i = (s.stc.corners.get i).age (s.stc.frameNo + 1) := Stc.mapCorners_get _ _ _

theorem State.frameRead_corner (i : CornerId) :
    (s.frameRead r).stc.corners.get i =
      (s.frameCounted.followMode.stc.corners.get i).sample (r.currents.get i) (r.senses.get i) :=
  PerCorner.get_ofFn _ _

/-- What a frame reads of a corner, by the double look (R110). -/
theorem State.frameRead_readings (i : CornerId) :
    let b := (s.frameRead r).stc.corners.get i
    b.current = min 10000 (r.currents.get i) ∧ b.prevSense = r.senses.get i ∧ b.sense = s.frameSense r i := by
  have aged : (s.frameCounted.stc.corners.get i).sense = (s.stc.corners.get i).sense ∧
      (s.frameCounted.stc.corners.get i).prevSense = (s.stc.corners.get i).prevSense := by
    rw [s.frameCounted_corner]
    unfold Corner.age
    split <;> exact ⟨rfl, rfl⟩
  obtain ⟨-, sense, prevSense, -⟩ := s.frameCounted.followMode_handled.corners i
  rw [s.frameRead_corner]
  refine ⟨rfl, rfl, ?_⟩
  simp [Corner.sample, State.frameSense, sense, prevSense, aged.1, aged.2]

theorem State.frameCounted_followMode_changes :
    s.changesOnly s.frameCounted.followMode [.output, .stc, .tse] :=
  State.changesOnly_trans (State.changesOnly_mono (s.setStc_changes _) (by simp)) (State.followMode_changes _)

theorem State.followMode_sst : s.followMode.sst = s.sst := by
  have aborted : s.abortOnMode.sst = s.sst := by unfold State.abortOnMode; split <;> rfl
  have adopted (u : State) : u.adoptTarget.sst = u.sst := by unfold State.adoptTarget; split <;> rfl
  unfold State.followMode
  dsimp only
  split
  iterate 3 split <;> exact aborted
  all_goals exact (adopted _).trans aborted

/-- Steps 0 to 3 leave the working set and CAU, so that the grant is the frame's. -/
theorem State.frameRead_gauges :
    (s.frameRead r).stc.frameNo = s.stc.frameNo + 1 ∧
      (s.frameRead r).stc.starved = decide (s.grant .steer < s.ws.nat Item.floorSteerMa) ∧
      (s.frameRead r).stc.slewStep = slewFor s.ws (s.grant .steer) := by
  have changes := s.frameCounted_followMode_changes
  have cau : s.frameCounted.followMode.cau = s.cau := changes.2.2.2 .cau (by decide)
  have sst : s.frameCounted.followMode.sst = s.sst := s.frameCounted.followMode_sst
  have count : s.frameCounted.followMode.stc.frameNo = s.stc.frameNo + 1 :=
    s.frameCounted.followMode_handled.frameNo
  have grant : s.frameCounted.followMode.grant .steer = s.grant .steer := by rw [State.grant, cau, State.grant]
  have ws : s.frameCounted.followMode.ws = s.ws := by rw [State.ws, sst]
  refine ⟨count, ?_, ?_⟩
  · change isStarved s.frameCounted.followMode.ws (s.frameCounted.followMode.grant .steer) = _
    rw [grant, ws, isStarved]
  · change slewFor s.frameCounted.followMode.ws (s.frameCounted.followMode.grant .steer) = _
    rw [grant, ws]

/-- Steps 4 and 5 keep the gauges, and leave every corner with the target of R93. -/
theorem State.beginFrame_handled :
    (s.frameRead r).stc.Handled (s.beginFrame r).stc ∧ ∀ i, ((s.beginFrame r).stc.corners.get i).Aimed := by
  rw [s.beginFrame_eq]
  have aimed := (s.frameRead r).takeSteerCode.aimCorners_handled
  exact ⟨(s.frameRead r).takeSteerCode_handled.trans aimed.1, aimed.2⟩

end Begin

end Sys2Proof.Machine
end

section
/-! PROOF. What a servo frame leaves of intent, ceilings and settings (R90, R96, R119), and the frames at which the vehicle
mode asks for CENTERING or UNPOWERED (R91, R107). -/
namespace Sys2Proof.Machine

/-! ## Intent, ceilings and settings -/

section Rest
variable (s : State) (r : ServoReading)

/-- From `s` to `t` no setting but an item moved. -/
abbrev State.movesItems (s t : State) : Prop := t.ws = { s.ws with items := t.ws.items }

theorem State.movesItems_of_ws {t : State} (same : t.ws = s.ws) : s.movesItems t := by
  unfold State.movesItems
  rw [same]

theorem State.movesItems_of_sst {t : State} (same : t.sst = s.sst) : s.movesItems t :=
  s.movesItems_of_ws (congrArg Sst.working same)

/-- Step 1 leaves what it does not work on. -/
theorem State.beginFrame_sst : (s.beginFrame r).sst = s.sst := by
  have coded (u : State) : u.takeSteerCode.sst = u.sst := by
    by_cases steers : u.stc.machine.steers
    · rw [State.takeSteerCode_steers steers]
      unfold State.withCode
      split <;> rfl
    · rw [State.takeSteerCode_idle steers]
  have aimed (u : State) : u.aimCorners.sst = u.sst := by unfold State.aimCorners; split <;> rfl
  rw [s.beginFrame_eq, aimed, coded]
  exact s.frameCounted.followMode_sst

theorem State.edgeFound_movesItems (i : CornerId) : s.movesItems (s.edgeFound i) := by
  unfold State.edgeFound State.movesItems
  dsimp only
  split
  · rw [State.endCorner_ws]
    rfl
  · rw [State.endCorner_ws]

theorem State.judgeStep_movesItems (i : CornerId) : s.movesItems (s.judgeStep i) := by
  unfold State.judgeStep
  dsimp only
  split
  · exact State.edgeFound_movesItems (s.setTse _) i
  · split
    · exact s.movesItems_of_ws (State.endCorner_ws _ _ _)
    · exact s.movesItems_of_ws rfl

theorem State.searchFrame_movesItems : s.movesItems s.searchFrame := by
  have begun : s.beginCorner.ws = s.ws := by
    unfold State.beginCorner
    split
    · split <;> rfl
    · rfl
  have waited (i : CornerId) : (s.judgeWait i).ws = s.ws := by
    unfold State.judgeWait
    split
    · exact State.endCorner_ws _ _ _
    · rfl
  unfold State.searchFrame
  split
  · exact s.movesItems_of_ws begun
  · split
    · exact s.movesItems_of_ws rfl
    · split
      · split
        · exact s.movesItems_of_ws (waited _)
        · exact s.movesItems_of_ws rfl
      · split
        · exact s.movesItems_of_ws rfl
        · split
          · exact s.judgeStep_movesItems _
          · exact s.movesItems_of_ws rfl

theorem State.putCorner_sst (i : CornerId) (k : Corner) : (s.putCorner i k).sst = s.sst := by
  unfold State.putCorner
  dsimp only
  split <;> rfl

theorem State.workCorners_movesItems : s.movesItems s.workCorners := by
  unfold State.workCorners
  split
  · exact s.searchFrame_movesItems
  · exact s.movesItems_of_sst (foldl_leaves State.sst (fun u i => u.putCorner_sst i _) _ _)

theorem State.settleFailures_sst (b : PerCorner Bool) : (s.settleFailures b).sst = s.sst := by
  unfold State.settleFailures
  split <;> rfl

theorem State.alignExpires_sst : s.alignExpires.sst = s.sst := by
  unfold State.alignExpires
  dsimp only
  split <;> rfl

theorem State.advanceMachine_sst : s.advanceMachine.sst = s.sst := by
  unfold State.advanceMachine
  dsimp only
  split
  · split
    · rfl
    · split
      · exact State.alignExpires_sst _
      · rfl
  · split <;> rfl
  · rfl

theorem State.frameWorked_ws : s.frameWorked.ws = s.workCorners.ws := by
  unfold State.frameWorked
  rw [State.ws, State.advanceMachine_sst, State.settleFailures_sst]

/-- A frame writes no setting but a trim item (R119). -/
theorem State.servoFrame_movesItems : s.movesItems (s.beginFrame r).endFrame := by
  have ended : (s.beginFrame r).endFrame.ws = (s.beginFrame r).workCorners.ws := (s.beginFrame r).frameWorked_ws
  have worked := (s.beginFrame r).workCorners_movesItems
  have begun : (s.beginFrame r).ws = s.ws := congrArg Sst.working (s.beginFrame_sst r)
  unfold State.movesItems at worked ⊢
  rw [ended, ← begun]
  exact worked

/-- Step 4 takes the head of the STEER_SEL queue, or nothing. -/
theorem State.takeSteerCode_queue : s.takeSteerCode.intent =
    if s.stc.machine.steers then
      { s.intent with steer := { s.intent.steer with queue := s.intent.steer.queue.tail } }
    else s.intent := by
  split
  · rename_i steers
    rw [State.takeSteerCode_steers steers]
    unfold State.withCode
    split <;> rfl
  · rename_i idle
    rw [State.takeSteerCode_idle idle]

/-- The intent after a frame, by the machine at step 4. -/
theorem State.servoFrame_intent : (s.beginFrame r).endFrame.intent =
    if s.frameCounted.followMode.stc.machine.steers then
      { s.intent with steer := { s.intent.steer with queue := s.intent.steer.queue.tail } }
    else s.intent := by
  have ended : (s.beginFrame r).endFrame.intent = (s.beginFrame r).intent :=
    (s.beginFrame r).endFrame_changes.2.2.2 .intent (by decide)
  have aimed (u : State) : u.aimCorners.intent = u.intent := u.aimCorners_changes.2.2.2 .intent (by decide)
  have read : (s.frameRead r).intent = s.intent := s.frameCounted_followMode_changes.2.2.2 .intent (by decide)
  rw [ended, s.beginFrame_eq, aimed, State.takeSteerCode_queue, read]
  rfl

/-- A frame writes the wish of the steering in CAU, and nothing else there (R96). -/
theorem State.servoFrame_cau : (s.beginFrame r).endFrame.cau = { s.cau with records :=
    { s.cau.records with steer := { s.cau.records.steer with
      wish := (s.beginFrame r).frameWorked.steerWish (s.beginFrame r).stc.gaps } } } := by
  have begun : (s.beginFrame r).cau = s.cau := (s.beginFrame_changes r).2.2.2 .cau (by decide)
  have worked : (s.beginFrame r).frameWorked.cau = s.cau :=
    ((s.beginFrame r).frameWorked_changes.2.2.2 .cau (by decide)).trans begun
  rw [State.endFrame_eq]
  change (State.writeWish _ _ _).cau = _
  rw [State.writeWish, State.setCau_cau, worked]
  rfl

/-- Outside STEADY and ALIGNING the steering has no wish (R96). -/
theorem State.steerWish_of_idle {u : State} (steady : u.stc.machine ≠ .steady) (aligning : u.stc.machine ≠ .aligning)
    (gaps : PerCorner Nat) : u.steerWish gaps = false := by
  simp [State.steerWish, steady, aligning]

end Rest

/-! ## Frames of a machine that is set still (R91) -/

/-- The vehicle modes in which the steering machine steers or searches (R91). -/
abbrev VehicleMode.steered (m : VehicleMode) : Prop := m = .ready ∨ m = .run ∨ m = .failsafe

/-- The machine that another mode asks for. -/
def VehicleMode.stillMachine (m : VehicleMode) : SteerMachine := if m = .centering then .centering else .unpowered

/-- A corner as another mode sets it. -/
def Corner.still (k : Corner) (m : VehicleMode) : Corner := if m = .centering then k.centre else k.unpower

section Still
variable {s : State} (r : ServoReading)

theorem VehicleMode.stillMachine_idle (m : VehicleMode) :
    ¬m.stillMachine.steers ∧ (m.stillMachine = .unpowered ∨ m.stillMachine = .centering) := by
  unfold VehicleMode.stillMachine
  split <;> simp [SteerMachine.steers]

theorem State.followMode_still (idle : ¬s.mdc.mode.steered) :
    s.followMode = s.abortOnMode.adoptTarget.setStc { s.abortOnMode.adoptTarget.stc.mapCorners
      (fun k => k.still s.mdc.mode) with machine := s.mdc.mode.stillMachine } := by
  unfold State.followMode
  dsimp only
  split
  iterate 3
    rename_i mode
    rw [State.abortOnMode_mode] at mode
    exact (idle (by simp [VehicleMode.steered, mode])).elim
  all_goals
    rename_i mode
    rw [State.abortOnMode_mode] at mode
    simp [mode, Corner.still, VehicleMode.stillMachine]

/-- A corner that step 6 leaves as it is: neither ACTIVE nor in REST nor in a clearing hold. -/
structure Corner.Rests (k : Corner) : Prop where
  active : k.state ≠ .active
  rest : k.state ≠ .rest
  held : k.state = .held → k.clearing = false

theorem Corner.Rests.frame {k : Corner} (h : k.Rests) (w : WorkingSet) (m : SteerMode) (loading : Bool)
    (step now : Nat) : k.frame w m loading step now = k := by
  have counted : k.countDown m loading = k := by
    unfold Corner.countDown
    rw [if_neg h.rest, if_neg]
    rintro ⟨held, clearing⟩
    rw [h.held held] at clearing
    cases clearing
  unfold Corner.frame
  dsimp only
  rw [counted, if_neg h.active]

theorem State.putCorner_self (u : State) (i : CornerId) : u.putCorner i (u.stc.corners.get i) = u := by
  have same : u.stc.put i (u.stc.corners.get i) = u.stc := by cases i <;> rfl
  unfold State.putCorner
  dsimp only
  rw [same, if_neg fun e => e.2 e.1]
  rfl

/-- Steps 6 to 8 leave a machine that is set still. -/
theorem State.frameWorked_still {u : State} (machine : u.stc.machine = .unpowered ∨ u.stc.machine = .centering)
    (rests : ∀ i, (u.stc.corners.get i).Rests) : u.frameWorked = u := by
  have one (i : CornerId) : u.workCorner i = u := by
    unfold State.workCorner
    rw [(rests i).frame]
    exact u.putCorner_self i
  have worked : u.workCorners = u := by
    unfold State.workCorners
    rw [if_neg (by obtain e | e := machine <;> rw [e] <;> decide)]
    simp only [cornerIds, List.foldl_cons, List.foldl_nil, one]
  have settled : u.settleFailures u.stc.failedSet = u := by
    unfold State.settleFailures
    rw [if_pos rfl]
  unfold State.frameWorked
  rw [worked, settled]
  unfold State.advanceMachine
  obtain e | e := machine <;> simp only [e]

/-- Failed corners stay FAILED where a search is aborted (R122). -/
theorem State.abortOnMode_corner (i : CornerId) :
    s.abortOnMode.stc.corners.get i = s.stc.corners.get i ∨
      s.tse.running = true ∧
        s.abortOnMode.stc.corners.get i = (s.stc.corners.get i).steady s.stc.mode s.link.held := by
  unfold State.abortOnMode
  split
  · rename_i aborts
    exact .inr ⟨aborts.1, Stc.mapCorners_get _ _ _⟩
  · exact .inl rfl

/-- The corner as steps 0 to 5 of such a frame leave it: set still, then read. -/
theorem State.beginFrame_still_corner (idle : ¬s.mdc.mode.steered) (i : CornerId) :
    let k := ((s.frameCounted.abortOnMode.stc.corners.get i).still s.mdc.mode).sample (r.currents.get i)
      (r.senses.get i)
    (s.beginFrame r).stc.corners.get i = if k.state = .held ∨ k.state = .failed then k.aim 0 else k := by
  have followed : s.frameCounted.followMode.stc.corners.get i =
      (s.frameCounted.abortOnMode.stc.corners.get i).still s.mdc.mode := by
    rw [State.followMode_still (s := s.frameCounted) idle, State.setStc_stc]
    refine (Stc.mapCorners_get _ _ _).trans ?_
    rw [State.adoptTarget_corners]
    rfl
  have machine : (s.frameRead r).stc.machine = s.mdc.mode.stillMachine := by
    change s.frameCounted.followMode.stc.machine = _
    rw [State.followMode_still (s := s.frameCounted) idle]
    rfl
  obtain ⟨unsteered, still⟩ := s.mdc.mode.stillMachine_idle
  rw [s.beginFrame_eq, State.takeSteerCode_idle (by rw [machine]; exact unsteered)]
  unfold State.aimCorners
  rw [machine]
  obtain e | e := still <;> rw [e] <;> dsimp only <;>
    rw [State.setStc_stc, Stc.mapCorners_get, s.frameRead_corner, followed]

/-- Step 5 writes targets alone. -/
theorem State.aimCorners_stc (u : State) : u.aimCorners.stc = { u.stc with corners := u.aimCorners.stc.corners } := by
  unfold State.aimCorners
  split <;> rfl

theorem State.aimCorners_link (u : State) : u.aimCorners.link = u.link := by
  unfold State.aimCorners
  split <;> rfl

/-- The machine's own record after such a frame's steps 0 to 5, and the link. -/
theorem State.beginFrame_still_machine (idle : ¬s.mdc.mode.steered) :
    let u := s.frameCounted.abortOnMode.adoptTarget
    let b := (s.beginFrame r).stc
    b.machine = s.mdc.mode.stillMachine ∧ b.mode = u.stc.mode ∧ b.pending = u.stc.pending ∧
      b.alignMs = u.stc.alignMs ∧ b.settleMs = u.stc.settleMs ∧ (s.beginFrame r).link = u.link := by
  have followed := State.followMode_still (s := s.frameCounted) idle
  have machine : s.frameCounted.followMode.stc.machine = s.mdc.mode.stillMachine := by
    rw [followed]
    rfl
  have coded : (s.frameRead r).takeSteerCode = s.frameRead r :=
    State.takeSteerCode_idle (s := s.frameRead r) (by
      change ¬s.frameCounted.followMode.stc.machine.steers
      rw [machine]
      exact s.mdc.mode.stillMachine_idle.1)
  have link : (s.frameRead r).link = s.frameCounted.followMode.link := rfl
  have stc : (s.frameRead r).stc = { s.frameCounted.followMode.stc with
      corners := (s.frameRead r).stc.corners, starved := (s.frameRead r).stc.starved
      slewStep := (s.frameRead r).stc.slewStep } := rfl
  dsimp only
  rw [s.beginFrame_eq, coded, State.aimCorners_link, State.aimCorners_stc, link, stc, followed]
  exact ⟨rfl, rfl, rfl, rfl, rfl, rfl⟩

/-- Such a corner rests, FAILED where it was. -/
theorem Corner.still_rests {k : Corner} (m : VehicleMode) :
    (k.still m).Rests ∧ ((k.still m).state = .failed ↔ k.state = .failed) := by
  unfold Corner.still Corner.centre Corner.unpower
  split
  · split
    · rename_i failed
      exact ⟨⟨by simp [failed], by simp [failed], by simp [failed]⟩, Iff.rfl⟩
    · rename_i works
      exact ⟨⟨by simp, by simp, fun _ => rfl⟩, by simp [works]⟩
  · split
    · rename_i failed
      exact ⟨⟨by simp [failed], by simp [failed], by simp [failed]⟩, Iff.rfl⟩
    · rename_i works
      exact ⟨⟨by simp, by simp, by simp⟩, by simp [works]⟩

end Still

end Sys2Proof.Machine
end

section
/-! PROOF. Steps 0 to 5 of a frame of a steering machine (R90 to R96, R102 to R105): what the corners, the machine and the
link are when step 6 begins. -/
namespace Sys2Proof.Machine

/-! ## Geometry (R92) -/

theorem WorkingSet.axisTarget_eq (w : WorkingSet) (i : CornerId) (axis : Int) :
    w.axisTarget i axis = w.axisGoal i axis := by
  have angle : axisAngle axis (w.leftLimit i) (w.rightLimit i) =
      (axis * (if 0 < axis then w.rightLimit i else w.leftLimit i)).tdiv 1000 := by
    unfold axisAngle
    obtain below | rfl | above := lt_trichotomy axis 0
    · rw [if_neg (by omega), if_neg (by omega)]
    · simp
    · rw [if_pos (by omega), if_pos above]
  unfold WorkingSet.axisTarget WorkingSet.axisGoal
  rw [angle]
  rfl

/-- Step 5 writes the target of a powered corner by R93. -/
theorem Corner.aim_eq {k : Corner} (powered : k.state.powered = true) (goal : Int) :
    k.aim goal = { k with target :=
      if k.state = .failed then 0 else if k.state = .held then k.commanded else goal } := by
  cases state : k.state <;> simp [state, CornerState.powered] at powered <;>
    simp [Corner.aim, Corner.follows, state]

/-! ## What step 6 begins with -/

section Defs
variable (s : State) (r : ServoReading)

/-- The machine that comes to STEADY, or the machine as it stands (R91). -/
def State.machineBegun : SteerMachine :=
  if s.stc.machine = .unpowered ∨ s.stc.machine = .centering then .steady else s.stc.machine

/-- A corner after the count of stalls and step 1 (R91, R98). -/
def State.cornerBegun (i : CornerId) : Corner :=
  let k := (s.stc.corners.get i).age (s.stc.frameNo + 1)
  if s.stc.machine = .unpowered ∨ s.stc.machine = .centering then k.steady s.stc.mode s.link.held else k

/-- A corner as step 6 finds it: begun, its sensors read, its target given. -/
def State.cornerAimed (i : CornerId) : Corner :=
  { (s.cornerBegun i).sample (r.currents.get i) (r.senses.get i) with target := s.frameGoal s.frameMachine.1 i }

end Defs

section Steps
variable {s : State} (r : ServoReading)

theorem Corner.age_state (k : Corner) (now : Nat) : (k.age now).state = k.state := by
  unfold Corner.age
  split <;> rfl

theorem Corner.age_commanded (k : Corner) (now : Nat) : (k.age now).commanded = k.commanded := by
  unfold Corner.age
  split <;> rfl

/-- State and commanded angle as step 1 leaves them (R91). -/
theorem State.cornerBegun_spec (i : CornerId) :
    (s.cornerBegun i).state = (s.frameCorner i).1 ∧ (s.cornerBegun i).commanded = (s.frameCorner i).2 := by
  have state := (s.stc.corners.get i).age_state (s.stc.frameNo + 1)
  have commanded := (s.stc.corners.get i).age_commanded (s.stc.frameNo + 1)
  unfold State.cornerBegun State.frameCorner
  dsimp only
  by_cases arrives : s.stc.machine = .unpowered ∨ s.stc.machine = .centering
  · by_cases failed : (s.stc.corners.get i).state = .failed
    · rw [if_pos arrives, if_neg fun e => e.1 failed, Corner.steady, if_pos (state.trans failed)]
      exact ⟨state, commanded⟩
    · obtain ⟨steady, zero, -⟩ := Corner.steady_spec (fun e => failed (state.symm.trans e)) s.stc.mode s.link.held
      rw [if_pos arrives, if_pos ⟨failed, arrives⟩]
      exact ⟨steady, zero⟩
  · rw [if_neg arrives, if_neg fun e => arrives e.2]
    exact ⟨state, commanded⟩

theorem State.frameCorner_failed (i : CornerId) :
    (s.frameCorner i).1 = .failed ↔ (s.stc.corners.get i).state = .failed := by
  unfold State.frameCorner
  dsimp only
  split
  · rename_i works
    refine iff_of_false ?_ works.1
    dsimp only
    split <;> simp
  · rfl

/-- A sound steering machine outside SEARCH steers from step 1 on. -/
theorem State.machineBegun_steers (still : s.stc.machine ≠ .search) : s.machineBegun.steers := by
  unfold State.machineBegun SteerMachine.steers
  split
  · exact .inl rfl
  · rename_i stays
    cases machine : s.stc.machine <;> simp_all

/-- Step 1 in READY, RUN and FAILSAFE. -/
theorem State.followMode_steered (idle : s.tse.running = false) (steered : s.mdc.mode.steered) :
    s.followMode = if s.stc.machine = .unpowered ∨ s.stc.machine = .centering then
      s.setStc (s.stc.returnToSteady s.link.held) else s := by
  have stays : s.abortOnMode = s := by
    unfold State.abortOnMode
    rw [if_neg fun e => by rw [idle] at e; cases e.1]
  unfold State.followMode
  rw [stays]
  dsimp only
  obtain mode | mode | mode := steered <;> rw [mode]

theorem State.frameMachine_eq : s.frameMachine =
    match s.intent.steer.queue with
    | [] => (s.machineBegun, s.stc.pending, false)
    | code :: _ => codeOutcome (modeAllowed s.stc.failedSet) s.stc.mode s.stc.pending code.mode s.machineBegun := rfl

section Sound
variable (h : s.SteeringSound) (steered : s.mdc.mode.steered) (still : s.stc.machine ≠ .search)
include h steered still

theorem State.frameRead_of_steered :
    (s.frameRead r).stc.machine = s.machineBegun ∧
      (∀ i, (s.frameRead r).stc.corners.get i = (s.cornerBegun i).sample (r.currents.get i) (r.senses.get i)) ∧
      (s.frameRead r).stc.mode = s.stc.mode ∧ (s.frameRead r).stc.pending = s.stc.pending ∧
      (s.frameRead r).stc.alignMs = s.stc.alignMs ∧ (s.frameRead r).stc.settleMs = s.stc.settleMs ∧
      (s.frameRead r).link = s.link ∧ (s.frameRead r).mdc = s.mdc ∧ (s.frameRead r).intent = s.intent := by
  have followed : s.frameCounted.followMode =
      if s.stc.machine = .unpowered ∨ s.stc.machine = .centering then
        s.frameCounted.setStc (s.frameCounted.stc.returnToSteady s.link.held) else s.frameCounted :=
    State.followMode_steered (s := s.frameCounted) (h.unsearched still).running steered
  have corner (i : CornerId) :
      s.frameCounted.followMode.stc.corners.get i = s.cornerBegun i := by
    rw [followed]
    unfold State.cornerBegun
    dsimp only
    rw [← s.frameCounted_corner]
    split
    · exact Stc.mapCorners_get _ _ _
    · rfl
  refine ⟨?_, fun i => by rw [s.frameRead_corner, corner], ?_⟩
  · change s.frameCounted.followMode.stc.machine = _
    rw [followed, State.machineBegun]
    split <;> rfl
  · have rest (u : State) (same : u = s.frameCounted.followMode) :
        (s.frameRead r).stc.mode = u.stc.mode ∧ (s.frameRead r).stc.pending = u.stc.pending ∧
          (s.frameRead r).stc.alignMs = u.stc.alignMs ∧ (s.frameRead r).stc.settleMs = u.stc.settleMs ∧
          (s.frameRead r).link = u.link ∧ (s.frameRead r).mdc = u.mdc ∧ (s.frameRead r).intent = u.intent := by
      subst same
      exact ⟨rfl, rfl, rfl, rfl, rfl, rfl, rfl⟩
    split at followed
    · have read := rest _ followed.symm
      exact read
    · have read := rest _ followed.symm
      exact read

omit steered in
/-- Every corner is ACTIVE, HELD, in REST or FAILED when step 2 ends (R89, R91). -/
theorem State.cornerBegun_powered (i : CornerId) :
    (s.cornerBegun i).state.powered = true ∧ (s.cornerBegun i).LoadRule := by
  have aged := Corner.age_keeps (h.loadHeld i) (s.stc.frameNo + 1)
  unfold State.cornerBegun
  dsimp only
  split
  · exact Corner.steady_keeps aged.loadRule _ _
  · rename_i stays
    have steers := State.machineBegun_steers still
    rw [State.machineBegun, if_neg stays] at steers
    exact ⟨aged.powered (h.corners steers i), aged.loadRule⟩

theorem State.frameRead_failedSet : (s.frameRead r).stc.failedSet = s.stc.failedSet := by
  obtain ⟨-, corner, -⟩ := State.frameRead_of_steered r h steered still
  refine PerCorner.ext_get fun i => ?_
  rw [Stc.failedSet, Stc.failedSet, PerCorner.get_map, PerCorner.get_map, corner]
  refine decide_eq_decide.mpr ?_
  rw [← State.frameCorner_failed (s := s), ← (State.cornerBegun_spec i).1]
  rfl

/-- Step 4 takes the code of `frameMachine` (R102, R104, R105). -/
theorem State.frameRead_takenCode : (s.frameRead r).takenCode = s.frameMachine := by
  obtain ⟨machine, -, mode, pending, -, -, -, -, intent⟩ := State.frameRead_of_steered r h steered still
  unfold State.takenCode State.frameMachine
  rw [intent, machine, mode, pending, State.frameRead_failedSet r h steered still]
  rfl

/-- What step 5 finds. -/
theorem State.takeSteerCode_of_steered :
    (s.frameRead r).takeSteerCode = (s.frameRead r).codeTaken.withCode s.frameMachine := by
  obtain ⟨machine, -⟩ := State.frameRead_of_steered r h steered still
  rw [State.takeSteerCode_steers (by rw [machine]; exact State.machineBegun_steers still),
    State.frameRead_takenCode r h steered still]

omit steered in
theorem State.frameMachine_sound :
    s.frameMachine.1.steers ∧ (s.frameMachine.2.1.isSome = true ↔ s.frameMachine.1.turns) := by
  have pending : s.stc.pending.isSome = true ↔ s.machineBegun.turns := by
    rw [h.pending, State.machineBegun]
    split
    · rename_i arrives
      obtain e | e := arrives <;> simp [e, SteerMachine.turns]
    · rfl
  have steers := State.machineBegun_steers still
  rw [State.frameMachine_eq]
  split
  · exact ⟨steers, pending⟩
  · exact codeOutcome_sound steers pending

end Sound

theorem State.withCode_stc (u : State) (o : SteerMachine × Option SteerMode × Bool) :
    (u.withCode o).stc = u.stc.coded o := by
  unfold State.withCode
  split <;> rfl

theorem State.withCode_keeps (u : State) (o : SteerMachine × Option SteerMode × Bool) :
    (u.withCode o).mdc = u.mdc ∧ (u.withCode o).intent = u.intent ∧ (u.withCode o).sst = u.sst := by
  unfold State.withCode
  split <;> exact ⟨rfl, rfl, rfl⟩

/-- The axes that the geometry reads (R93). -/
theorem State.steerAxes_eq (steered : s.mdc.mode.steered) :
    s.steerAxes = (if s.mdc.mode = .failsafe then 0 else s.intent.axes.steer,
      if s.mdc.mode = .failsafe then 0 else s.intent.axes.aux) := by
  unfold State.steerAxes
  obtain mode | mode | mode := steered <;> simp [mode]

/-- A corner with its sensors read. -/
abbrev State.cornerRead (s : State) (r : ServoReading) (i : CornerId) : Corner :=
  (s.cornerBegun i).sample (r.currents.get i) (r.senses.get i)

section Aimed
variable (h : s.SteeringSound) (steered : s.mdc.mode.steered) (still : s.stc.machine ≠ .search)
include h steered still

omit steered in
/-- A powered corner is aimed at its goal. -/
theorem State.cornerRead_aim (i : CornerId) (goal : Int) :
    (s.cornerRead r i).aim goal = { s.cornerRead r i with target :=
      if (s.frameCorner i).1 = .failed then 0
      else if (s.frameCorner i).1 = .held then (s.frameCorner i).2 else goal } := by
  obtain ⟨state, commanded⟩ := State.cornerBegun_spec (s := s) i
  have powered : (s.cornerRead r i).state.powered = true := (State.cornerBegun_powered h still i).1
  rw [Corner.aim_eq powered, ← state, ← commanded]
  rfl

/-- Step 5 aims every corner at its goal (R92, R93). -/
theorem State.beginFrame_corner (i : CornerId) : (s.beginFrame r).stc.corners.get i = s.cornerAimed r i := by
  obtain ⟨-, corner, mode, -, -, -, -, mdc, intent⟩ := State.frameRead_of_steered r h steered still
  have steers := (State.frameMachine_sound h still).1
  have aim := State.cornerRead_aim r h still
  rw [s.beginFrame_eq, State.takeSteerCode_of_steered r h steered still]
  obtain ⟨mdc', intent', sst'⟩ := (s.frameRead r).codeTaken.withCode_keeps s.frameMachine
  have coded := (s.frameRead r).codeTaken.withCode_stc s.frameMachine
  have ws : ((s.frameRead r).codeTaken.withCode s.frameMachine).ws = s.ws := by
    rw [State.ws, sst']
    exact congrArg Sst.working s.frameCounted.followMode_sst
  generalize (s.frameRead r).codeTaken.withCode s.frameMachine = u at mdc' intent' coded ws ⊢
  have mode' : u.mdc.mode = s.mdc.mode := by rw [mdc', ← mdc]; rfl
  have axes : u.intent.axes = s.intent.axes := by rw [intent', ← intent]; rfl
  have machine : u.stc.machine = s.frameMachine.1 := by rw [coded]; rfl
  have read (j : CornerId) : u.stc.corners.get j = s.cornerRead r j := by rw [coded]; exact corner j
  have steerMode : u.stc.mode = s.stc.mode := by rw [coded]; exact mode
  unfold State.aimCorners
  rw [machine]
  obtain e | e | e := steers
  · rw [e]
    dsimp only
    rw [State.setStc_stc, State.steerAxes_eq (s := u) (by rw [mode']; exact steered), mode', axes, ws]
    have fl := read .fl
    have fr := read .fr
    have rl := read .rl
    have rr := read .rr
    simp only [PerCorner.get] at fl fr rl rr
    unfold State.cornerAimed State.frameGoal Stc.aimGeometry
    rw [fl, fr, rl, rr, steerMode, e]
    cases i <;> simp only [PerCorner.get, aim] <;> congr 1 <;>
      cases s.stc.mode <;> simp [WorkingSet.frontTarget, WorkingSet.rearTarget, WorkingSet.axisTarget_eq] <;> rfl
  · rw [e]
    dsimp only
    rw [State.setStc_stc, Stc.aimStraight, Stc.mapCorners_get, read, aim]
    unfold State.cornerAimed State.frameGoal
    rw [e]
    cases i <;> simp
  · rw [e]
    dsimp only
    rw [State.setStc_stc, Stc.aimStraight, Stc.mapCorners_get, read, aim]
    unfold State.cornerAimed State.frameGoal
    rw [e]
    cases i <;> simp

/-- The machine, its target and its timers when step 6 begins. -/
theorem State.beginFrame_machine :
    let b := (s.beginFrame r).stc
    b.machine = s.frameMachine.1 ∧ b.pending = s.frameMachine.2.1 ∧ b.mode = s.stc.mode ∧
      (s.frameMachine.1 = .aligning → b.alignMs = if s.stc.machine = .aligning then s.stc.alignMs else 0) ∧
      (s.frameMachine.1 = .settling → b.settleMs = s.stc.settleMs) := by
  obtain ⟨machine, -, mode, pending, alignMs, settleMs, -⟩ := State.frameRead_of_steered r h steered still
  have coded : (s.beginFrame r).stc = { (s.frameRead r).stc.coded s.frameMachine with
      corners := (s.beginFrame r).stc.corners } := by
    rw [s.beginFrame_eq, State.takeSteerCode_of_steered r h steered still, State.aimCorners_stc, State.withCode_stc]
    rfl
  dsimp only
  rw [coded]
  refine ⟨rfl, rfl, mode, fun aligning => ?_, fun settling => ?_⟩
  · change (if s.frameMachine.1 = (s.frameRead r).stc.machine then (s.frameRead r).stc.alignMs else 0) = _
    rw [aligning, machine, alignMs, State.machineBegun]
    by_cases arrives : s.stc.machine = .unpowered ∨ s.stc.machine = .centering
    · rw [if_pos arrives, if_neg (by simp), if_neg (by obtain e | e := arrives <;> simp [e])]
    · rw [if_neg arrives]
      exact if_congr eq_comm rfl rfl
  · change (if (s.frameRead r).stc.machine = .steady ∧ s.frameMachine.1 = .aligning then 0
      else (s.frameRead r).stc.settleMs) = _
    rw [if_neg (by rw [settling]; simp), settleMs]

theorem State.beginFrame_failedSet : (s.beginFrame r).stc.failedSet = s.stc.failedSet := by
  refine PerCorner.ext_get fun i => ?_
  rw [Stc.failedSet, Stc.failedSet, PerCorner.get_map, PerCorner.get_map, State.beginFrame_corner r h steered still]
  refine decide_eq_decide.mpr ?_
  rw [← State.frameCorner_failed (s := s), ← (State.cornerBegun_spec i).1]
  rfl

end Aimed

theorem State.beginFrame_held : (s.beginFrame r).link.held = s.link.held := by
  have changes := s.beginFrame_changes r
  exact (changes.2.2.2 .queue (by decide)).2.2.1

end Steps

end Sys2Proof.Machine
end

section
/-! PROOF. Step 6 of a frame outside SEARCH (R94, R97 to R100, R108): what it makes of one corner, of them all, and of the
link. -/
namespace Sys2Proof.Machine

/-! ## One corner -/

theorem toward_eq (v t : Int) (step : Nat) : toward v t step = v + max (-(step : Int)) (min step (t - v)) := by
  unfold toward
  split <;> omega

/-- The commanded angle after the slew (R94). -/
def Corner.slewn (k : Corner) (w : WorkingSet) (step : Nat) : Int :=
  if k.currentHeld w then k.commanded
  else k.commanded + max (-(step : Int)) (min step (k.target - k.commanded))

/-- What step 6 makes of an ACTIVE corner (R94, R97 to R99). -/
def Corner.activeWork (k : Corner) (w : WorkingSet) (step now : Nat) : CornerWork :=
  let moved := k.slewn w step
  let jammed := decide (w.nat Item.cornerStallMa < k.current) && decide (moved ≠ k.target)
  let slewed := decide (moved ≠ k.commanded)
  if jammed = true ∧ 30 ≤ k.stallCount + 1 then
    if k.history.length < 2 then ⟨.rest, k.fault, moved, 500, k.clearing, 0, 0, k.history ++ [now]⟩
    else ⟨.failed, .stall, 0, 0, false, 0, 0, k.history ++ [now]⟩
  else if slewed = true ∧ k.current < 20 ∧ 20 ≤ k.openCount + 1 then ⟨.failed, .open, 0, 0, false, 0, 0, k.history⟩
  else ⟨.active, k.fault, moved, k.stateTimer, k.clearing, if jammed then k.stallCount + 1 else 0,
    if slewed then (if k.current < 20 then k.openCount + 1 else 0) else k.openCount, k.history⟩

/-- What step 6 makes of a corner that is not ACTIVE when its count-down has ended. -/
def Corner.idleWork (k : Corner) : CornerWork :=
  ⟨k.state, k.fault, k.commanded, k.stateTimer, k.clearing, k.stallCount, k.openCount, k.history⟩

section Corners
variable {k : Corner} (w : WorkingSet) (m : SteerMode) (loading : Bool) (step now : Nat)

theorem Corner.slew_eq (k : Corner) : k.slew w step = { k with commanded := k.slewn w step } := by
  unfold Corner.slew Corner.slewn
  split
  · rfl
  · rw [toward_eq]

/-- A stall, old entries having been removed at this frame (R98). -/
theorem Corner.stall_worked (recent : recentStalls now k.history = k.history) :
    (k.stall now).worked
      (if k.history.length < 2 then ⟨.rest, k.fault, k.commanded, 500, k.clearing, 0, 0, k.history ++ [now]⟩
      else ⟨.failed, .stall, 0, 0, false, 0, 0, k.history ++ [now]⟩) := by
  unfold Corner.stall
  dsimp only
  rw [recent, List.length_append, List.length_singleton]
  by_cases few : k.history.length < 2
  · rw [if_pos (by omega), if_pos few]
    exact ⟨rfl, rfl, rfl, rfl, rfl, rfl, rfl, rfl⟩
  · rw [if_neg (by omega), if_neg few]
    exact ⟨rfl, rfl, rfl, rfl, rfl, rfl, rfl, rfl⟩

/-- Step 6 of an ACTIVE corner. -/
theorem Corner.work_worked (active : k.state = .active) (recent : recentStalls now k.history = k.history) :
    (k.work w step now).worked (k.activeWork w step now) := by
  have still : w.nat Item.cornerStallMa < k.current → k.slewn w step = k.commanded := fun stopped =>
    if_pos (decide_eq_true stopped)
  have stalls (b : Corner) (same : b.history = k.history) := Corner.stall_worked (k := b) now (by rw [same]; exact recent)
  unfold Corner.work Corner.activeWork
  rw [Corner.slew_eq]
  generalize k.slewn w step = moved at still
  have condition : Corner.stallCondition { k with commanded := moved } w =
      (decide (w.nat Item.cornerStallMa < k.current) && decide (moved ≠ k.target)) := Bool.and_comm _ _
  cases jammed : decide (w.nat Item.cornerStallMa < k.current) && decide (moved ≠ k.target) with
  | true =>
    have stands : moved = k.commanded := still (by
      simp only [Bool.and_eq_true, decide_eq_true_eq] at jammed
      exact jammed.1)
    subst stands
    by_cases full : 30 ≤ k.stallCount + 1
    · simp only [Corner.runStall, condition, jammed, full, ne_eq, not_true_eq_false, if_false, if_true, and_self]
      exact stalls k rfl
    · simp only [Corner.runStall, condition, jammed, full, ne_eq, not_true_eq_false, if_false, if_true, and_false,
        decide_false, Bool.false_eq_true, false_and]
      exact ⟨active, rfl, rfl, rfl, rfl, rfl, rfl, rfl⟩
  | false =>
    simp only [Corner.runStall, condition, jammed, if_false, false_and, Bool.false_eq_true]
    by_cases slewed : moved = k.commanded
    · simp only [slewed, ne_eq, not_true_eq_false, if_false, decide_false, Bool.false_eq_true, false_and]
      exact ⟨active, rfl, rfl, rfl, rfl, rfl, rfl, rfl⟩
    · simp only [slewed, ne_eq, not_false_eq_true, if_true, decide_true, true_and, Corner.runOpen]
      by_cases low : k.current < 20
      · by_cases opens : 20 ≤ k.openCount + 1
        · simp only [low, opens, if_true, and_self]
          exact ⟨rfl, rfl, rfl, rfl, rfl, rfl, rfl, rfl⟩
        · simp only [low, opens, if_true, if_false, and_false]
          exact ⟨active, rfl, rfl, rfl, rfl, rfl, rfl, rfl⟩
      · simp only [low, if_false, false_and]
        exact ⟨active, rfl, rfl, rfl, rfl, rfl, rfl, rfl⟩

/-- A corner that goes on keeps its target (R93). -/
theorem Corner.work_target
    (moves : (k.work w step now).state = .active ∨ (k.work w step now).state = .rest) :
    (k.work w step now).target = k.target := by
  have stalled (b : Corner) (same : b.target = k.target)
      (moves : (b.runStall w now).state = .active ∨ (b.runStall w now).state = .rest) :
      (b.runStall w now).target = k.target := by
    unfold Corner.runStall Corner.stall at moves ⊢
    dsimp only at moves ⊢
    split_ifs at moves ⊢
    · exact same
    · simp at moves
    · exact same
    · exact same
  unfold Corner.work at moves ⊢
  rw [Corner.slew_eq] at moves ⊢
  dsimp only at moves ⊢
  split_ifs at moves ⊢
  · unfold Corner.runOpen at moves ⊢
    split_ifs at moves ⊢
    · simp at moves
    · exact stalled _ rfl moves
    · exact stalled _ rfl moves
  · exact stalled _ rfl moves

/-- The count-down of step 6 (R97, R108): the state and what is left, all else as it stands but the target of a corner
that a load holds. -/
theorem Corner.countDown_spec (k : Corner) :
    let holds := decide (k.state = .held) && k.clearing
    let waits := decide (k.state = .rest) || holds
    let ended := waits && decide (k.stateTimer ≤ 10)
    let b := k.countDown m loading
    b.state = (if !ended then k.state
      else if loading || (holds && decide (m = .none)) then .held else .active) ∧
      b.stateTimer = (if waits then k.stateTimer - 10 else k.stateTimer) ∧ b.clearing = (k.clearing && !ended) ∧
      b.fault = k.fault ∧ b.commanded = k.commanded ∧ b.stallCount = k.stallCount ∧ b.openCount = k.openCount ∧
      b.history = k.history ∧ b.current = k.current ∧ (b.state = .active ∨ b.state = .rest → b.target = k.target) := by
  intro holds waits ended b
  by_cases rests : k.state = .rest
  · have waiting : holds = false ∧ waits = true := by simp [holds, waits, rests]
    by_cases out : k.stateTimer ≤ 10
    · have ends : ended = true := by simp [ended, waiting, out]
      have same : b = k.activate loading := by
        simp only [b, Corner.countDown, rests, out, if_true]
      rw [same, ends, waiting.1, waiting.2]
      cases loading <;> simp [Corner.activate, out]
    · have ends : ended = false := by simp [ended, out]
      have same : b = { k with stateTimer := k.stateTimer - 10 } := by
        simp only [b, Corner.countDown, rests, out, if_true, if_false]
      rw [same, ends, waiting.1, waiting.2]
      simp
  · by_cases clears : k.state = .held ∧ k.clearing = true
    · have waiting : holds = true ∧ waits = true := by simp [holds, waits, clears]
      by_cases out : k.stateTimer ≤ 10
      · have ends : ended = true := by simp [ended, waiting, out]
        have same : b = k.endClearing m loading := by
          simp only [b, Corner.countDown, clears, out, if_true]
          simp
        rw [same, ends, waiting.1, waiting.2]
        unfold Corner.endClearing
        by_cases none : m = .none
        · simp [none, out, clears]
        · cases loading <;> simp [Corner.activate, none, out]
      · have ends : ended = false := by simp [ended, out]
        have same : b = { k with stateTimer := k.stateTimer - 10 } := by
          simp only [b, Corner.countDown, clears, out, if_false]
          simp
        rw [same, ends, waiting.1, waiting.2]
        simp
    · have waiting : holds = false ∧ waits = false := by
        have idle : holds = false := by
          cases e : holds with
          | false => rfl
          | true => simp only [holds, Bool.and_eq_true, decide_eq_true_eq] at e; exact absurd e clears
        exact ⟨idle, by simp [waits, rests, idle]⟩
      have ends : ended = false := by simp [ended, waiting]
      have same : b = k := by
        simp only [b, Corner.countDown, rests, clears, if_false]
      rw [same, ends, waiting.1, waiting.2]
      simp

/-- Step 6 of one corner. -/
theorem Corner.frame_worked (k : Corner)
    (recent : k.state ≠ .failed → recentStalls now k.history = k.history) :
    let b := k.countDown m loading
    (k.frame w m loading step now).worked
      (if b.state ≠ .active then b.idleWork else b.activeWork w step now) := by
  intro b
  obtain ⟨state, -, -, -, -, -, -, history, -⟩ := Corner.countDown_spec m loading k
  unfold Corner.frame
  by_cases active : b.state = .active
  · rw [if_neg (not_not.mpr active)]
    dsimp only
    rw [if_pos active]
    refine Corner.work_worked w step now active ?_
    rw [history]
    refine recent fun failed => ?_
    rw [failed] at state
    exact absurd (state.symm.trans active) (by simp)
  · rw [if_pos active]
    dsimp only
    rw [if_neg active]
    exact ⟨rfl, rfl, rfl, rfl, rfl, rfl, rfl, rfl⟩

/-- A corner that is ACTIVE or in REST after step 6 keeps its target (R93). -/
theorem Corner.frame_target (k : Corner)
    (moves : (k.frame w m loading step now).state = .active ∨ (k.frame w m loading step now).state = .rest) :
    (k.frame w m loading step now).target = k.target := by
  obtain ⟨-, -, -, -, -, -, -, -, -, target⟩ := Corner.countDown_spec m loading k
  unfold Corner.frame at moves ⊢
  dsimp only at moves ⊢
  split_ifs at moves ⊢ with active
  · rw [Corner.work_target w step now moves]
    exact target (.inl active)
  · exact target moves

end Corners

/-! ## The record of a frame's step 6 -/

section Record
variable {s : State} (r : ServoReading) (i : CornerId)

/-- The corner arrives in STEADY with its counts and timer restarted (R91). -/
def State.parks (s : State) (i : CornerId) : Bool :=
  decide ((s.stc.corners.get i).state ≠ .failed) &&
    (decide (s.stc.machine = .unpowered) || decide (s.stc.machine = .centering))

theorem State.cornerBegun_counts :
    let k := s.stc.corners.get i
    let b := s.cornerBegun i
    b.fault = k.fault ∧ b.stateTimer = (if s.parks i then 0 else k.stateTimer) ∧
      b.stallCount = (if s.parks i then 0 else k.stallCount) ∧
      b.openCount = (if s.parks i then 0 else k.openCount) ∧ b.clearing = (!s.parks i && k.clearing) ∧
      b.history = if k.state = .failed then k.history else recentStalls (s.stc.frameNo + 1) k.history := by
  have aged : ∀ k : Corner, k.age (s.stc.frameNo + 1) = { k with
      history := if k.state = .failed then k.history else recentStalls (s.stc.frameNo + 1) k.history } := fun k => by
    unfold Corner.age
    split <;> rfl
  unfold State.cornerBegun State.parks Corner.steady
  dsimp only
  rw [aged]
  by_cases arrives : s.stc.machine = .unpowered ∨ s.stc.machine = .centering
  · have arrived : (decide (s.stc.machine = .unpowered) || decide (s.stc.machine = .centering)) = true := by
      simpa using arrives
    rw [if_pos arrives, arrived]
    by_cases failed : (s.stc.corners.get i).state = .failed
    · simp [failed]
    · by_cases none : s.stc.mode = .none
      · simp [failed, none, Corner.parkAt]
      · cases s.link.held <;> simp [failed, none, Corner.parkAt, Corner.activate]
  · rw [if_neg arrives]
    rw [not_or] at arrives
    simp [arrives]

/-- The corner of step 6, by `cornerWork`. -/
theorem State.cornerWork_eq :
    let b := (s.cornerAimed r i).countDown s.stc.mode s.link.held
    s.cornerWork r i = if b.state ≠ .active then b.idleWork
      else b.activeWork s.ws (slewFor s.ws (s.grant .steer)) (s.stc.frameNo + 1) := by
  obtain ⟨begun, start⟩ := State.cornerBegun_spec (s := s) i
  obtain ⟨fault₀, timer₀, stalls₀, opens₀, clears₀, history₀⟩ := State.cornerBegun_counts (s := s) i
  obtain ⟨state, timer, clearing, fault, commanded, stalls, opens, history, current, target⟩ :=
    Corner.countDown_spec s.stc.mode s.link.held (s.cornerAimed r i)
  dsimp only at state timer clearing fault commanded stalls opens history current target ⊢
  have slew : slewFor s.ws (s.grant .steer) = if s.grant .steer < s.ws.nat Item.floorSteerMa then 0 else
      max 1 (min (s.ws.nat Item.steerSlew) (s.ws.nat Item.steerSlew * s.grant .steer / s.ws.nat Item.baseSteerMa)) := by
    simp [slewFor, isStarved]
  generalize (s.cornerAimed r i).countDown s.stc.mode s.link.held = b at *
  simp only [State.cornerAimed, Corner.sample, begun, start, fault₀, timer₀, stalls₀, opens₀, clears₀, history₀,
    State.parks] at state timer clearing fault commanded stalls opens history current target
  unfold State.cornerWork
  by_cases active : b.state = .active
  · rw [if_neg (not_not.mpr active)]
    dsimp only
    rw [if_neg]
    · unfold Corner.activeWork Corner.slewn Corner.currentHeld
      rw [target (.inl active), timer, clearing, fault, commanded, stalls, opens, history, current, slew]
      rfl
    · rw [not_not]
      exact state.symm.trans active
  · rw [if_pos active]
    dsimp only
    rw [if_pos]
    · unfold Corner.idleWork
      rw [state, timer, clearing, fault, commanded, stalls, opens, history]
      rfl
    · refine fun e => active (Eq.trans ?_ e)
      exact state

end Record

end Sys2Proof.Machine
end

section
/-! PROOF. A frame of a steering machine from step 6 on (R97 to R106): every corner's work, the failures, and the machine's
advance. -/
namespace Sys2Proof.Machine

/-! ## Every corner's work -/

section Work
variable (u : State)

/-- Step 6 of a corner's record, with the settings and the gauges of a state. -/
def State.framed (k : Corner) : Corner := k.frame u.ws u.stc.mode u.link.held u.stc.slewStep u.stc.frameNo

/-- Steering, its corners apart. -/
structure State.SameGear (s t : State) : Prop where
  stc : t.stc = { s.stc with corners := t.stc.corners }
  ws : t.ws = s.ws
  held : t.link.held = s.link.held

theorem State.SameGear.refl (s : State) : s.SameGear s := ⟨rfl, rfl, rfl⟩

theorem State.SameGear.trans {s u t : State} (first : s.SameGear u) (after : u.SameGear t) : s.SameGear t where
  stc := by rw [after.stc, first.stc]
  ws := after.ws.trans first.ws
  held := after.held.trans first.held

theorem State.SameGear.framed {s t : State} (same : s.SameGear t) : t.framed = s.framed := by
  unfold State.framed
  rw [same.ws, same.held, same.stc]

theorem State.putCorner_stc (i : CornerId) (k : Corner) : (u.putCorner i k).stc = u.stc.put i k := by
  unfold State.putCorner
  dsimp only
  split <;> rfl

theorem State.putCorner_gear (i : CornerId) (k : Corner) : u.SameGear (u.putCorner i k) := by
  refine ⟨by rw [State.putCorner_stc]; rfl, congrArg Sst.working (u.putCorner_sst i k), ?_⟩
  exact ((u.putCorner_changes i k).2.2.2 .queue (by decide)).2.2.1

theorem State.putCorner_other {i j : CornerId} (k : Corner) (other : j ≠ i) :
    (u.putCorner i k).stc.corners.get j = u.stc.corners.get j := by
  rw [State.putCorner_stc, Stc.put_get_other _ _ other]

theorem State.putCorner_own (i : CornerId) (k : Corner) : (u.putCorner i k).stc.corners.get i = k := by
  rw [State.putCorner_stc, Stc.put_get_self]

/-- Each corner is worked once. -/
theorem State.foldl_workCorner (l : List CornerId) (once : l.Nodup) :
    u.SameGear (l.foldl State.workCorner u) ∧ ∀ j,
      (l.foldl State.workCorner u).stc.corners.get j =
        if j ∈ l then u.framed (u.stc.corners.get j) else u.stc.corners.get j := by
  induction l generalizing u with
  | nil => exact ⟨.refl u, fun j => by simp⟩
  | cons i l ih =>
    obtain ⟨fresh, once⟩ := List.nodup_cons.mp once
    have gear : u.SameGear (u.workCorner i) := u.putCorner_gear i _
    obtain ⟨after, corners⟩ := ih (u.workCorner i) once
    refine ⟨gear.trans after, fun j => ?_⟩
    rw [List.foldl_cons, corners, gear.framed]
    by_cases own : j = i
    · subst own
      rw [if_neg fresh, if_pos (by simp)]
      exact u.putCorner_own j _
    · have stands : (u.workCorner i).stc.corners.get j = u.stc.corners.get j := u.putCorner_other _ own
      simp only [List.mem_cons, own, false_or, stands]

theorem State.workCorners_gear (still : u.stc.machine ≠ .search) : u.SameGear u.workCorners := by
  unfold State.workCorners
  rw [if_neg still]
  exact (u.foldl_workCorner cornerIds (by decide)).1

theorem State.workCorners_corner (still : u.stc.machine ≠ .search) (i : CornerId) :
    u.workCorners.stc.corners.get i = u.framed (u.stc.corners.get i) := by
  unfold State.workCorners
  rw [if_neg still, (u.foldl_workCorner cornerIds (by decide)).2 i, if_pos (by cases i <;> decide)]

/-! ## Failures and their notices (R100) -/

/-- A corner is FAILED. -/
theorem Stc.failedSet_get (c : Stc) (i : CornerId) :
    c.failedSet.get i = decide ((c.corners.get i).state = .failed) := PerCorner.get_map _ _ _

theorem Stc.failedSet_eq {c d : Stc} (same : ∀ i, (d.corners.get i).state = .failed ↔ (c.corners.get i).state = .failed) :
    d.failedSet = c.failedSet :=
  PerCorner.ext_get fun i => by rw [Stc.failedSet_get, Stc.failedSet_get]; exact decide_eq_decide.mpr (same i)

/-- From `s` to `t` no corner failed and the link stands, or a FAILED notice tells of the corners that are FAILED. -/
def State.TellsFailures (s t : State) : Prop :=
  t.stc.failedSet = s.stc.failedSet ∧ t.link = s.link ∨
    (s.ws.notices .steer = true → t.noticed (.steer ⟨.failed, s.stc.mode, t.stc.failedSet⟩))

/-- A FAILED corner stays so through step 6. -/
theorem Corner.frame_failed {k : Corner} (failed : k.state = .failed) (w : WorkingSet) (m : SteerMode) (loading : Bool)
    (step now : Nat) : k.frame w m loading step now = k :=
  Corner.frame_of_idle (by simp [failed]) (by simp [failed]) (by simp [failed]) w m loading step now

theorem State.putCorner_tells {i : CornerId} {k : Corner}
    (keeps : (u.stc.corners.get i).state = .failed → k.state = .failed) : u.TellsFailures (u.putCorner i k) := by
  by_cases fails : k.state = .failed ∧ (u.stc.corners.get i).state ≠ .failed
  · refine .inr fun masked => ?_
    have same : u.putCorner i k = (u.setStc (u.stc.put i k)).steerNotice .failed := if_pos fails
    rw [same]
    exact State.raise_noticed _ masked
  · have same : u.putCorner i k = u.setStc (u.stc.put i k) := if_neg fails
    refine .inl ⟨Stc.failedSet_eq fun j => ?_, by rw [same]; rfl⟩
    by_cases own : j = i
    · subst own
      rw [State.putCorner_own]
      exact ⟨fun failed => by_contra fun works => fails ⟨failed, works⟩, keeps⟩
    · rw [State.putCorner_other _ _ own]

theorem State.TellsFailures.trans {s u t : State} (first : s.TellsFailures u) (mode : u.stc.mode = s.stc.mode)
    (ws : u.ws = s.ws) (after : u.TellsFailures t) : s.TellsFailures t := by
  obtain ⟨failed, link⟩ | told := after
  · obtain ⟨before, still⟩ | told := first
    · exact .inl ⟨failed.trans before, link.trans still⟩
    · exact .inr fun masked => State.noticed_of_link link (by rw [failed]; exact told masked)
  · refine .inr fun masked => ?_
    rw [← mode]
    exact told (by rw [ws]; exact masked)

theorem State.workCorners_tells (still : u.stc.machine ≠ .search) : u.TellsFailures u.workCorners := by
  have all (l : List CornerId) : ∀ v : State, v.TellsFailures (l.foldl State.workCorner v) := by
    induction l with
    | nil => exact fun v => .inl ⟨rfl, rfl⟩
    | cons i l ih =>
      refine fun v => State.TellsFailures.trans (v.putCorner_tells fun failed => ?_) (by rw [State.putCorner_stc]; rfl)
        (v.putCorner_gear i _).ws (ih _)
      rw [Corner.frame_failed failed]
      exact failed
  unfold State.workCorners
  rw [if_neg still]
  exact all _ u

/-! ## Step 7 (R101) -/

theorem Stc.aimStraight_get (c : Stc) (i : CornerId) : c.aimStraight.corners.get i = (c.corners.get i).aim 0 :=
  Stc.mapCorners_get _ _ _

theorem Stc.aimStraight_failedSet (c : Stc) : c.aimStraight.failedSet = c.failedSet :=
  Stc.failedSet_eq fun i => by rw [Stc.aimStraight_get, Corner.aim_state]

/-- A target that is pending, replaced where it is no longer allowed (R101, R106). -/
theorem Stc.fallBack_pending (c : Stc) : c.fallBack.pending =
    c.pending.map fun m => if modeAllowed c.failedSet m then m else fallbackMode c.failedSet := by
  unfold Stc.fallBack
  split
  · rename_i waits
    rw [waits]
    split
    · rename_i allowed
      simp [waits, allowed]
    · rename_i refused
      simp [refused]
  · rename_i empty
    rw [empty]
    rfl

theorem Stc.fallBack_rest (c : Stc) : c.fallBack = { c with pending := c.fallBack.pending } := by
  unfold Stc.fallBack
  split
  · split <;> rfl
  · rfl

/-- STEADY stays, or begins a transition to the fallback, every following corner aimed straight. -/
theorem Stc.settleFailure_steady {c : Stc} (steady : c.machine = .steady) :
    (modeAllowed c.failedSet c.mode = true → c.settleFailure = c) ∧
      (modeAllowed c.failedSet c.mode = false →
        c.settleFailure = (c.beginAligning (fallbackMode c.failedSet)).aimStraight) := by
  unfold Stc.settleFailure
  rw [steady]
  exact ⟨fun allowed => if_pos allowed, fun refused => if_neg (by rw [refused]; simp)⟩

theorem Stc.settleFailure_turns {c : Stc} (turns : c.machine.turns) : c.settleFailure = c.fallBack := by
  unfold Stc.settleFailure
  obtain e | e := turns <;> rw [e]

/-! ## Step 8 (R103, R105, R106) -/

theorem Stc.aligned_iff (c : Stc) :
    c.aligned = true ↔ ∀ i, (c.corners.get i).state = .failed ∨ (c.corners.get i).commanded = 0 := by
  unfold Stc.aligned
  rw [List.all_eq_true]
  constructor
  · intro all i
    have one := all i (by cases i <;> decide)
    simpa using one
  · intro all i _
    simpa using all i

section Advance
variable {u}

theorem State.advanceMachine_idle (idle : ¬u.stc.machine.turns) : u.advanceMachine = u := by
  unfold State.advanceMachine
  dsimp only
  split
  · rename_i e; exact absurd (.inl e) idle
  · rename_i e; exact absurd (.inr e) idle
  · rfl

theorem State.advanceMachine_aligning (aligning : u.stc.machine = .aligning) : u.advanceMachine =
    if u.stc.aligned then u.setStc u.stc.beginSettling
    else if u.ws.nat Item.alignTimeoutMs ≤ u.stc.nextAlignMs then
      (u.setStc { u.stc with alignMs := u.stc.nextAlignMs }).alignExpires
    else u.setStc { u.stc with alignMs := u.stc.nextAlignMs } := by
  unfold State.advanceMachine
  dsimp only
  rw [aligning]

theorem State.advanceMachine_settling (settling : u.stc.machine = .settling) : u.advanceMachine =
    if u.ws.nat Item.settleMs ≤ min 500 (u.stc.settleMs + 10) then
      (u.setStc { u.stc with settleMs := min 500 (u.stc.settleMs + 10) }).settleEnds
    else u.setStc { u.stc with settleMs := min 500 (u.stc.settleMs + 10) } := by
  unfold State.advanceMachine
  dsimp only
  rw [settling]

end Advance

/-- What the align timer's end makes of a corner (R106). -/
def Corner.expire (k : Corner) : Corner := if k.state ≠ .failed ∧ k.commanded ≠ 0 then k.fail .align else k

theorem State.alignExpires_corner (i : CornerId) : u.alignExpires.stc.corners.get i = (u.stc.corners.get i).expire := by
  have same : u.alignExpires.stc.corners = (u.stc.mapCorners Corner.expire).corners := by
    unfold State.alignExpires
    dsimp only
    split <;> exact Stc.fallBack_corners _
  rw [same]
  exact Stc.mapCorners_get _ _ _

theorem State.alignExpires_machine : u.alignExpires.stc.machine = .settling := by
  unfold State.alignExpires
  rfl

/-- Corners that fail there are told of by one notice (R100, R106). -/
theorem State.alignExpires_tells : u.TellsFailures u.alignExpires := by
  let c := u.stc.mapCorners Corner.expire
  have failed : u.alignExpires.stc.failedSet = c.failedSet := Stc.failedSet_eq fun i => by
    rw [State.alignExpires_corner, Stc.mapCorners_get]
  by_cases same : c.failedSet = u.stc.failedSet
  · refine .inl ⟨failed.trans same, ?_⟩
    have stands : u.alignExpires = (u.setStc c).setStc (u.setStc c).stc.fallBack.beginSettling := by
      unfold State.alignExpires
      dsimp only
      rw [if_pos (show (u.stc.mapCorners fun k => if k.state ≠ .failed ∧ k.commanded ≠ 0 then k.fail .align
        else k).failedSet = u.stc.failedSet from same)]
      rfl
    rw [stands]
    rfl
  · refine .inr fun masked => ?_
    have raised : u.alignExpires = ((u.setStc c).steerNotice .failed).setStc
        ((u.setStc c).steerNotice .failed).stc.fallBack.beginSettling := by
      unfold State.alignExpires
      dsimp only
      rw [if_neg (show ¬(u.stc.mapCorners fun k => if k.state ≠ .failed ∧ k.commanded ≠ 0 then k.fail .align
        else k).failedSet = u.stc.failedSet from same)]
      rfl
    rw [failed, raised]
    exact State.noticed_of_link (s := (u.setStc c).steerNotice .failed) rfl (State.raise_noticed (u.setStc c) masked)

end Work

end Sys2Proof.Machine
end

section
/-! PROOF. The corners, the machine and the link after a frame of a steering machine (R97 to R106). -/
namespace Sys2Proof.Machine

section Frame
variable {s : State} (r : ServoReading)

/-! ## The record of step 6 -/

/-- What is left of a HELD corner's target is its commanded angle (R93). -/
theorem State.frameGoal_held (m : SteerMachine) {i : CornerId} (held : (s.frameCorner i).1 = .held) :
    s.frameGoal m i = (s.frameCorner i).2 := by
  unfold State.frameGoal
  cases i <;> simp [held]

/-- A corner stands through the count-down. -/
theorem State.countDown_stands (i : CornerId) :
    let b := (s.cornerAimed r i).countDown s.stc.mode s.link.held
    b.commanded = (s.frameCorner i).2 ∧ b.current = min 10000 (r.currents.get i) ∧
      (b.state = .active → b.target = s.frameGoal s.frameMachine.1 i) := by
  obtain ⟨-, start⟩ := State.cornerBegun_spec (s := s) i
  obtain ⟨-, -, -, -, commanded, -, -, -, current, target⟩ :=
    Corner.countDown_spec s.stc.mode s.link.held (s.cornerAimed r i)
  exact ⟨commanded.trans start, current, fun active => target (.inl active)⟩

/-- The commanded angle of a corner that slews, or stands (R94). -/
def State.slewnTo (s : State) (r : ServoReading) (i : CornerId) : Int :=
  let step : Int := slewFor s.ws (s.grant .steer)
  if s.ws.nat Item.cornerStallMa < min 10000 (r.currents.get i) then (s.frameCorner i).2
  else (s.frameCorner i).2 + max (-step) (min step (s.frameGoal s.frameMachine.1 i - (s.frameCorner i).2))

/-- An ACTIVE corner rests where it stands, fails, or goes on (R94, R97, R99). -/
theorem Corner.activeWork_cases (k : Corner) (w : WorkingSet) (step now : Nat) :
    let work := k.activeWork w step now
    work.state = .rest ∧ work.commanded = k.commanded ∨ work.state = .failed ∨
      work.state = .active ∧ work.commanded = k.slewn w step := by
  unfold Corner.activeWork
  dsimp only
  split
  · rename_i jams
    split
    · obtain ⟨stopped, -⟩ := Bool.and_eq_true_iff.mp jams.1
      exact .inl ⟨rfl, if_pos stopped⟩
    · exact .inr (.inl rfl)
  · split
    · exact .inr (.inl rfl)
    · exact .inr (.inr ⟨rfl, rfl⟩)

/-- The commanded angle after step 6, by the corner's state: an ACTIVE one slews, the others stand (R94, R97). -/
theorem State.cornerWork_commanded (i : CornerId) :
    ((s.cornerWork r i).state = .active → (s.cornerWork r i).commanded = s.slewnTo r i) ∧
      ((s.cornerWork r i).state = .rest → (s.cornerWork r i).commanded = (s.frameCorner i).2) ∧
      ((s.cornerWork r i).state = .held → (s.cornerWork r i).commanded = (s.frameCorner i).2) := by
  obtain ⟨commanded, current, target⟩ := State.countDown_stands (s := s) r i
  rw [State.cornerWork_eq]
  generalize (s.cornerAimed r i).countDown s.stc.mode s.link.held = b at commanded current target ⊢
  by_cases active : b.state = .active
  · rw [if_neg (not_not.mpr active)]
    have slewn : b.slewn s.ws (slewFor s.ws (s.grant .steer)) = s.slewnTo r i := by
      unfold Corner.slewn Corner.currentHeld State.slewnTo
      rw [commanded, current, target active]
      simp only [decide_eq_true_eq]
    obtain ⟨rest, still⟩ | failed | ⟨goes, moved⟩ :=
      b.activeWork_cases s.ws (slewFor s.ws (s.grant .steer)) (s.stc.frameNo + 1)
    · rw [rest]
      exact ⟨fun e => (by cases e), fun _ => still.trans commanded, fun e => by cases e⟩
    · rw [failed]
      exact ⟨fun e => (by cases e), fun e => (by cases e), fun e => by cases e⟩
    · rw [goes]
      exact ⟨fun _ => moved.trans slewn, fun e => (by cases e), fun e => by cases e⟩
  · rw [if_pos active]
    exact ⟨fun e => absurd e active, fun _ => commanded, fun _ => commanded⟩

/-- Without a load a corner that is HELD after step 6 was so before (R108, R109). -/
theorem State.cornerWork_held (free : s.link.held = false) {i : CornerId} (held : (s.cornerWork r i).state = .held) :
    (s.frameCorner i).1 = .held := by
  obtain ⟨begun, -⟩ := State.cornerBegun_spec (s := s) i
  obtain ⟨state, -⟩ := Corner.countDown_spec s.stc.mode s.link.held (s.cornerAimed r i)
  have begun : (s.cornerAimed r i).state = (s.frameCorner i).1 := begun
  rw [State.cornerWork_eq] at held
  rw [free, begun] at state
  rw [free] at held
  generalize (s.cornerAimed r i).countDown s.stc.mode false = b at state held
  split_ifs at held
  · have held : b.state = .held := held
    rw [state] at held
    split_ifs at held with stays ends
    · exact held
    · simp only [Bool.false_or, Bool.and_eq_true, decide_eq_true_eq] at ends
      exact ends.1.1
  · obtain ⟨rest, -⟩ | failed | ⟨goes, -⟩ := b.activeWork_cases s.ws (slewFor s.ws (s.grant .steer)) (s.stc.frameNo + 1)
    · rw [rest] at held; cases held
    · rw [failed] at held; cases held
    · rw [goes] at held; cases held

/-- A FAILED corner has no work. -/
theorem State.cornerWork_failed {i : CornerId} (failed : (s.stc.corners.get i).state = .failed) :
    (s.cornerWork r i).state = .failed := by
  obtain ⟨begun, -⟩ := State.cornerBegun_spec (s := s) i
  obtain ⟨state, -⟩ := Corner.countDown_spec s.stc.mode s.link.held (s.cornerAimed r i)
  have begun : (s.cornerAimed r i).state = .failed := begun.trans ((State.frameCorner_failed i).mpr failed)
  rw [State.cornerWork_eq]
  rw [begun] at state
  simp only [reduceCtorEq, decide_false, Bool.false_and, Bool.false_or, Bool.not_false, if_true] at state
  rw [if_pos (by rw [state]; simp)]
  exact state

/-- On arrival in STEADY step 6 changes no state: counts and timers have restarted (R91). -/
theorem State.cornerWork_arrives (arrives : s.stc.machine = .unpowered ∨ s.stc.machine = .centering) (i : CornerId) :
    (s.cornerWork r i).state = (s.frameCorner i).1 := by
  by_cases failed : (s.stc.corners.get i).state = .failed
  · rw [State.cornerWork_failed r failed, (State.frameCorner_failed i).mpr failed]
  · obtain ⟨begun, -⟩ := State.cornerBegun_spec (s := s) i
    have parks : s.parks i = true := by
      unfold State.parks
      rw [decide_eq_true failed]
      simpa using arrives
    obtain ⟨-, -, stalls₀, opens₀, clears₀, -⟩ := State.cornerBegun_counts (s := s) i
    obtain ⟨state, -, -, -, -, stalls, opens, -⟩ := Corner.countDown_spec s.stc.mode s.link.held (s.cornerAimed r i)
    have begun : (s.cornerAimed r i).state = (s.frameCorner i).1 := begun
    have stalls : ((s.cornerAimed r i).countDown s.stc.mode s.link.held).stallCount = 0 :=
      stalls.trans (stalls₀.trans (if_pos parks))
    have opens : ((s.cornerAimed r i).countDown s.stc.mode s.link.held).openCount = 0 :=
      opens.trans (opens₀.trans (if_pos parks))
    have clears : (s.cornerAimed r i).clearing = false := by rw [← Bool.false_and, ← Bool.not_true, ← parks]; exact clears₀
    have restless : (s.frameCorner i).1 ≠ .rest := by
      unfold State.frameCorner
      dsimp only
      rw [if_pos ⟨failed, arrives⟩]
      dsimp only
      split <;> simp
    rw [begun, clears] at state
    simp only [Bool.and_false, decide_eq_false restless, Bool.or_false, Bool.false_and, Bool.not_false, if_true] at state
    rw [State.cornerWork_eq]
    generalize (s.cornerAimed r i).countDown s.stc.mode s.link.held = b at state stalls opens ⊢
    rw [← state]
    split
    · rfl
    · rename_i active
      unfold Corner.activeWork
      rw [stalls, opens, not_not.mp active]
      simp

end Frame

end Sys2Proof.Machine
end

section
/-! PROOF. Steps 6, 7 and 8 of a frame of a steering machine, one after another (R97 to R106). -/
namespace Sys2Proof.Machine

/-- What `Corner.worked` reads of a corner. -/
theorem Corner.worked_of_aim {k : Corner} {x : CornerWork} (h : k.worked x) (a : Int) : (k.aim a).worked x := by
  unfold Corner.aim
  split
  · exact h
  · split <;> exact h

section Steps
variable (s : State) (r : ServoReading)

/-- The state after step 6. -/
def State.stepSix : State := (s.beginFrame r).workCorners

/-- The state after step 7. -/
def State.stepSeven : State := (s.stepSix r).settleFailures s.stc.failedSet

/-- A failure begins a transition at this frame (R101). -/
def State.forced : Prop := s.frameMachine.1 = .steady ∧ (s.frameSettled r).1 ≠ .steady

/-- The settle ends at this frame (R105). -/
def State.settleDone : Prop := s.frameMachine.1 = .settling ∧ s.ws.nat Item.settleMs ≤ min 500 (s.stc.settleMs + 10)

end Steps

section Sound
variable {s : State} (r : ServoReading) (h : s.SteeringSound) (steered : s.mdc.mode.steered)
  (still : s.stc.machine ≠ .search)
include h steered still

theorem State.beginFrame_still : (s.beginFrame r).stc.machine ≠ .search := by
  rw [(State.beginFrame_machine r h steered still).1]
  exact SteerMachine.ne_search_of_steers (State.frameMachine_sound h still).1

/-! ## Step 6 -/

theorem State.stepSix_gear :
    (s.stepSix r).stc.machine = s.frameMachine.1 ∧ (s.stepSix r).stc.pending = s.frameMachine.2.1 ∧
      (s.stepSix r).stc.mode = s.stc.mode ∧ (s.stepSix r).ws = s.ws ∧ (s.stepSix r).link.held = s.link.held ∧
      (s.frameMachine.1 = .settling → (s.stepSix r).stc.settleMs = s.stc.settleMs) := by
  obtain ⟨machine, pending, mode, -, settleMs⟩ := State.beginFrame_machine r h steered still
  obtain ⟨stc, ws, held⟩ := (s.beginFrame r).workCorners_gear (State.beginFrame_still r h steered still)
  unfold State.stepSix
  rw [stc, ws, held, State.beginFrame_held]
  exact ⟨machine, pending, mode, congrArg Sst.working (s.beginFrame_sst r), rfl, settleMs⟩

/-- Every corner's record after step 6, and its target (R93, R94, R97 to R99). -/
theorem State.stepSix_corner (i : CornerId) :
    let k := (s.stepSix r).stc.corners.get i
    k.worked (s.cornerWork r i) ∧ k.current = min 10000 (r.currents.get i) ∧
      (k.state = .active ∨ k.state = .rest → k.target = s.frameGoal s.frameMachine.1 i) := by
  obtain ⟨-, -, mode, -⟩ := State.beginFrame_machine r h steered still
  obtain ⟨handled, -⟩ := s.beginFrame_handled r
  obtain ⟨count, -, step⟩ := s.frameRead_gauges r
  have ws : (s.beginFrame r).ws = s.ws := congrArg Sst.working (s.beginFrame_sst r)
  have framed : (s.stepSix r).stc.corners.get i = (s.cornerAimed r i).frame s.ws s.stc.mode s.link.held
      (slewFor s.ws (s.grant .steer)) (s.stc.frameNo + 1) := by
    unfold State.stepSix
    rw [State.workCorners_corner _ (State.beginFrame_still r h steered still),
      State.beginFrame_corner r h steered still, State.framed, ws, mode, State.beginFrame_held,
      handled.slewStep, handled.frameNo, count, step]
  have recent : (s.cornerAimed r i).state ≠ .failed →
      recentStalls (s.stc.frameNo + 1) (s.cornerAimed r i).history = (s.cornerAimed r i).history := fun works => by
    obtain ⟨-, -, -, -, -, history⟩ := State.cornerBegun_counts (s := s) i
    have state : (s.cornerAimed r i).state = (s.frameCorner i).1 := (State.cornerBegun_spec i).1
    have history : (s.cornerAimed r i).history =
        recentStalls (s.stc.frameNo + 1) (s.stc.corners.get i).history :=
      history.trans (if_neg fun failed => works (state.trans ((State.frameCorner_failed i).mpr failed)))
    rw [history]
    simp [recentStalls, List.filter_filter]
  dsimp only
  rw [framed, State.cornerWork_eq]
  refine ⟨Corner.frame_worked _ _ _ _ _ _ recent, ?_, fun moves => Corner.frame_target _ _ _ _ _ _ moves⟩
  exact (Corner.frame_handled _ _ _ _ _ _).current

theorem State.stepSix_failedSet : (s.stepSix r).stc.failedSet = s.workFailed r := by
  refine PerCorner.ext_get fun i => ?_
  obtain ⟨⟨state, -⟩, -⟩ := State.stepSix_corner r h steered still i
  rw [Stc.failedSet_get, State.workFailed, PerCorner.get_ofFn, state]

theorem State.stepSix_tells : (s.beginFrame r).TellsFailures (s.stepSix r) :=
  State.workCorners_tells _ (State.beginFrame_still r h steered still)

omit steered still in
theorem State.stepSix_sound : (s.stepSix r).SteeringSound := (h.beginFrame r).workCorners

/-! ## Step 7 -/

/-- The machine, its target and the corners after step 7 (R101). -/
theorem State.stepSeven_machine :
    (s.stepSeven r).stc.machine = (s.frameSettled r).1 ∧ (s.stepSeven r).stc.pending = (s.frameSettled r).2 ∧
      (s.stepSeven r).stc.mode = s.stc.mode ∧
      (s.frameMachine.1 = .settling → (s.stepSeven r).stc.settleMs = s.stc.settleMs) ∧
      (s.forced r → ∀ i, (s.stepSeven r).stc.corners.get i = ((s.stepSix r).stc.corners.get i).aim 0) ∧
      (¬s.forced r → (s.stepSeven r).stc.corners = (s.stepSix r).stc.corners) := by
  obtain ⟨machine, pending, mode, -, -, settleMs⟩ := State.stepSix_gear r h steered still
  have failed := State.stepSix_failedSet r h steered still
  have steers := (State.frameMachine_sound h still).1
  unfold State.stepSeven State.settleFailures State.forced State.frameSettled
  rw [failed]
  dsimp only
  by_cases same : s.workFailed r = s.stc.failedSet
  · rw [if_pos same, if_pos same]
    exact ⟨machine, pending, mode, settleMs, fun forced => absurd forced.1 forced.2, fun _ => rfl⟩
  · rw [if_neg same, if_neg same]
    by_cases steady : s.frameMachine.1 = .steady
    · rw [if_pos steady]
      obtain ⟨stays, turns⟩ := Stc.settleFailure_steady (machine.trans steady)
      rw [failed, mode] at stays turns
      cases allowed : modeAllowed (s.workFailed r) s.stc.mode with
      | true =>
        rw [if_pos rfl, stays allowed]
        exact ⟨machine, pending, mode, settleMs, fun forced => absurd steady forced.2, fun _ => rfl⟩
      | false =>
        rw [turns allowed, if_neg (by simp)]
        exact ⟨rfl, rfl, mode, fun settling => absurd (steady.symm.trans settling) (by simp),
          fun _ i => Stc.aimStraight_get _ i, fun free => absurd ⟨steady, by simp⟩ free⟩
    · have turns : (s.stepSix r).stc.machine.turns := by
        rw [machine]
        exact steers.resolve_left steady
      rw [if_neg steady, Stc.settleFailure_turns turns, State.setStc_stc]
      refine ⟨(Stc.fallBack_machine _).trans machine, ?_, ?_, fun settling => ?_, fun forced => absurd forced.1 steady,
        fun _ => Stc.fallBack_corners _⟩
      · rw [Stc.fallBack_pending, failed, pending]
      · rw [Stc.fallBack_rest]
        exact mode
      · rw [Stc.fallBack_rest]
        exact settleMs settling

theorem State.stepSeven_link : (s.stepSeven r).link = (s.stepSix r).link ∧ (s.stepSeven r).ws = s.ws ∧
    (s.stepSeven r).link.held = s.link.held := by
  obtain ⟨-, -, -, ws, held, -⟩ := State.stepSix_gear r h steered still
  have link : (s.stepSeven r).link = (s.stepSix r).link := by
    unfold State.stepSeven State.settleFailures
    split <;> rfl
  exact ⟨link, (congrArg Sst.working (State.settleFailures_sst _ _)).trans ws, by rw [link]; exact held⟩

/-- Step 7 moves no corner but its target (R93). -/
theorem State.stepSeven_corner (i : CornerId) :
    let k := (s.stepSeven r).stc.corners.get i
    k.worked (s.cornerWork r i) ∧ k.current = min 10000 (r.currents.get i) ∧
      (k.state = .active ∨ k.state = .rest →
        (s.forced r → k.target = 0) ∧ (¬s.forced r → k.target = s.frameGoal s.frameMachine.1 i)) := by
  obtain ⟨worked, current, target⟩ := State.stepSix_corner r h steered still i
  obtain ⟨-, -, -, -, forced, free⟩ := State.stepSeven_machine r h steered still
  by_cases turns : s.forced r
  · rw [forced turns]
    refine ⟨Corner.worked_of_aim worked 0, (Corner.aim_handled _ 0).1.current.trans current, fun moves => ?_⟩
    refine ⟨fun _ => ?_, fun stays => absurd turns stays⟩
    rw [Corner.aim_state] at moves
    rw [Corner.aim_target, if_pos moves]
  · rw [free turns]
    exact ⟨worked, current, fun moves => ⟨fun e => absurd e turns, fun _ => target moves⟩⟩

omit steered still in
theorem State.stepSeven_sound : (s.stepSeven r).SteeringSound :=
  (State.stepSix_sound r h).settleFailures _

theorem State.frameWorked_eq : (s.beginFrame r).frameWorked = (s.stepSeven r).advanceMachine := by
  unfold State.frameWorked
  rw [State.beginFrame_failedSet r h steered still]
  rfl

omit steered in
theorem State.frameSettled_steers : (s.frameSettled r).1.steers := by
  have steers := (State.frameMachine_sound h still).1
  unfold State.frameSettled
  dsimp only
  split
  · exact steers
  · split
    · split
      · exact steers
      · exact .inr (.inl rfl)
    · exact steers

theorem State.stepSeven_tells : (s.beginFrame r).TellsFailures (s.stepSeven r) := by
  obtain ⟨link, -⟩ := State.stepSeven_link r h steered still
  have failed : (s.stepSeven r).stc.failedSet = (s.stepSix r).stc.failedSet := Stc.failedSet_eq fun i => by
    obtain ⟨⟨seven, -⟩, -⟩ := State.stepSeven_corner r h steered still i
    obtain ⟨⟨six, -⟩, -⟩ := State.stepSix_corner r h steered still i
    rw [seven, six]
  obtain ⟨same, stands⟩ | told := State.stepSix_tells r h steered still
  · exact .inl ⟨failed.trans same, link.trans stands⟩
  · exact .inr fun masked => State.noticed_of_link link (by rw [failed]; exact told masked)

end Sound

/-! ## Step 8 -/

section Advance
variable {u : State}

/-- A corner after step 8: as it was, failed by the align timer, or set by the mode adopted. -/
theorem State.advanceMachine_corner (u : State) (i : CornerId) :
    let k := u.stc.corners.get i
    let b := u.advanceMachine.stc.corners.get i
    let ends := u.stc.machine = .settling ∧ u.ws.nat Item.settleMs ≤ min 500 (u.stc.settleMs + 10)
    (¬ends → b = k ∨ u.stc.machine = .aligning ∧ b = k.expire) ∧
      (ends → b = k.adopt u.stc.mode (u.stc.pending.getD u.stc.mode) u.link.held) := by
  dsimp only
  by_cases turns : u.stc.machine.turns
  · obtain aligning | settling := turns
    · rw [State.advanceMachine_aligning aligning]
      refine ⟨fun _ => ?_, fun ends => absurd (aligning.symm.trans ends.1) (by simp)⟩
      split
      · exact .inl rfl
      · split
        · exact .inr ⟨aligning, State.alignExpires_corner _ i⟩
        · exact .inl rfl
    · rw [State.advanceMachine_settling settling]
      split
      · rename_i ends
        exact ⟨fun e => absurd ⟨settling, ends⟩ e, fun _ => Stc.mapCorners_get _ _ _⟩
      · rename_i goes
        exact ⟨fun _ => .inl rfl, fun ends => absurd ends.2 goes⟩
  · rw [State.advanceMachine_idle turns]
    exact ⟨fun _ => .inl rfl, fun ends => absurd (.inr ends.1) turns⟩

/-- The machine after step 8. -/
theorem State.advanceMachine_machine (u : State) :
    (u.stc.machine = .steady → u.advanceMachine.stc.machine = .steady) ∧
      (u.stc.machine = .aligning → u.advanceMachine.stc.machine = .aligning ∨ u.advanceMachine.stc.machine = .settling) ∧
      (u.stc.machine = .settling → u.advanceMachine.stc.machine = .settling ∨
        u.advanceMachine.stc.machine = .steady ∧ u.ws.nat Item.settleMs ≤ min 500 (u.stc.settleMs + 10)) ∧
      (u.stc.machine = .settling → u.ws.nat Item.settleMs ≤ min 500 (u.stc.settleMs + 10) →
        u.advanceMachine.stc.machine = .steady) := by
  refine ⟨fun steady => ?_, fun aligning => ?_, fun settling => ?_, fun settling ends => ?_⟩
  · rw [State.advanceMachine_idle (by simp [steady, SteerMachine.turns])]
    exact steady
  · rw [State.advanceMachine_aligning aligning]
    split
    · exact .inr rfl
    · split
      · exact .inr (State.alignExpires_machine _)
      · exact .inl aligning
  · rw [State.advanceMachine_settling settling]
    split
    · exact .inr ⟨rfl, ‹_›⟩
    · exact .inl settling
  · rw [State.advanceMachine_settling settling, if_pos ends]
    rfl

/-- Step 8 raises no other notice than that of failures, but at the end of a settle. -/
theorem State.advanceMachine_tells
    (goes : ¬(u.stc.machine = .settling ∧ u.ws.nat Item.settleMs ≤ min 500 (u.stc.settleMs + 10))) :
    u.TellsFailures u.advanceMachine := by
  by_cases turns : u.stc.machine.turns
  · obtain aligning | settling := turns
    · rw [State.advanceMachine_aligning aligning]
      split
      · exact .inl ⟨rfl, rfl⟩
      · split
        · exact State.alignExpires_tells (u.setStc { u.stc with alignMs := u.stc.nextAlignMs })
        · exact .inl ⟨rfl, rfl⟩
    · rw [State.advanceMachine_settling settling, if_neg fun ends => goes ⟨settling, ends⟩]
      exact .inl ⟨rfl, rfl⟩
  · rw [State.advanceMachine_idle turns]
    exact .inl ⟨rfl, rfl⟩

end Advance

/-- What the align timer's end, or a mode adopted, makes of a corner's record (R105, R106). -/
theorem Corner.expire_cases (k : Corner) :
    k.expire = k ∨ k.state ≠ .failed ∧ k.expire = k.fail .align := by
  unfold Corner.expire
  split
  · rename_i e
    exact .inr ⟨e.1, rfl⟩
  · exact .inl rfl

theorem Corner.adopt_cases (k : Corner) (rule : k.LoadRule) (old new : SteerMode) (loading : Bool) :
    k.adopt old new loading = k ∨
      k.state ≠ .failed ∧ (k.adopt old new loading = k.parkAt .held ∨
        k.state = .held ∧ k.adopt old new loading = k.activate loading) := by
  unfold Corner.adopt
  split
  · split
    · rename_i moves
      refine .inr ⟨fun failed => ?_, .inl rfl⟩
      rw [Bool.or_eq_true] at moves
      obtain follows | held := moves
      · simp [Corner.follows, failed] at follows
      · rw [rule held] at failed; cases failed
    · exact .inl rfl
  · split
    · rename_i held
      exact .inr ⟨by rw [held.2.1]; simp, .inr ⟨held.2.1, rfl⟩⟩
    · exact .inl rfl

end Sys2Proof.Machine
end

section
/-! PROOF. O34: what befalls a corner at a frame and at its own events (R97 to R101, R103, R108). -/
namespace Sys2Proof.Machine

/-! ## At a frame -/

section Frame
variable {s : State} (r : ServoReading)

/-- A frame, in a state with supply. -/
theorem exec_servoFrame (powered : s.powered = true) :
    exec (.servoFrame r) s = .next (s.beginFrame r).endFrame.holdAutoPark := by
  have acts : exec (.servoFrame r) s = act s fun u => (u.beginFrame r).endFrame := rfl
  rw [acts, act_powered powered]

/-- Steps 9 and 10 send nothing. -/
theorem State.endFrame_link (u : State) : u.endFrame.link = u.frameWorked.link := by
  rw [State.endFrame_eq]
  rfl

theorem Corner.fail_history (k : Corner) (why : FaultKind) : (k.fail why).history = k.history := rfl

/-- Step 8 keeps a corner's history. -/
theorem State.advanceMachine_history (u : State) (i : CornerId) :
    (u.advanceMachine.stc.corners.get i).history = (u.stc.corners.get i).history := by
  obtain ⟨goes, ends⟩ := u.advanceMachine_corner i
  by_cases settles : u.stc.machine = .settling ∧ u.ws.nat Item.settleMs ≤ min 500 (u.stc.settleMs + 10)
  · rw [ends settles]
    unfold Corner.adopt
    split
    · split <;> rfl
    · split
      · unfold Corner.activate
        split <;> rfl
      · rfl
  · obtain same | ⟨-, expires⟩ := goes settles
    · rw [same]
    · rw [expires]
      obtain same | ⟨-, fails⟩ := Corner.expire_cases (u.stc.corners.get i)
      · rw [same]
      · rw [fails]
        rfl

section Sound
variable (h : s.SteeringSound) (steered : s.mdc.mode.steered) (still : s.stc.machine ≠ .search)
include h steered still

/-- The settle that step 8 ends is the frame's. -/
theorem State.stepSeven_ends :
    (s.stepSeven r).stc.machine = .settling ∧
        (s.stepSeven r).ws.nat Item.settleMs ≤ min 500 ((s.stepSeven r).stc.settleMs + 10) ↔ s.settleDone := by
  obtain ⟨machine, -, -, settleMs, -⟩ := State.stepSeven_machine r h steered still
  obtain ⟨-, ws, -⟩ := State.stepSeven_link r h steered still
  have steers := (State.frameMachine_sound h still).1
  have settling : (s.frameSettled r).1 = .settling ↔ s.frameMachine.1 = .settling := by
    unfold State.frameSettled
    dsimp only
    split
    · rfl
    · split
      · rename_i steady
        split
        · rfl
        · simp [steady]
      · rfl
  unfold State.settleDone
  rw [machine, ws, settling]
  refine and_congr_right fun e => ?_
  rw [settleMs e]

/-- A corner's record when the frame ends. -/
theorem State.frame_corner (i : CornerId) :
    let work := s.cornerWork r i
    let b := (s.beginFrame r).endFrame.stc.corners.get i
    b.history = work.history ∧ (work.state = .failed → b.worked work) ∧
      (work.state ≠ .failed → b.state = .failed → b.fault = .align ∧ b.commanded = 0) ∧
      (¬s.settleDone → b.state ≠ .failed → b.worked work) := by
  obtain ⟨worked, -⟩ := State.stepSeven_corner r h steered still i
  have rule := (State.stepSeven_sound r h).loadHeld i
  have history := State.advanceMachine_history (s.stepSeven r) i
  obtain ⟨goes, ends⟩ := State.advanceMachine_corner (s.stepSeven r) i
  have done := State.stepSeven_ends r h steered still
  dsimp only
  rw [State.endFrame_corner, State.frameWorked_eq r h steered still]
  rw [done] at goes ends
  generalize (s.stepSeven r).advanceMachine.stc.corners.get i = b at history goes ends ⊢
  generalize (s.stepSeven r).stc.corners.get i = k at worked rule history goes ends
  have failed : k.state = .failed ↔ (s.cornerWork r i).state = .failed := by rw [worked.1]
  refine ⟨history.trans worked.2.2.2.2.2.2.2, ?_⟩
  by_cases settles : s.settleDone
  · rw [ends settles]
    refine ⟨fun e => ?_, fun e fails => ?_, fun e => absurd settles e⟩
    · obtain same | ⟨works, -⟩ := Corner.adopt_cases k rule (s.stepSeven r).stc.mode
        ((s.stepSeven r).stc.pending.getD (s.stepSeven r).stc.mode) (s.stepSeven r).link.held
      · rw [same]
        exact worked
      · exact absurd (failed.mpr e) works
    · have fails : (k.adopt (s.stepSeven r).stc.mode ((s.stepSeven r).stc.pending.getD (s.stepSeven r).stc.mode)
          (s.stepSeven r).link.held).state = .failed := fails
      obtain same | ⟨-, parks | ⟨-, goes⟩⟩ := Corner.adopt_cases k rule (s.stepSeven r).stc.mode
        ((s.stepSeven r).stc.pending.getD (s.stepSeven r).stc.mode) (s.stepSeven r).link.held
      · rw [same] at fails
        exact absurd (failed.mp fails) e
      · rw [parks] at fails; cases fails
      · rw [goes, (Corner.activate_spec k _).1] at fails
        split at fails <;> cases fails
  · obtain same | ⟨-, expires⟩ := goes settles
    · rw [same]
      exact ⟨fun _ => worked, fun e fails => absurd (failed.mp fails) e, fun _ _ => worked⟩
    · obtain same | ⟨works, fails⟩ := Corner.expire_cases k
      · rw [expires, same]
        exact ⟨fun _ => worked, fun e fails => absurd (failed.mp fails) e, fun _ _ => worked⟩
      · rw [expires, fails]
        exact ⟨fun e => absurd (failed.mpr e) works, fun _ _ => ⟨rfl, rfl⟩, fun _ e => absurd rfl e⟩

/-- A failure at a frame is told of (R100). -/
theorem State.frame_tells (goes : ¬s.settleDone) : (s.beginFrame r).TellsFailures (s.beginFrame r).endFrame := by
  obtain ⟨-, -, mode, -⟩ := State.stepSeven_machine r h steered still
  obtain ⟨-, ws, -⟩ := State.stepSeven_link r h steered still
  obtain ⟨-, -, begun, -⟩ := State.beginFrame_machine r h steered still
  have worked : (s.beginFrame r).TellsFailures (s.beginFrame r).frameWorked := by
    rw [State.frameWorked_eq r h steered still]
    refine State.TellsFailures.trans (State.stepSeven_tells r h steered still) (mode.trans begun.symm)
      (ws.trans (congrArg Sst.working (s.beginFrame_sst r)).symm) (State.advanceMachine_tells fun ends => goes ?_)
    exact (State.stepSeven_ends r h steered still).mp ends
  have failed : (s.beginFrame r).endFrame.stc.failedSet = (s.beginFrame r).frameWorked.stc.failedSet :=
    Stc.failedSet_eq fun i => by rw [State.endFrame_corner]
  obtain ⟨same, link⟩ | told := worked
  · exact .inl ⟨failed.trans same, (State.endFrame_link _).trans link⟩
  · exact .inr fun masked => State.noticed_of_link (State.endFrame_link _) (by rw [failed]; exact told masked)

end Sound

end Frame

/-! ## At a corner's own events -/

section Events
variable {s : State}

theorem Stc.settleIfAligned_spec (c : Stc) :
    let d := c.settleIfAligned
    d.corners = c.corners ∧ d.mode = c.mode ∧ d.pending = c.pending ∧ (c.machine ≠ .aligning → d = c) ∧
      (c.machine = .aligning → (c.aligned = true → d.machine = .settling) ∧ (c.aligned ≠ true → d.machine = .aligning)) := by
  unfold Stc.settleIfAligned
  dsimp only
  split
  · rename_i e
    exact ⟨rfl, rfl, rfl, fun turns => absurd e.1 turns, fun _ => ⟨fun _ => rfl, fun crooked => absurd e.2 crooked⟩⟩
  · rename_i e
    exact ⟨rfl, rfl, rfl, fun _ => rfl, fun turns => ⟨fun straight => absurd ⟨turns, straight⟩ e, fun _ => turns⟩⟩

/-- A corner's failure outside a frame: its notice, and the machine that follows (R100, R101, R103). -/
theorem State.putCorner_followsFailure {i : CornerId} {k : Corner} (works : (s.stc.corners.get i).state ≠ .failed)
    (fails : k.state = .failed) : s.followsFailure ((s.putCorner i k).afterCorner s.stc.failedSet) := by
  let p := s.putCorner i k
  have gear : p.stc = s.stc.put i k := s.putCorner_stc i k
  have mode : p.stc.mode = s.stc.mode := by rw [gear]; rfl
  have machine : p.stc.machine = s.stc.machine := by rw [gear]; rfl
  have pending : p.stc.pending = s.stc.pending := by rw [gear]; rfl
  have settleMs : p.stc.settleMs = s.stc.settleMs := by rw [gear]; rfl
  have moved : p.stc.failedSet ≠ s.stc.failedSet := fun same => by
    have own := congrArg (fun f => PerCorner.get f i) same
    simp only [Stc.failedSet_get, p, State.putCorner_own, fails, decide_true] at own
    exact works (of_decide_eq_true own.symm)
  have told : s.ws.notices .steer = true → p.noticed (.steer ⟨.failed, s.stc.mode, p.stc.failedSet⟩) := by
    obtain ⟨same, -⟩ | told := State.putCorner_tells s (i := i) (k := k) fun _ => fails
    · exact absurd same moved
    · exact told
  have after : p.afterCorner s.stc.failedSet = p.setStc p.stc.settleFailure.settleIfAligned := by
    unfold State.afterCorner State.settleFailures
    rw [if_neg moved]
    rfl
  have failed : (p.stc.settleFailure.settleIfAligned).failedSet = p.stc.failedSet := Stc.failedSet_eq fun j => by
    rw [(Stc.settleIfAligned_spec _).1]
    unfold Stc.settleFailure
    split
    · split
      · rfl
      · rw [Stc.aimStraight_get, Corner.aim_state]
        rfl
    · rw [Stc.fallBack_corners]
    · rw [Stc.fallBack_corners]
    · rfl
  have noticed (masked : s.ws.notices .steer = true) :
      (p.setStc p.stc.settleFailure.settleIfAligned).noticed (.steer ⟨.failed, s.stc.mode, p.stc.failedSet⟩) :=
    State.noticed_of_link rfl (told masked)
  have straight : (p.setStc p.stc.settleFailure.settleIfAligned).straight ↔ p.stc.settleFailure.aligned = true := by
    rw [Stc.aligned_iff, State.straight, State.setStc_stc, (Stc.settleIfAligned_spec _).1]
  change s.followsFailure (p.afterCorner s.stc.failedSet)
  rw [after]
  unfold State.followsFailure
  dsimp only
  rw [straight, State.setStc_stc, failed]
  obtain ⟨-, mode', pending', stays, turns⟩ := p.stc.settleFailure.settleIfAligned_spec
  by_cases steady : s.stc.machine = .steady
  · obtain ⟨allowed, refused⟩ := Stc.settleFailure_steady (machine.trans steady)
    rw [mode] at allowed refused
    cases fits : modeAllowed p.stc.failedSet s.stc.mode with
    | true =>
      rw [allowed fits] at mode' stays ⊢
      have stands := stays (by rw [machine, steady]; simp)
      rw [stands]
      exact ⟨mode, noticed, fun _ _ => ⟨machine.trans steady, pending⟩, fun _ e => (by cases e),
        fun _ e => absurd e (by simp [steady]), fun e => absurd e (by simp [steady]), fun e => absurd e (by simp [steady])⟩
    | false =>
      rw [refused fits] at mode' pending' turns ⊢
      obtain ⟨settles, aligns⟩ := turns rfl
      exact ⟨mode'.trans mode, noticed, fun _ e => (by cases e), fun _ _ => ⟨pending', settles, aligns⟩,
        fun _ e => absurd e (by simp [steady]), fun e => absurd e (by simp [steady]), fun e => absurd e (by simp [steady])⟩
  · by_cases turning : s.stc.machine.turns
    · rw [Stc.settleFailure_turns (machine ▸ turning)] at mode' pending' stays turns ⊢
      have replaced := p.stc.fallBack_pending
      have same : p.stc.fallBack.mode = s.stc.mode := by rw [Stc.fallBack_rest]; exact mode
      refine ⟨mode'.trans same, noticed, fun e => absurd e steady, fun e => absurd e steady, fun m _ waits => ?_,
        fun aligning => ?_, fun settling => ?_⟩
      · rw [pending', replaced, pending, waits]
        rfl
      · obtain ⟨settles, aligns⟩ := turns ((Stc.fallBack_machine _).trans (machine.trans aligning))
        by_cases straight : p.stc.fallBack.aligned = true
        · exact .inr ⟨straight, settles straight⟩
        · exact .inl (aligns straight)
      · have stands := stays (by rw [Stc.fallBack_machine, machine, settling]; simp)
        rw [stands, Stc.fallBack_machine, Stc.fallBack_rest]
        exact ⟨machine.trans settling, settleMs⟩
    · have idle : p.stc.settleFailure = p.stc := by
        unfold Stc.settleFailure
        rw [← machine] at steady turning
        split
        · rename_i e; exact absurd e steady
        · rename_i e; exact absurd (.inl e) turning
        · rename_i e; exact absurd (.inr e) turning
        · rfl
      rw [idle] at mode' ⊢
      exact ⟨mode'.trans mode, noticed, fun e => absurd e steady, fun e => absurd e steady,
        fun _ e => absurd e turning, fun e => absurd (.inl e) turning, fun e => absurd (.inr e) turning⟩

/-- After a failure the corner stands as the event left it, but for its target. -/
theorem State.afterCorner_corner (u : State) (b : PerCorner Bool) (i : CornerId) :
    (u.afterCorner b).stc.corners.get i = u.stc.corners.get i ∨
      (u.afterCorner b).stc.corners.get i = (u.stc.corners.get i).aim 0 := by
  unfold State.afterCorner State.settleFailures
  dsimp only
  rw [State.setStc_stc, (Stc.settleIfAligned_spec _).1]
  split
  · exact .inl rfl
  · unfold Stc.settleFailure
    rw [State.setStc_stc]
    split
    · split
      · exact .inl rfl
      · exact .inr (Stc.aimStraight_get _ i)
    · exact .inl (by rw [Stc.fallBack_corners])
    · exact .inl (by rw [Stc.fallBack_corners])
    · exact .inl rfl

theorem State.afterCorner_failed (u : State) (b : PerCorner Bool) {i : CornerId}
    (failed : (u.stc.corners.get i).state = .failed) (zero : (u.stc.corners.get i).target = 0) :
    (u.afterCorner b).stc.corners.get i = u.stc.corners.get i := by
  obtain same | aimed := u.afterCorner_corner b i
  · exact same
  · rw [aimed]
    generalize u.stc.corners.get i = k at failed zero
    simp only [Corner.aim, Corner.follows, failed]
    cases k
    simp_all

/-- A record that is not FAILED, in place of one that is not, raises no notice. -/
theorem State.putCorner_quiet {i : CornerId} {k : Corner} (works : k.state ≠ .failed) :
    s.putCorner i k = s.setStc (s.stc.put i k) := if_neg fun e => works e.1

/-! ## One event after another -/

theorem State.afterCorner_mdc (u : State) (b : PerCorner Bool) : (u.afterCorner b).mdc = u.mdc := by
  unfold State.afterCorner State.settleFailures
  dsimp only
  split <;> rfl

theorem State.putCorner_mdc (i : CornerId) (k : Corner) : (s.putCorner i k).mdc = s.mdc := by
  unfold State.putCorner
  dsimp only
  split <;> rfl

/-- A stall or an open count at its end moves steering alone, and tells of a failure. -/
theorem State.cornerEvent_changes {i : CornerId} (k : Corner) :
    s.changesOnly ((s.putCorner i k).afterCorner s.stc.failedSet).holdAutoPark [.output, .stc] :=
  State.changesOnly_held (State.changesOnly_trans (s.putCorner_changes i k)
    (State.changesOnly_mono (State.afterCorner_changes _ _) (by simp)))
    ((State.afterCorner_mdc _ _).trans (State.putCorner_mdc _ _))

/-- A corner's record that is replaced without a failure. -/
theorem State.putCorner_spec {i : CornerId} {k : Corner} (works : k.state ≠ .failed) :
    let t := (s.putCorner i k).holdAutoPark
    t.stc.corners.get i = k ∧ (∀ j, j ≠ i → t.stc.corners.get j = s.stc.corners.get j) ∧ s.changesOnly t [.stc] := by
  intro t
  have stc : t.stc = s.stc.put i k := (State.holdAutoPark_stc _).trans (State.putCorner_stc s i k)
  rw [stc]
  refine ⟨Stc.put_get_self _ _ _, fun j other => Stc.put_get_other _ _ other, State.changesOnly_held ?_ ?_⟩
  · rw [State.putCorner_quiet works]
    exact s.setStc_changes _
  · exact State.putCorner_mdc _ _

theorem State.followsFailure_parked {t : State} (follows : s.followsFailure t) : s.followsFailure t.holdAutoPark := by
  obtain ⟨mode, told, rest⟩ := follows
  unfold State.followsFailure State.straight
  rw [State.holdAutoPark_stc]
  exact ⟨mode, fun masked => State.noticed_of_link (State.holdAutoPark_link _) (told masked), rest⟩

/-- A corner that fails at its own event (R99, R100). -/
theorem State.failed_spec {i : CornerId} {k : Corner} {why : FaultKind}
    (works : (s.stc.corners.get i).state ≠ .failed) (fails : k.state = .failed) (target : k.target = 0)
    (fault : k.fault = why) (zero : k.commanded = 0) :
    let t := ((s.putCorner i k).afterCorner s.stc.failedSet).holdAutoPark
    (t.stc.corners.get i).state = .failed ∧ (t.stc.corners.get i).fault = why ∧
      (t.stc.corners.get i).commanded = 0 ∧ s.followsFailure t := by
  intro t
  have own : t.stc.corners.get i = k := by
    rw [State.holdAutoPark_stc, State.afterCorner_failed _ _ (by rw [State.putCorner_own]; exact fails)
      (by rw [State.putCorner_own]; exact target), State.putCorner_own]
  rw [own]
  exact ⟨fails, fault, zero, State.followsFailure_parked (State.putCorner_followsFailure works fails)⟩

/-- A third stall within 10 s fails the corner (R98). -/
theorem Corner.stall_fails {k : Corner} (now : Nat) (many : 2 ≤ (recentStalls now k.history).length) :
    ((k.stall now).state = .failed ∧ (k.stall now).target = 0) ∧ (k.stall now).fault = .stall ∧
      (k.stall now).stateTimer = 0 ∧ (k.stall now).commanded = 0 := by
  unfold Corner.stall
  dsimp only
  rw [List.length_append, List.length_singleton, if_neg (by omega)]
  exact ⟨⟨rfl, rfl⟩, rfl, rfl, rfl⟩

/-- A stall with fewer than two recent ones rests the corner where it stands (R97). -/
theorem Corner.stall_rests {k : Corner} (now : Nat) (few : (recentStalls now k.history).length < 2) :
    (k.stall now).state = .rest ∧ (k.stall now).stateTimer = 500 ∧ (k.stall now).stallCount = 0 ∧
      (k.stall now).commanded = k.commanded := by
  unfold Corner.stall
  dsimp only
  rw [List.length_append, List.length_singleton, if_pos (by omega)]
  exact ⟨rfl, rfl, rfl, rfl⟩

/-- An aim leaves what a rest is told by. -/
theorem Corner.aim_rest (k : Corner) (a : Int) :
    (k.aim a).stateTimer = k.stateTimer ∧ (k.aim a).stallCount = k.stallCount := by
  unfold Corner.aim
  split
  · exact ⟨rfl, rfl⟩
  · split <;> exact ⟨rfl, rfl⟩

/-- CORNER_STALL where the corner rests (R97). -/
theorem State.stallRests_spec {i : CornerId}
    (few : (recentStalls s.stc.frameNo (s.stc.corners.get i).history).length < 2) :
    let t := ((s.putCorner i ((s.stc.corners.get i).stall s.stc.frameNo)).afterCorner s.stc.failedSet).holdAutoPark
    (t.stc.corners.get i).state = .rest ∧ (t.stc.corners.get i).stateTimer = 500 ∧
      (t.stc.corners.get i).stallCount = 0 ∧
      (t.stc.corners.get i).commanded = (s.stc.corners.get i).commanded ∧ s.changesOnly t [.stc] := by
  intro t
  obtain ⟨rest, timer, stalls, commanded⟩ := Corner.stall_rests s.stc.frameNo few
  have own := s.putCorner_own i ((s.stc.corners.get i).stall s.stc.frameNo)
  have changes : s.changesOnly t [.stc] := by
    refine State.changesOnly_held ?_ ((State.afterCorner_mdc _ _).trans (State.putCorner_mdc _ _))
    rw [State.putCorner_quiet (by rw [rest]; simp)]
    exact State.changesOnly_trans (s.setStc_changes _) (State.afterCorner_changes _ _)
  have corner : (t.stc.corners.get i).state = .rest ∧ (t.stc.corners.get i).stateTimer = 500 ∧
      (t.stc.corners.get i).stallCount = 0 ∧
      (t.stc.corners.get i).commanded = (s.stc.corners.get i).commanded := by
    rw [State.holdAutoPark_stc]
    obtain same | aimed := State.afterCorner_corner
      (s.putCorner i ((s.stc.corners.get i).stall s.stc.frameNo)) s.stc.failedSet i
    · rw [same, own]
      exact ⟨rest, timer, stalls, commanded⟩
    · rw [aimed, own, Corner.aim_state, Corner.aim_commanded, (Corner.aim_rest _ 0).1, (Corner.aim_rest _ 0).2]
      exact ⟨rest, timer, stalls, commanded⟩
  obtain ⟨state, time, count, angle⟩ := corner
  exact ⟨state, time, count, angle, changes⟩

/-- A clearing hold that ends without a load (R108). -/
theorem Corner.endClearing_spec {k : Corner} (held : k.state = .held) (m : SteerMode) :
    (k.endClearing m false).state = (if m = .none then .held else .active) ∧
      (k.endClearing m false).clearing = false := by
  unfold Corner.endClearing
  split
  · exact ⟨held, rfl⟩
  · exact ⟨rfl, rfl⟩

end Events

/-- Settles O34, the frame by its steps, each event by its corner's record. -/
theorem cornerEventsRestFailAndReturn : Obligations.CornerEventsRestFailAndReturn := by
  intro s i powered
  refine ⟨fun r h steered still => ⟨_, exec_servoFrame r powered, ?_⟩, fun active full => ?_, fun active full => ?_,
    fun rests out free => ?_, fun held clears out free => ?_⟩
  · obtain ⟨history, failed, aligned, worked⟩ := State.frame_corner r h steered still i
    dsimp only
    rw [State.holdAutoPark_stc]
    refine ⟨history, failed, aligned, worked, fun works fails goes masked => ?_⟩
    refine State.noticed_of_link (State.holdAutoPark_link _) ?_
    obtain ⟨-, -, mode, -⟩ := State.beginFrame_machine r h steered still
    obtain ⟨same, -⟩ | told := State.frame_tells r h steered still goes
    · have own := congrArg (fun f => PerCorner.get f i) same
      rw [State.beginFrame_failedSet r h steered still] at own
      simp only [Stc.failedSet_get, (failed fails).1.trans fails, decide_true] at own
      exact absurd (of_decide_eq_true own.symm) works
    · rw [← mode]
      exact told (by rw [State.ws, s.beginFrame_sst]; exact masked)
  · have acts : exec (.cornerStall i) s = act s fun u =>
        if (u.stc.corners.get i).state = .active ∧ 30 ≤ (u.stc.corners.get i).stallCount + 1 then
          (u.putCorner i ((u.stc.corners.get i).stall u.stc.frameNo)).afterCorner u.stc.failedSet
        else u := rfl
    rw [acts, act_powered powered, if_pos ⟨active, by omega⟩]
    refine ⟨_, rfl, fun few => ?_, fun many => ?_, State.cornerEvent_changes _⟩
    · exact State.stallRests_spec few
    · obtain ⟨failed, fault, -, zero⟩ := Corner.stall_fails s.stc.frameNo many
      exact State.failed_spec (by rw [active]; simp) failed.1 failed.2 fault zero
  · have acts : exec (.cornerOpen i) s = act s fun u =>
        if (u.stc.corners.get i).state = .active ∧ 20 ≤ (u.stc.corners.get i).openCount + 1 then
          (u.putCorner i ((u.stc.corners.get i).fail .open)).afterCorner u.stc.failedSet
        else u := rfl
    rw [acts, act_powered powered, if_pos ⟨active, by omega⟩]
    obtain ⟨state, fault, zero, follows⟩ := State.failed_spec (s := s) (i := i)
      (k := (s.stc.corners.get i).fail .open) (by rw [active]; simp) rfl rfl rfl rfl
    refine ⟨_, rfl, state, fault, ?_, zero, follows, State.cornerEvent_changes _⟩
    rw [State.holdAutoPark_stc, State.afterCorner_failed _ _ (by rw [State.putCorner_own]; rfl)
      (by rw [State.putCorner_own]; rfl), State.putCorner_own]
    rfl
  · have acts : exec (.restEnd i) s = act s fun u =>
        if (u.stc.corners.get i).state = .rest ∧ (u.stc.corners.get i).stateTimer ≤ 10 then
          u.putCorner i ((u.stc.corners.get i).activate u.link.held)
        else u := rfl
    rw [acts, act_powered powered, if_pos ⟨rests, out⟩, free]
    obtain ⟨own, others, changes⟩ := State.putCorner_spec (s := s) (i := i)
      (k := (s.stc.corners.get i).activate false) (by simp [Corner.activate])
    exact ⟨_, rfl, by rw [own]; rfl, by rw [own]; rfl, others, changes⟩
  · have acts : exec (.clearingHoldEnd i) s = act s fun u =>
        if (u.stc.corners.get i).state = .held ∧ (u.stc.corners.get i).clearing ∧
            (u.stc.corners.get i).stateTimer ≤ 10 then
          u.putCorner i ((u.stc.corners.get i).endClearing u.stc.mode u.link.held)
        else u := rfl
    rw [acts, act_powered powered, if_pos ⟨held, clears, out⟩, free]
    obtain ⟨state, ended⟩ := Corner.endClearing_spec (k := s.stc.corners.get i) held s.stc.mode
    obtain ⟨own, others, changes⟩ := State.putCorner_spec (s := s) (i := i)
      (k := (s.stc.corners.get i).endClearing s.stc.mode false) (by rw [state]; split <;> simp)
    exact ⟨_, rfl, by rw [own]; exact state, by rw [own]; exact ended, others, changes⟩

end Sys2Proof.Machine
end

section
/-! PROOF. O33: a servo frame counts, reads, follows the vehicle mode, aims, slews, wishes and pulses (R89 to R96, R110). -/
namespace Sys2Proof.Machine

/-! ## Every frame -/

section Every
variable (s : State) (r : ServoReading)

/-- Holding the auto-park timer changes nothing that a frame tells apart (R41), its own value being none of it. -/
theorem State.changesOnly_act {t : State} {parts : List Part} (h : s.changesOnly t parts) :
    s.changesOnly t.holdAutoPark parts := by
  by_cases timers : Part.timers ∈ parts
  · exact State.changesOnly_parked h timers
  · have same : t.mdc = { s.mdc with mode := t.mdc.mode, autoParkMs := t.mdc.autoParkMs } := h.2.2.2 .timers timers
    refine ⟨by simp [h.1], by simp [h.2.1], by simp [h.2.2.1], fun p hp => ?_⟩
    have stands := h.2.2.2 p hp
    cases p
    case timers =>
      change t.holdAutoPark.mdc =
        { s.mdc with mode := t.holdAutoPark.mdc.mode, autoParkMs := t.holdAutoPark.mdc.autoParkMs }
      rw [State.holdAutoPark_mdc, same]
    all_goals simpa [State.sameIn] using stands

theorem State.holdAutoPark_ws (t : State) : t.holdAutoPark.ws = t.ws := congrArg Sst.working (State.holdAutoPark_sst t)

/-- The gauges of a frame stand when it ends. -/
theorem State.servoFrame_handled : (s.frameRead r).stc.Handled (s.beginFrame r).endFrame.stc :=
  (s.beginFrame_handled r).1.trans (State.endFrame_handled _)

theorem Corner.pulseFor_eq (k : Corner) (trim : Int) :
    k.pulseFor trim = if k.state = .unpowered ∨ k.state = .failed then none else some (1500 + trim + k.commanded) := by
  unfold Corner.pulseFor
  cases state : k.state <;> simp

/-- The readings, the pulse and R93's targets after a frame. -/
theorem State.servoFrame_corner (i : CornerId) :
    let b := (s.beginFrame r).endFrame.stc.corners.get i
    b.current = min 10000 (r.currents.get i) ∧ b.prevSense = r.senses.get i ∧ b.sense = s.frameSense r i ∧
      b.pulse = (if b.state = .unpowered ∨ b.state = .failed then none
        else some (1500 + (s.beginFrame r).endFrame.ws.trim i + b.commanded)) ∧ b.Aimed := by
  obtain ⟨current, sense, prevSense, -⟩ := (s.servoFrame_handled r).corners i
  obtain ⟨read, readPrev, readSense⟩ := s.frameRead_readings r i
  have aimed := ((State.endFrame_handled (s.beginFrame r)).corners i).aimed ((s.beginFrame_handled r).2 i)
  refine ⟨current.trans read, prevSense.trans readPrev, sense.trans readSense, ?_, aimed⟩
  rw [State.endFrame_corner]
  exact Corner.pulseFor_eq _ _

/-- STARVED and the slew step follow the steering grant (R94, R95). -/
theorem State.servoFrame_gauges :
    let c := (s.beginFrame r).endFrame.stc
    c.frameNo = s.stc.frameNo + 1 ∧ c.starved = decide (s.grant .steer < s.ws.nat Item.floorSteerMa) ∧
      c.slewStep = slewFor s.ws (s.grant .steer) := by
  obtain ⟨frameNo, starved, slewStep, -⟩ := s.servoFrame_handled r
  obtain ⟨count, short, step⟩ := s.frameRead_gauges r
  exact ⟨frameNo.trans count, starved.trans short, slewStep.trans step⟩

theorem slewFor_eq (w : WorkingSet) (grant : Nat) :
    slewFor w grant = if decide (grant < w.nat Item.floorSteerMa) then 0
      else max 1 (min (w.nat Item.steerSlew) (w.nat Item.steerSlew * grant / w.nat Item.baseSteerMa)) := rfl

/-- Step 1 leaves a search in READY and RUN (R122). -/
theorem State.followMode_search {u : State} (search : u.stc.machine = .search)
    (mode : u.mdc.mode = .ready ∨ u.mdc.mode = .run) : u.followMode = u := by
  have stays : u.abortOnMode = u := by
    unfold State.abortOnMode
    rw [if_neg]
    rintro ⟨-, ready, run⟩
    exact mode.elim ready run
  have other : ¬(u.stc.machine = .unpowered ∨ u.stc.machine = .centering) := by simp [search]
  unfold State.followMode
  rw [stays]
  dsimp only
  obtain mode | mode := mode <;> rw [mode] <;> exact if_neg other

/-- A frame that ends outside STEADY and ALIGNING leaves no wish (R96). -/
theorem State.servoFrame_wish_idle (steady : (s.beginFrame r).endFrame.stc.machine ≠ .steady)
    (aligning : (s.beginFrame r).endFrame.stc.machine ≠ .aligning) :
    (s.beginFrame r).endFrame.cau.records.steer.wish = false := by
  have machine : (s.beginFrame r).endFrame.stc.machine = (s.beginFrame r).frameWorked.stc.machine := by
    rw [State.endFrame_stc]
  rw [machine] at steady aligning
  rw [State.servoFrame_cau]
  exact State.steerWish_of_idle steady aligning _

end Every

/-! ## Frames in the other modes -/

section Still
variable {s : State} (r : ServoReading) (idle : ¬s.mdc.mode.steered)
include idle

theorem State.servoFrame_still_machine :
    (s.beginFrame r).endFrame.stc.machine = s.mdc.mode.stillMachine ∧
      (s.beginFrame r).endFrame.intent = s.intent ∧ (s.beginFrame r).frameWorked = s.beginFrame r := by
  obtain ⟨machine, -⟩ := State.beginFrame_still_machine r idle
  obtain ⟨unsteered, still⟩ := s.mdc.mode.stillMachine_idle
  have rests (i : CornerId) : ((s.beginFrame r).stc.corners.get i).Rests := by
    obtain ⟨⟨active, rest, held⟩, -⟩ := Corner.still_rests (k := s.frameCounted.abortOnMode.stc.corners.get i) s.mdc.mode
    rw [State.beginFrame_still_corner r idle]
    split
    · refine ⟨by rw [Corner.aim_state]; exact active, by rw [Corner.aim_state]; exact rest, fun e => ?_⟩
      rw [Corner.aim_state] at e
      unfold Corner.aim
      split
      · exact held e
      · split <;> exact held e
    · exact ⟨active, rest, held⟩
  have worked := State.frameWorked_still (u := s.beginFrame r) (by rw [machine]; exact still) rests
  refine ⟨?_, ?_, worked⟩
  · rw [State.endFrame_stc, worked]
    exact machine
  · rw [State.servoFrame_intent, State.followMode_still (s := s.frameCounted) idle]
    exact if_neg unsteered

/-- A corner's record after such a frame (R91). -/
theorem State.servoFrame_still_corner (i : CornerId) :
    let a := s.stc.corners.get i
    let b := (s.beginFrame r).endFrame.stc.corners.get i
    (a.state = .failed → b.state = .failed) ∧
      (a.state ≠ .failed → s.mdc.mode = .centering → b.state = .held ∧ b.target = 0 ∧ b.commanded = 0 ∧
        b.stateTimer = 0 ∧ b.stallCount = 0 ∧ b.openCount = 0 ∧ b.clearing = false) ∧
      (a.state ≠ .failed → s.mdc.mode ≠ .centering → b.state = .unpowered ∧ b.stateTimer = 0 ∧
        (s.tse.running = false → b.commanded = a.commanded)) := by
  obtain ⟨-, -, worked⟩ := State.servoFrame_still_machine r idle
  have aged := s.frameCounted_corner i
  have aborted := State.abortOnMode_corner (s := s.frameCounted) i
  rw [aged] at aborted
  dsimp only
  rw [State.endFrame_corner, worked, State.beginFrame_still_corner r idle]
  have failed : (s.frameCounted.abortOnMode.stc.corners.get i).state = .failed ↔
      (s.stc.corners.get i).state = .failed := by
    rw [← Corner.age_state (s.stc.corners.get i) (s.stc.frameNo + 1)]
    obtain same | ⟨-, steady⟩ := aborted
    · rw [same]
    · rw [steady]
      by_cases failed : ((s.stc.corners.get i).age (s.stc.frameNo + 1)).state = .failed
      · rw [Corner.steady, if_pos failed]
      · rw [(Corner.steady_spec failed _ _).1]
        refine iff_of_false ?_ failed
        split <;> simp
  have angle : s.tse.running = false →
      (s.frameCounted.abortOnMode.stc.corners.get i).commanded = (s.stc.corners.get i).commanded := fun stopped => by
    obtain same | ⟨runs, -⟩ := aborted
    · rw [same, Corner.age_commanded]
    · exact absurd (runs.symm.trans stopped) (by simp)
  generalize s.frameCounted.abortOnMode.stc.corners.get i = k at failed angle
  refine ⟨fun e => ?_, fun works centering => ?_, fun works other => ?_⟩
  · have fails : (k.still s.mdc.mode).state = .failed := (Corner.still_rests _).2.mpr (failed.mpr e)
    simp [Corner.sample, fails]
  · simp [Corner.still, Corner.centre, centering, mt failed.mp works, Corner.parkAt, Corner.sample, Corner.aim,
      Corner.follows]
  · simpa [Corner.still, Corner.unpower, other, mt failed.mp works, Corner.sample] using angle

end Still

/-! ## Frames of a steering machine -/

section Steered
variable {s : State} (r : ServoReading) (h : s.SteeringSound) (steered : s.mdc.mode.steered)
  (still : s.stc.machine ≠ .search)
include h steered still

theorem State.servoFrame_steered_machine :
    let m := s.frameMachine.1
    let t := (s.beginFrame r).endFrame
    t.stc.machine = (s.stepSeven r).advanceMachine.stc.machine ∧ t.stc.machine.steers ∧
      (s.forced r ↔ m = .steady ∧ t.stc.machine ≠ .steady) ∧
      (s.settleDone → m = .settling ∧ t.stc.machine = .steady) := by
  intro m t
  have machine : t.stc.machine = (s.stepSeven r).advanceMachine.stc.machine := by
    rw [State.endFrame_stc, State.frameWorked_eq r h steered still]
  obtain ⟨seven, -⟩ := State.stepSeven_machine r h steered still
  obtain ⟨steady, aligning, settling, ends⟩ := (s.stepSeven r).advanceMachine_machine
  have steers := State.frameSettled_steers r h still
  have done := State.stepSeven_ends r h steered still
  rw [machine]
  rw [seven] at steady aligning settling ends
  refine ⟨rfl, ?_, ?_, fun e => ⟨e.1, ?_⟩⟩
  · obtain e | e | e := steers
    · exact .inl (steady e)
    · exact .inr (aligning e)
    · obtain goes | ⟨ended, -⟩ := settling e
      · exact .inr (.inr goes)
      · exact .inl ended
  · refine ⟨fun forced => ⟨forced.1, ?_⟩, fun e => ⟨e.1, fun stays => e.2 (steady stays)⟩⟩
    have aligns : (s.frameSettled r).1 = .aligning := by
      obtain e | e | e := steers
      · exact absurd e forced.2
      · exact e
      · have settles := forced.1
        unfold State.frameSettled at e
        dsimp only at e
        split at e
        · rw [settles] at e; cases e
        · split at e
          · rw [settles] at e; cases e
          · cases e
    obtain e | e := aligning aligns <;> rw [e] <;> simp
  · obtain ⟨settles, full⟩ := done.mpr e
    exact ends (seven.symm.trans settles) full

/-- A corner's state, angle and target after a frame, by its work (R92 to R94, R97, R105, R106). -/
theorem State.servoFrame_steered_corner (i : CornerId) :
    let start := (s.frameCorner i).2
    let b := (s.beginFrame r).endFrame.stc.corners.get i
    (b.state = .active ∨ b.state = .rest →
      (s.forced r → b.target = 0) ∧ (¬s.forced r → b.target = s.frameGoal s.frameMachine.1 i)) ∧
      (b.state = .active → b.commanded = s.slewnTo r i) ∧ (b.state = .rest → b.commanded = start) ∧
      (¬s.settleDone → b.state = .held → b.commanded = start) := by
  obtain ⟨worked, current, target⟩ := State.stepSeven_corner r h steered still i
  have rule := (State.stepSeven_sound r h).loadHeld i
  have aimed : ((s.stepSeven r).stc.corners.get i).Aimed :=
    ((((State.workCorners_handled _).trans (State.settleFailures_handled _ _)).corners i).aimed
      ((s.beginFrame_handled r).2 i))
  obtain ⟨goes, ends⟩ := State.advanceMachine_corner (s.stepSeven r) i
  obtain ⟨-, -, held⟩ := State.stepSeven_link r h steered still
  rw [State.stepSeven_ends r h steered still] at goes ends
  obtain ⟨angle, angleRest, angleHeld⟩ := State.cornerWork_commanded (s := s) r i
  have heldBefore (free : s.link.held = false) := State.cornerWork_held r free (i := i)
  obtain ⟨state, -, commanded, -⟩ := worked
  rw [← state, ← commanded] at angle angleRest angleHeld
  rw [← state] at heldBefore
  dsimp only
  rw [State.endFrame_corner, State.frameWorked_eq r h steered still]
  generalize (s.stepSeven r).advanceMachine.stc.corners.get i = b at goes ends ⊢
  generalize (s.stepSeven r).stc.corners.get i = k at rule aimed target goes ends angle angleRest angleHeld heldBefore
  have stands : b = k → (b.state = .active ∨ b.state = .rest →
      (s.forced r → b.target = 0) ∧ (¬s.forced r → b.target = s.frameGoal s.frameMachine.1 i)) ∧
      (b.state = .active → b.commanded = s.slewnTo r i) ∧ (b.state = .rest → b.commanded = (s.frameCorner i).2) ∧
      (¬s.settleDone → b.state = .held → b.commanded = (s.frameCorner i).2) := by
    rintro rfl
    exact ⟨target, angle, angleRest, fun _ => angleHeld⟩
  by_cases settles : s.settleDone
  · have free : ¬s.forced r := fun forced => absurd (forced.1.symm.trans settles.1) (by simp)
    have adopted := ends settles
    obtain same | ⟨-, parks | ⟨was, goes⟩⟩ := Corner.adopt_cases k rule (s.stepSeven r).stc.mode
      ((s.stepSeven r).stc.pending.getD (s.stepSeven r).stc.mode) (s.stepSeven r).link.held
    · exact stands (adopted.trans same)
    · rw [adopted, parks]
      exact ⟨fun e => (by simp at e), fun e => (by cases e), fun e => (by cases e), fun e => absurd settles e⟩
    · rw [adopted, goes, held]
      obtain ⟨activeState, activeAngle, activeTarget, -⟩ := k.activate_spec s.link.held
      cases load : s.link.held with
      | true =>
        rw [load] at activeState
        have e : (k.activate true).state = .held := activeState
        refine ⟨fun moves => ?_, fun active => ?_, fun rest => ?_, fun goes => absurd settles goes⟩
        · change (k.activate true).state = .active ∨ (k.activate true).state = .rest at moves
          rw [e] at moves; simp at moves
        · change (k.activate true).state = .active at active
          rw [e] at active; cases active
        · change (k.activate true).state = .rest at rest
          rw [e] at rest; cases rest
      | false =>
        rw [load] at activeState activeAngle activeTarget
        have goal := State.frameGoal_held s.frameMachine.1 (heldBefore load was)
        have slewn : s.slewnTo r i = (s.frameCorner i).2 := by
          unfold State.slewnTo
          rw [goal]
          dsimp only
          split
          · rfl
          · omega
        have e : (k.activate false).state = .active := activeState
        refine ⟨fun _ => ?_, fun _ => ?_, fun rest => ?_, fun goes => absurd settles goes⟩
        · refine ⟨fun forced => absurd forced free, fun _ => ?_⟩
          rw [goal]
          exact activeTarget.trans ((aimed.1 was).trans (angleHeld was))
        · rw [slewn]
          exact activeAngle.trans (angleHeld was)
        · change (k.activate false).state = .rest at rest
          rw [e] at rest; cases rest
  · obtain same | ⟨-, expires⟩ := goes settles
    · exact stands same
    · obtain same | ⟨-, fails⟩ := k.expire_cases
      · exact stands (expires.trans same)
      · rw [expires, fails]
        exact ⟨fun e => (by simp at e), fun e => (by cases e), fun e => (by cases e), fun _ e => by cases e⟩

/-- On arrival in STEADY every corner stands in its new state (R91). -/
theorem State.servoFrame_arrives (arrives : s.stc.machine = .unpowered ∨ s.stc.machine = .centering)
    (steady : s.frameMachine.1 = .steady) :
    (s.beginFrame r).endFrame.stc.machine = .steady ∧
      ∀ i, ((s.beginFrame r).endFrame.stc.corners.get i).state = (s.frameCorner i).1 := by
  obtain ⟨machine, -, forced, -⟩ := State.servoFrame_steered_machine r h steered still
  have failed : s.workFailed r = s.stc.failedSet := PerCorner.ext_get fun i => by
    rw [State.workFailed, PerCorner.get_ofFn, Stc.failedSet_get, State.cornerWork_arrives r arrives]
    exact decide_eq_decide.mpr (State.frameCorner_failed i)
  have stays : (s.frameSettled r).1 = .steady := by
    unfold State.frameSettled
    dsimp only
    rw [if_pos failed]
    exact steady
  have seven := (State.stepSeven_machine r h steered still).1.trans stays
  have idle := State.advanceMachine_idle (u := s.stepSeven r) (by simp [seven, SteerMachine.turns])
  refine ⟨by rw [machine, idle]; exact seven, fun i => ?_⟩
  obtain ⟨⟨state, -⟩, -⟩ := State.stepSeven_corner r h steered still i
  rw [State.endFrame_corner, State.frameWorked_eq r h steered still, idle]
  exact state.trans (State.cornerWork_arrives r arrives i)

/-- The surge wish of the steering (R96). -/
theorem State.servoFrame_wish :
    let t := (s.beginFrame r).endFrame
    t.cau.records.steer.wish = true ↔
      (t.stc.machine = .steady ∨ t.stc.machine = .aligning) ∧
        wishStep s.ws s.cau.records.steer.scaled < s.ws.nat Item.steerSlew ∧
        ∃ i, (t.stc.corners.get i).state = .active ∧
          (t.stc.corners.get i).current ≤ s.ws.nat Item.cornerStallMa ∧
          wishStep s.ws s.cau.records.steer.scaled < (s.frameGoal s.frameMachine.1 i - (s.frameCorner i).2).natAbs := by
  intro t
  have begun : (s.beginFrame r).cau = s.cau := (s.beginFrame_changes r).2.2.2 .cau (by decide)
  have cau : (s.beginFrame r).frameWorked.cau = s.cau :=
    ((s.beginFrame r).frameWorked_changes.2.2.2 .cau (by decide)).trans begun
  have ws : (s.beginFrame r).frameWorked.ws = s.ws :=
    (State.frameWorked_ws _).trans (State.stepSix_gear r h steered still).2.2.2.1
  have gaps (i : CornerId) : (s.beginFrame r).stc.gaps.get i =
      (s.frameGoal s.frameMachine.1 i - (s.frameCorner i).2).natAbs := by
    rw [Stc.gaps, PerCorner.get_map, State.beginFrame_corner r h steered still, ← (State.cornerBegun_spec i).2]
    rfl
  have corner (i : CornerId) : (t.stc.corners.get i).state = ((s.beginFrame r).frameWorked.stc.corners.get i).state ∧
      (t.stc.corners.get i).current = ((s.beginFrame r).frameWorked.stc.corners.get i).current := by
    rw [State.endFrame_corner]
    exact ⟨rfl, rfl⟩
  have wish : t.cau.records.steer.wish =
      (s.beginFrame r).frameWorked.steerWish (s.beginFrame r).stc.gaps := by
    rw [State.servoFrame_cau]
  have machine : t.stc.machine = (s.beginFrame r).frameWorked.stc.machine := by rw [State.endFrame_stc]
  rw [wish, machine]
  unfold State.steerWish
  rw [cau, ws]
  simp only [Bool.and_eq_true, Bool.or_eq_true, decide_eq_true_eq, List.any_eq_true, Bool.not_eq_true',
    Corner.currentHeld, decide_eq_false_iff_not, not_lt, gaps]
  constructor
  · rintro ⟨⟨steers, short⟩, i, -, ⟨active, free⟩, far⟩
    rw [← (corner i).1] at active
    rw [← (corner i).2] at free
    exact ⟨steers, short, i, active, free, far⟩
  · rintro ⟨steers, short, i, active, free, far⟩
    rw [(corner i).1] at active
    rw [(corner i).2] at free
    exact ⟨⟨steers, short⟩, i, by cases i <;> decide, ⟨active, free⟩, far⟩

end Steered

/-- Settles O33, by the vehicle mode: a machine set still, a search, a steering machine. -/
theorem servoFrameSlewsAndPulses : Obligations.ServoFrameSlewsAndPulses := by
  intro s r powered
  refine ⟨_, exec_servoFrame r powered, ?_⟩
  obtain ⟨frameNo, starved, slewStep⟩ := s.servoFrame_gauges r
  have cau := s.servoFrame_cau r
  have items : (s.beginFrame r).endFrame.ws = { s.ws with items := (s.beginFrame r).endFrame.ws.items } :=
    s.servoFrame_movesItems r
  have changes := State.changesOnly_act s (s.servoFrame_changes r)
  have intent := s.servoFrame_intent r
  have untouched (i : CornerId) := s.servoFrame_corner r i
  have parked : s.mdc.mode ≠ .ready → s.mdc.mode ≠ .run → s.mdc.mode ≠ .failsafe → ¬s.mdc.mode.steered :=
    fun ready run failsafe => by simp [VehicleMode.steered, ready, run, failsafe]
  rw [State.holdAutoPark_stc, State.holdAutoPark_cau, State.holdAutoPark_intent, State.holdAutoPark_ws]
  refine ⟨frameNo, starved, ?_, fun i => ?_, fun centering ready run failsafe => ?_, fun centering => ?_,
    fun search _ mode => ?_, fun h steered still => ?_, fun steady aligning => ?_, ?_, changes, ?_, ?_, ?_, ?_, ?_, ?_⟩
  · rw [slewStep, starved, slewFor_eq]
  · obtain ⟨current, prevSense, sense, pulse, held, failed⟩ := untouched i
    refine ⟨current, prevSense, sense, pulse, held, failed, fun h still fails => ?_⟩
    by_cases steered : s.mdc.mode.steered
    · obtain ⟨-, worked, -⟩ := State.frame_corner r h steered still i
      have work := State.cornerWork_failed r fails
      exact (worked work).1.trans work
    · exact (State.servoFrame_still_corner r steered i).1 fails
  · have idle := parked ready run failsafe
    obtain ⟨machine, same, -⟩ := State.servoFrame_still_machine r idle
    refine ⟨machine.trans (if_neg centering), same, fun i works => ?_⟩
    exact (State.servoFrame_still_corner r idle i).2.2 works centering
  · have idle : ¬s.mdc.mode.steered := by simp [VehicleMode.steered, centering]
    obtain ⟨machine, same, -⟩ := State.servoFrame_still_machine r idle
    refine ⟨machine.trans (if_pos centering), same, fun i works => ?_⟩
    exact (State.servoFrame_still_corner r idle i).2.1 works centering
  · rw [intent, State.followMode_search (u := s.frameCounted) search mode, if_neg]
    exact fun steers => SteerMachine.ne_search_of_steers steers search
  · obtain ⟨-, steers, forced, done⟩ := State.servoFrame_steered_machine r h steered still
    have begun : s.frameCounted.followMode.stc.machine.steers := by
      have machine : s.frameCounted.followMode.stc.machine = s.machineBegun :=
        (State.frameRead_of_steered r h steered still).1
      rw [machine]
      exact State.machineBegun_steers still
    refine ⟨intent.trans (if_pos begun), steers,
      fun arrives steady => State.servoFrame_arrives r h steered still arrives.2 steady, fun i => ?_,
      State.servoFrame_wish r h steered still⟩
    obtain ⟨target, active, rest, held⟩ := State.servoFrame_steered_corner r h steered still i
    obtain ⟨current, -⟩ := untouched i
    refine ⟨fun moves => ?_, fun e => ?_, rest, fun e settles => held (fun finishes => ?_) e⟩
    · obtain ⟨park, free⟩ := target moves
      rw [forced] at park free
      split
      · exact park ‹_›
      · exact free ‹_›
    · rw [active e, current, slewStep]
      rfl
    · obtain ⟨settling, steady⟩ := done finishes
      exact absurd (steady.symm.trans (settles settling)) (by simp)
  · exact State.servoFrame_wish_idle s r steady aligning
  · rw [cau]
  · rw [items]
  · rw [items]
  all_goals
    rw [intent]
    split <;> rfl

end Sys2Proof.Machine
end

section
/-! PROOF. O38: the search at its own events (R116 to R120, R126). -/
namespace Sys2Proof.Machine

/-! ## States that are alike to a search -/

/-- Two states in which a search finds the same: itself, the working set, the link, the machine and each corner's state
and angle. -/
structure State.SearchLike (s t : State) : Prop where
  tse : t.tse = s.tse
  ws : t.ws = s.ws
  link : t.link = s.link
  machine : t.stc.machine = s.stc.machine
  mode : t.stc.mode = s.stc.mode
  state : ∀ i, (t.stc.corners.get i).state = (s.stc.corners.get i).state
  commanded : ∀ i, (t.stc.corners.get i).commanded = (s.stc.corners.get i).commanded

section Before
variable {s u t : State} {i : CornerId} (like : s.SearchLike u)
include like

theorem State.searchBegins_before {rest : List CornerId} : u.searchBegins t i rest ↔ s.searchBegins t i rest := by
  unfold State.searchBegins
  rw [like.tse, like.ws]

theorem State.searchSteps_before {lastClear : Bool} {last0 : Int} :
    u.searchSteps t i lastClear last0 ↔ s.searchSteps t i lastClear last0 := by
  unfold State.searchSteps
  rw [like.tse, like.ws]

theorem State.cornerEnds_before : u.cornerEnds t i ↔ s.cornerEnds t i := by
  unfold State.cornerEnds
  simp only [like.tse, like.ws, like.link, like.machine, like.mode, like.state, like.commanded]

theorem State.waitJudged_before {sense : Bool} : u.waitJudged t i sense ↔ s.waitJudged t i sense := by
  unfold State.waitJudged
  rw [State.cornerEnds_before like, State.searchSteps_before like, like.tse, like.ws]

theorem State.stepJudged_before {sense : Bool} : u.stepJudged t i sense ↔ s.stepJudged t i sense := by
  unfold State.stepJudged
  rw [State.cornerEnds_before like, like.tse, like.ws]

end Before

section After
variable {s v t : State} {i : CornerId} (like : v.SearchLike t)
  (target : ∀ i, (t.stc.corners.get i).target = (v.stc.corners.get i).target)
include like target

theorem State.searchBegins_after {rest : List CornerId} : s.searchBegins t i rest ↔ s.searchBegins v i rest := by
  unfold State.searchBegins
  simp only [like.tse, like.ws, like.machine, like.state, like.commanded, target]

theorem State.searchSteps_after {lastClear : Bool} {last0 : Int} :
    s.searchSteps t i lastClear last0 ↔ s.searchSteps v i lastClear last0 := by
  unfold State.searchSteps
  simp only [like.tse, like.ws, like.machine, like.commanded, target]

theorem State.cornerEnds_after : s.cornerEnds t i ↔ s.cornerEnds v i := by
  unfold State.cornerEnds State.noticed
  simp only [like.tse, like.link, like.machine, like.state, like.commanded, target]

theorem State.waitJudged_after {sense : Bool} : s.waitJudged t i sense ↔ s.waitJudged v i sense := by
  unfold State.waitJudged
  rw [State.cornerEnds_after like target, State.searchSteps_after like target, like.tse, like.ws]

theorem State.stepJudged_after {sense : Bool} : s.stepJudged t i sense ↔ s.stepJudged v i sense := by
  unfold State.stepJudged
  rw [State.cornerEnds_after like target, like.tse, like.ws, like.machine]

end After

/-- The auto-park timer is nothing to a search (R41). -/
theorem State.SearchLike.parked (v : State) : v.SearchLike v.holdAutoPark where
  tse := State.holdAutoPark_tse v
  ws := State.holdAutoPark_ws v
  link := State.holdAutoPark_link v
  machine := by rw [State.holdAutoPark_stc]
  mode := by rw [State.holdAutoPark_stc]
  state i := by rw [State.holdAutoPark_stc]
  commanded i := by rw [State.holdAutoPark_stc]

theorem State.SearchLike.trans {s t u : State} (first : s.SearchLike t) (after : t.SearchLike u) : s.SearchLike u where
  tse := after.tse.trans first.tse
  ws := after.ws.trans first.ws
  link := after.link.trans first.link
  machine := after.machine.trans first.machine
  mode := after.mode.trans first.mode
  state i := (after.state i).trans (first.state i)
  commanded i := (after.commanded i).trans (first.commanded i)

theorem State.holdAutoPark_target (v : State) (i : CornerId) :
    (v.holdAutoPark.stc.corners.get i).target = (v.stc.corners.get i).target := by rw [State.holdAutoPark_stc]

/-! ## Steps judged (R118, R119) -/

section Judged
variable {s : State} {i : CornerId}

/-- The readings of a search whose step has reached its count: those of a clear step move. -/
def Tse.judged (t : Tse) (sense : Bool) : Tse :=
  { t with
    frames := 4
    lastClear := if t.firstSample = sense then sense else t.lastClear
    last0 := if t.firstSample = sense ∧ sense = false then t.probe else t.last0 }

theorem State.judgeStep_eq {sense : Bool} (reads : (s.stc.corners.get i).sense = sense) : s.judgeStep i =
      if s.tse.firstSample = true ∧ sense = true ∧ s.tse.lastClear = false then
        (s.setTse (s.tse.judged sense)).edgeFound i
      else if s.tse.span < s.tse.probe + s.tse.step then
        (s.setTse (s.tse.judged sense)).endCorner i fun e => { e with result := .noEdge, newTrim := none }
      else s.setTse (s.tse.judged sense) := by
  have judged : (if s.tse.firstSample = sense then
      { s.tse with frames := 4, lastClear := sense, last0 := if sense then s.tse.last0 else s.tse.probe }
      else { s.tse with frames := 4 }) = s.tse.judged sense := by
    unfold Tse.judged
    by_cases clear : s.tse.firstSample = sense
    · rw [if_pos clear, if_pos clear]
      cases sense <;> simp [clear]
    · rw [if_neg clear, if_neg clear, if_neg fun e => clear e.1]
  have edge : (decide (s.tse.firstSample = sense) && sense && !s.tse.lastClear) = true ↔
      s.tse.firstSample = true ∧ sense = true ∧ s.tse.lastClear = false := by
    cases s.tse.firstSample <;> cases sense <;> simp
  unfold State.judgeStep
  simp only [decide_eq_true_eq, reads]
  rw [judged]
  exact if_congr edge rfl rfl

/-- The end of a corner does not depend on the readings taken at it. -/
theorem State.cornerEnds_judged {t : State} {sense : Bool} :
    (s.setTse (s.tse.judged sense)).cornerEnds t i ↔ s.cornerEnds t i := Iff.rfl

/-- A step is judged as R118 and R119 say. -/
theorem State.judgeStep_judges (search : s.stc.machine = .search) :
    s.stepJudged (s.judgeStep i) i (s.stc.corners.get i).sense := by
  have whole := State.judgeStep_eq (s := s) (i := i) rfl
  generalize (s.stc.corners.get i).sense = sense at whole ⊢
  have found := State.edgeFound_ends (s.setTse (s.tse.judged sense)) i
  have ends := State.endCorner_ends (s.setTse (s.tse.judged sense)) i
    fun e => { e with result := .noEdge, newTrim := none }
  have ws := State.endCorner_ws (s.setTse (s.tse.judged sense)) i
    fun e => { e with result := .noEdge, newTrim := none }
  by_cases edge : s.tse.firstSample = true ∧ sense = true ∧ s.tse.lastClear = false
  · rw [if_pos edge] at whole
    have last0 : (s.tse.judged sense).last0 = s.tse.last0 := if_neg (by simp [edge.2.1])
    have place : ((s.setTse (s.tse.judged sense)).tse.results.get i).oldTrim +
        (s.setTse (s.tse.judged sense)).tse.last0 + (s.setTse (s.tse.judged sense)).tse.step / 2 =
        (s.tse.results.get i).oldTrim + s.tse.last0 + s.tse.step / 2 := by
      rw [State.setTse_tse, last0]
      rfl
    dsimp only at found
    rw [place] at found
    rw [whole]
    exact ⟨fun _ => found.1, fun _ => found.2, fun none => absurd edge none, fun none => absurd edge none⟩
  · rw [if_neg edge] at whole
    refine ⟨fun e => absurd e edge, fun e => absurd e edge, fun _ past => ?_, fun _ within => ?_⟩
    · rw [if_pos past] at whole
      rw [whole]
      exact ⟨ends.2, ends.1, ws⟩
    · rw [if_neg (Int.not_lt.mpr within)] at whole
      rw [whole]
      exact ⟨rfl, search, rfl⟩

/-- A corner that ends leaves the others, while the list holds one (R119). -/
theorem State.endCorner_others {f : ResultEntry → ResultEntry} (listed : s.tse.list ≠ []) {j : CornerId} (other : j ≠ i) :
    (s.endCorner i f).stc.corners.get j = s.stc.corners.get j := by
  unfold State.endCorner
  dsimp only
  rw [if_neg (by simp [Tse.setResult, listed])]
  exact Stc.put_get_other _ _ other

theorem State.setProbe_others (o : Int) {j : CornerId} (other : j ≠ i) :
    (s.setProbe i o).stc.corners.get j = s.stc.corners.get j := Stc.put_get_other _ _ other

theorem State.beginCorner_others (rest : List CornerId) (listed : s.tse.list = i :: rest) {j : CornerId} (other : j ≠ i) :
    s.beginCorner.stc.corners.get j = s.stc.corners.get j := by
  unfold State.beginCorner
  rw [listed]
  split
  · rename_i heads
    obtain ⟨rfl, rfl⟩ := List.cons.inj heads
    split
    · exact Stc.put_get_other _ _ other
    · rfl
  · rfl

theorem State.judgeWait_others (listed : s.tse.list ≠ []) {j : CornerId} (other : j ≠ i) :
    (s.judgeWait i).stc.corners.get j = s.stc.corners.get j := by
  unfold State.judgeWait
  split
  · rw [State.endCorner_others (by exact listed) other]
    rfl
  · exact Stc.put_get_other _ _ other

theorem State.judgeStep_others (listed : s.tse.list ≠ []) {j : CornerId} (other : j ≠ i) :
    (s.judgeStep i).stc.corners.get j = s.stc.corners.get j := by
  have found (u : State) (listed : u.tse.list ≠ []) : (u.edgeFound i).stc.corners.get j = u.stc.corners.get j := by
    unfold State.edgeFound
    dsimp only
    split
    · rw [State.endCorner_others (by exact listed) other]
      rfl
    · exact State.endCorner_others listed other
  rw [State.judgeStep_eq rfl]
  split
  · rw [found _ (by exact listed)]
    rfl
  · split
    · rw [State.endCorner_others (by exact listed) other]
      rfl
    · rfl

end Judged

/-! ## The search's own events -/

section Events
variable {s : State} (powered : s.powered = true) (search : s.stc.machine = .search)
include powered search

theorem exec_searchCornerBegin : exec .searchCornerBegin s = .next s.beginCorner.holdAutoPark := by
  have acts : exec .searchCornerBegin s =
      act s fun s => if s.stc.machine = .search then s.beginCorner else s := rfl
  rw [acts, act_powered powered, if_pos search]

theorem exec_searchWaitEnd {i : CornerId} (fed : s.stc.starved = false) (runs : s.tse.corner = some i)
    (wait : s.tse.phase = .wait) (frames : s.tse.frames = 9) :
    exec .searchWaitEnd s = .next (s.judgeWait i).holdAutoPark := by
  have acts : exec .searchWaitEnd s = execSearchWaitEnd s := rfl
  rw [acts, execSearchWaitEnd, act_powered powered]
  simp [search, fed, runs, wait, frames]

theorem exec_searchStepJudged {i : CornerId} (fed : s.stc.starved = false) (runs : s.tse.corner = some i)
    (step : s.tse.phase = .step) (frames : s.tse.frames = 3) :
    exec .searchStepJudged s = .next (s.judgeStep i).holdAutoPark := by
  have acts : exec .searchStepJudged s = execSearchStepJudged s := rfl
  rw [acts, execSearchStepJudged, act_powered powered]
  simp [search, fed, runs, step, frames]

/-- SEARCH_CORNER_BEGIN (R116). -/
theorem State.searchCornerBegin_acts {i : CornerId} {rest : List CornerId} (rested : s.tse.corner = none)
    (listed : s.tse.list = i :: rest) :
    (s.drc.axles.front.state = .brake → s.drc.axles.rear.state = .brake →
        ∃ t, exec .searchCornerBegin s = .next t ∧ s.searchBegins t i rest ∧
          (∀ j, j ≠ i → t.stc.corners.get j = s.stc.corners.get j) ∧ s.changesOnly t [.stc, .tse]) ∧
      (s.drc.axles.front.state ≠ .brake ∨ s.drc.axles.rear.state ≠ .brake →
        ∃ t, exec .searchCornerBegin s = .next t ∧ s.changesOnly t []) := by
  refine ⟨fun front rear => ⟨_, exec_searchCornerBegin powered search, ?_, fun j other => ?_, ?_⟩,
    fun loose => ⟨_, exec_searchCornerBegin powered search, ?_⟩⟩
  · have braked : s.drc.bothBrake = true := by simp [Drc.bothBrake, front, rear]
    exact (State.searchBegins_after (.parked _) (State.holdAutoPark_target _)).mpr
      (State.beginCorner_begins rested listed braked search)
  · rw [State.holdAutoPark_stc]
    exact State.beginCorner_others rest listed other
  · exact State.changesOnly_act s s.beginCorner_changes
  · have unbraked : s.drc.bothBrake = false := by
      obtain front | rear := loose
      · simp [Drc.bothBrake, front]
      · simp [Drc.bothBrake, rear]
    rw [State.beginCorner_waits unbraked]
    exact State.changesOnly_act s (s.changesOnly_refl _)

/-- SEARCH_WAIT_END (R117). -/
theorem State.searchWaitEnd_acts {i : CornerId} (fed : s.stc.starved = false) (runs : s.tse.corner = some i)
    (wait : s.tse.phase = .wait) (frames : s.tse.frames = 9) :
    ∃ t, exec .searchWaitEnd s = .next t ∧ s.waitJudged t i (s.stc.corners.get i).sense ∧
      ((s.stc.corners.get i).sense = false → s.changesOnly t [.stc, .tse]) ∧
      (s.tse.list ≠ [] → ∀ j, j ≠ i → t.stc.corners.get j = s.stc.corners.get j) ∧
      s.changesOnly t [.output, .stc, .tse] := by
  refine ⟨_, exec_searchWaitEnd powered search fed runs wait frames, ?_, fun zero => ?_, fun listed j other => ?_, ?_⟩
  · exact (State.waitJudged_after (.parked _) (State.holdAutoPark_target _)).mpr (State.judgeWait_judges i search)
  · refine State.changesOnly_act s ?_
    unfold State.judgeWait
    rw [zero, if_neg Bool.false_ne_true]
    exact State.changesOnly_trans (State.changesOnly_mono (s.setTse_changes _) (by simp)) (State.probeStep_changes _ _)
  · rw [State.holdAutoPark_stc]
    exact State.judgeWait_others listed other
  · exact State.changesOnly_act s (s.judgeWait_changes i)

/-- SEARCH_STEP_JUDGED (R118, R119). -/
theorem State.searchStepJudged_acts {i : CornerId} (fed : s.stc.starved = false) (runs : s.tse.corner = some i)
    (step : s.tse.phase = .step) (frames : s.tse.frames = 3) :
    let sense := (s.stc.corners.get i).sense
    ∃ t, exec .searchStepJudged s = .next t ∧ s.stepJudged t i sense ∧
      (¬s.tse.edge sense → s.tse.probe + s.tse.step ≤ s.tse.span → s.changesOnly t [.tse]) ∧
      (s.tse.list ≠ [] → ∀ j, j ≠ i → t.stc.corners.get j = s.stc.corners.get j) ∧
      s.changesOnly t [.output, .stc, .tse, .working] := by
  refine ⟨_, exec_searchStepJudged powered search fed runs step frames, ?_, fun none within => ?_,
    fun listed j other => ?_, ?_⟩
  · exact (State.stepJudged_after (.parked _) (State.holdAutoPark_target _)).mpr (State.judgeStep_judges search)
  · refine State.changesOnly_act s ?_
    unfold Tse.edge at none
    rw [State.judgeStep_eq rfl, if_neg none, if_neg (Int.not_lt.mpr within)]
    exact s.setTse_changes _
  · rw [State.holdAutoPark_stc]
    exact State.judgeStep_others listed other
  · exact State.changesOnly_act s (s.judgeStep_changes i)

end Events

end Sys2Proof.Machine
end

section
/-! PROOF. O38: the search at a servo frame (R90, R116 to R120, R122). -/
namespace Sys2Proof.Machine

/-! ## Steps 0 to 5 of a frame in SEARCH -/

section Begun
variable {s : State} (r : ServoReading) (search : s.stc.machine = .search)
  (mode : s.mdc.mode = .ready ∨ s.mdc.mode = .run)
include search mode

/-- Steps 0 to 5 leave a search as it stands; its corners are read, and step 3 says whether the frame is starved. -/
theorem State.beginFrame_search :
    s.SearchLike (s.beginFrame r) ∧ (∀ i, ((s.beginFrame r).stc.corners.get i).sense = s.frameSense r i) ∧
      (s.beginFrame r).stc.starved = decide (s.grant .steer < s.ws.nat Item.floorSteerMa) ∧
      (s.beginFrame r).drc = s.drc := by
  have follows : s.frameCounted.followMode = s.frameCounted :=
    State.followMode_search (u := s.frameCounted) search mode
  have machine : (s.frameRead r).stc.machine = .search := (congrArg (·.stc.machine) follows).trans search
  have idle : (s.frameRead r).takeSteerCode = s.frameRead r :=
    State.takeSteerCode_idle fun steers => SteerMachine.ne_search_of_steers steers machine
  have whole : s.beginFrame r = (s.frameRead r).setStc ((s.frameRead r).stc.mapCorners fun k =>
      if k.state = .held ∨ k.state = .failed then k.aim 0 else k) := by
    rw [State.beginFrame_eq, idle, State.aimCorners, machine]
  have corner (i : CornerId) : ((s.beginFrame r).stc.corners.get i).state = (s.stc.corners.get i).state ∧
      ((s.beginFrame r).stc.corners.get i).commanded = (s.stc.corners.get i).commanded := by
    have read : ((s.frameRead r).stc.corners.get i).state = (s.stc.corners.get i).state ∧
        ((s.frameRead r).stc.corners.get i).commanded = (s.stc.corners.get i).commanded := by
      rw [s.frameRead_corner, follows, s.frameCounted_corner]
      exact ⟨Corner.age_state _ _, Corner.age_commanded _ _⟩
    rw [whole, State.setStc_stc, Stc.mapCorners_get]
    split
    · rw [Corner.aim_state, Corner.aim_commanded]
      exact read
    · exact read
  have handled := (s.beginFrame_handled r).1
  refine ⟨⟨?_, congrArg Sst.working (s.beginFrame_sst r), ?_, ?_, ?_, fun i => (corner i).1, fun i => (corner i).2⟩,
    fun i => ?_, ?_, (s.beginFrame_changes r).2.2.2 .drc (by decide)⟩
  · rw [whole]
    exact congrArg (·.tse) follows
  · rw [whole]
    exact congrArg (·.link) follows
  · rw [whole, search]
    exact machine
  · rw [whole]
    exact congrArg (·.stc.mode) follows
  · exact (handled.corners i).sense.trans (s.frameRead_readings r i).2.2
  · exact handled.starved.trans (s.frameRead_gauges r).2.1

end Begun

/-! ## Step 6 in SEARCH -/

section Work
variable {u : State} {i : CornerId}

theorem State.searchFrame_rested (rested : u.tse.corner = none) : u.searchFrame = u.beginCorner := by
  simp [State.searchFrame, rested]

theorem State.searchFrame_starved (runs : u.tse.corner = some i) (starved : u.stc.starved = true) :
    u.searchFrame = u := by
  simp [State.searchFrame, runs, starved]

section Fed
variable (runs : u.tse.corner = some i) (fed : u.stc.starved = false)
include runs fed

theorem State.searchFrame_wait (wait : u.tse.phase = .wait) : u.searchFrame =
    if 9 ≤ u.tse.frames then u.judgeWait i else u.setTse { u.tse with frames := u.tse.frames + 1 } := by
  simp [State.searchFrame, runs, fed, wait]

theorem State.searchFrame_step (step : u.tse.phase = .step) : u.searchFrame =
    if 4 ≤ u.tse.frames then u.probeStep i
    else if u.tse.frames = 3 then u.judgeStep i
    else u.setTse { u.tse with
      frames := u.tse.frames + 1
      firstSample := if u.tse.frames = 2 then (u.stc.corners.get i).sense else u.tse.firstSample } := by
  simp [State.searchFrame, runs, fed, step]

end Fed

/-- The machine of a search goes on, or is STEADY with no corner failed on the way. -/
def State.SearchGoes (u v : State) : Prop :=
  v.stc.machine = .search ∨ v.stc.machine = .steady ∧ v.stc.failedSet = u.stc.failedSet

theorem State.endSearch_corner (v : State) (c : EndCause) (j : CornerId) :
    (v.endSearch c).stc.corners.get j = (v.stc.corners.get j).steady v.stc.mode v.link.held := Stc.mapCorners_get _ _ _

theorem Corner.steady_failed (k : Corner) (m : SteerMode) (loading : Bool) :
    (k.steady m loading).state = .failed ↔ k.state = .failed := by
  by_cases failed : k.state = .failed
  · rw [Corner.steady, if_pos failed]
  · refine iff_of_false ?_ failed
    rw [(Corner.steady_spec failed m loading).1]
    split <;> simp

section Goes
variable (search : u.stc.machine = .search) (works : (u.stc.corners.get i).state ≠ .failed)
include search works

/-- The end of a corner that is not FAILED fails none, whatever was read or written before it. -/
theorem State.endCorner_goes {v : State} (stc : v.stc = u.stc) (f : ResultEntry → ResultEntry) :
    u.SearchGoes (v.endCorner i f) := by
  unfold State.endCorner
  dsimp only
  split
  · refine .inr ⟨rfl, Stc.failedSet_eq fun j => ?_⟩
    rw [State.endSearch_corner, Corner.steady_failed, State.setStc_stc, stc]
    by_cases same : j = i
    · rw [same, Stc.put_get_self]
      exact iff_of_false (by simp [Corner.parkAt]) works
    · rw [Stc.put_get_other _ _ same]
  · refine .inl ?_
    rw [State.setStc_stc, stc]
    exact search

theorem State.judgeWait_goes : u.SearchGoes (u.judgeWait i) := by
  unfold State.judgeWait
  split
  · exact State.endCorner_goes search works (State.setTse_stc _ _) _
  · exact .inl search

theorem State.judgeStep_goes : u.SearchGoes (u.judgeStep i) := by
  rw [State.judgeStep_eq rfl]
  split
  · unfold State.edgeFound
    dsimp only
    split
    · exact State.endCorner_goes search works (by rw [State.setSst_stc, State.setTse_stc]) _
    · exact State.endCorner_goes search works (State.setTse_stc _ _) _
  · split
    · exact State.endCorner_goes search works (State.setTse_stc _ _) _
    · exact .inl search

end Goes

/-- Step 6 fails no corner where it completes the search (R119, R120). -/
theorem State.SteeringSound.searchFrame_goes (h : u.SteeringSound) (search : u.stc.machine = .search) :
    u.SearchGoes u.searchFrame := by
  have begun : u.beginCorner.stc.machine = .search := by
    unfold State.beginCorner
    split
    · split <;> exact search
    · exact search
  cases runs : u.tse.corner with
  | none =>
    rw [State.searchFrame_rested runs]
    exact .inl begun
  | some i =>
    have works : (u.stc.corners.get i).state ≠ .failed := by
      rw [(h.searching i).mpr runs]
      simp
    cases starved : u.stc.starved with
    | true =>
      rw [State.searchFrame_starved runs starved]
      exact .inl search
    | false =>
      cases phase : u.tse.phase with
      | wait =>
        rw [State.searchFrame_wait runs starved phase]
        split
        · exact State.judgeWait_goes search works
        · exact .inl search
      | step =>
        rw [State.searchFrame_step runs starved phase]
        split
        · exact .inl search
        · split
          · exact State.judgeStep_goes search works
          · exact .inl search

/-! ## Steps 7 to 10 in SEARCH -/

theorem State.frameWorked_search (h : u.SteeringSound) (search : u.stc.machine = .search) :
    u.frameWorked = u.searchFrame := by
  have goes := h.searchFrame_goes search
  have worked : u.workCorners = u.searchFrame := if_pos search
  unfold State.frameWorked
  rw [worked]
  generalize u.searchFrame = v at goes ⊢
  have settled : v.settleFailures u.stc.failedSet = v := by
    unfold State.settleFailures
    obtain goes | ⟨-, failed⟩ := goes
    · have same : v.stc.settleFailure = v.stc := by
        unfold Stc.settleFailure
        rw [goes]
      rw [same]
      exact ite_self v
    · exact if_pos failed
  rw [settled]
  refine State.advanceMachine_idle ?_
  obtain goes | ⟨goes, -⟩ := goes <;> simp [goes, SteerMachine.turns]

/-- Steps 7 to 10 are nothing to a search. -/
theorem State.endFrame_search (h : u.SteeringSound) (search : u.stc.machine = .search) :
    u.searchFrame.SearchLike u.endFrame ∧
      ∀ i, (u.endFrame.stc.corners.get i).target = (u.searchFrame.stc.corners.get i).target := by
  have worked := State.frameWorked_search h search
  have like : u.frameWorked.SearchLike u.endFrame ∧
      ∀ i, (u.endFrame.stc.corners.get i).target = (u.frameWorked.stc.corners.get i).target := by
    refine ⟨⟨rfl, rfl, u.endFrame_link, ?_, ?_, fun i => ?_, fun i => ?_⟩, fun i => ?_⟩
    · rw [State.endFrame_stc]
    · rw [State.endFrame_stc]
    · rw [State.endFrame_corner]
    · rw [State.endFrame_corner]
    · rw [State.endFrame_corner]
  rwa [worked] at like

end Work

/-! ## A whole frame -/

/-- A state in which a search stands as it did (R116, R117). -/
def State.searchStands (s t : State) : Prop :=
  t.tse = s.tse ∧ t.stc.machine = .search ∧ t.ws = s.ws ∧
    ∀ j, (t.stc.corners.get j).state = (s.stc.corners.get j).state ∧
      (t.stc.corners.get j).commanded = (s.stc.corners.get j).commanded

theorem State.SearchLike.stands {s t : State} (like : s.SearchLike t) (search : s.stc.machine = .search) :
    s.searchStands t := ⟨like.tse, like.machine.trans search, like.ws, fun j => ⟨like.state j, like.commanded j⟩⟩

section Frame
variable {s u t : State} {i : CornerId} (search : s.stc.machine = .search) (before : s.SearchLike u)
  (worked : u.searchFrame.SearchLike t)
  (target : ∀ i, (t.stc.corners.get i).target = (u.searchFrame.stc.corners.get i).target)
include search before worked target

/-- A frame between two corners (R116). -/
theorem State.searchFrame_between (drc : u.drc = s.drc) {rest : List CornerId} (rested : s.tse.corner = none)
    (listed : s.tse.list = i :: rest) :
    (s.drc.axles.front.state = .brake → s.drc.axles.rear.state = .brake → s.searchBegins t i rest) ∧
      (s.drc.axles.front.state ≠ .brake ∨ s.drc.axles.rear.state ≠ .brake → s.searchStands t) := by
  rw [← before.tse] at rested listed
  have frame := State.searchFrame_rested rested
  rw [frame] at worked target
  refine ⟨fun front rear => ?_, fun loose => ?_⟩
  · have braked : u.drc.bothBrake = true := by rw [drc]; simp [Drc.bothBrake, front, rear]
    have begins := State.beginCorner_begins rested listed braked (before.machine.trans search)
    exact (State.searchBegins_after worked target).mpr ((State.searchBegins_before before).mp begins)
  · have unbraked : u.drc.bothBrake = false := by
      rw [drc]
      obtain front | rear := loose
      · simp [Drc.bothBrake, front]
      · simp [Drc.bothBrake, rear]
    rw [State.beginCorner_waits unbraked] at worked
    exact (before.trans worked).stands search

omit target in
/-- A starved frame leaves the running corner (R117). -/
theorem State.searchFrame_stands (starved : u.stc.starved = true) (runs : s.tse.corner = some i) : s.searchStands t := by
  rw [← before.tse] at runs
  rw [State.searchFrame_starved runs starved] at worked
  exact (before.trans worked).stands search

/-- The work of a running corner at a frame that is not starved (R117, R118). -/
theorem State.searchFrame_runs (fed : u.stc.starved = false) (runs : s.tse.corner = some i) {sense : Bool}
    (reads : (u.stc.corners.get i).sense = sense) :
    (s.tse.phase = .wait → s.tse.frames < 9 → t.tse = { s.tse with frames := s.tse.frames + 1 }) ∧
      (s.tse.phase = .wait → 9 ≤ s.tse.frames → s.waitJudged t i sense) ∧
      (s.tse.phase = .step → s.tse.frames < 3 → t.tse = { s.tse with
        frames := s.tse.frames + 1
        firstSample := if s.tse.frames = 2 then sense else s.tse.firstSample }) ∧
      (s.tse.phase = .step → s.tse.frames = 3 → s.stepJudged t i sense) ∧
      (s.tse.phase = .step → 4 ≤ s.tse.frames → s.searchSteps t i s.tse.lastClear s.tse.last0) := by
  have machine := before.machine.trans search
  have wait := State.searchFrame_wait (before.tse ▸ runs) fed
  have step := State.searchFrame_step (before.tse ▸ runs) fed
  have judgedWait := State.judgeWait_judges i machine
  have judgedStep := State.judgeStep_judges (i := i) machine
  have probed := State.probeStep_steps i machine
  rw [State.waitJudged_before before, reads] at judgedWait
  rw [State.stepJudged_before before, reads] at judgedStep
  rw [State.searchSteps_before before] at probed
  rw [reads] at step
  rw [before.tse] at wait step probed
  refine ⟨fun waits short => ?_, fun waits full => ?_, fun steps short => ?_, fun steps full => ?_, fun steps next => ?_⟩
  · rw [worked.tse, wait waits, if_neg (by omega)]
    rfl
  · rw [wait waits, if_pos full] at worked target
    exact (State.waitJudged_after worked target).mpr judgedWait
  · rw [worked.tse, step steps, if_neg (by omega), if_neg (by omega)]
    rfl
  · rw [step steps, if_neg (by omega), if_pos full] at worked target
    exact (State.stepJudged_after worked target).mpr judgedStep
  · rw [step steps, if_pos next] at worked target
    exact (State.searchSteps_after worked target).mpr probed

end Frame

/-- In SEARCH a frame leaves the intent too (R90). -/
theorem State.servoFrame_search_changes {s : State} (r : ServoReading) (search : s.stc.machine = .search)
    (mode : s.mdc.mode = .ready ∨ s.mdc.mode = .run) :
    s.changesOnly (s.beginFrame r).endFrame [.output, .cau, .stc, .tse, .working] := by
  obtain ⟨pending, power, lock, parts⟩ := s.servoFrame_changes r
  have intent : (s.beginFrame r).endFrame.intent = s.intent := by
    rw [State.servoFrame_intent, State.followMode_search (u := s.frameCounted) search mode, if_neg]
    exact fun steers => SteerMachine.ne_search_of_steers steers search
  refine ⟨pending, power, lock, fun p outside => ?_⟩
  by_cases own : p = .intent
  · rw [own]
    exact intent
  · exact parts p (by simp_all)

/-- A frame of a search in READY and RUN (R90, R116 to R120). -/
theorem State.servoFrame_searches {s : State} (r : ServoReading) (h : s.SteeringSound) (search : s.stc.machine = .search)
    (mode : s.mdc.mode = .ready ∨ s.mdc.mode = .run) (i : CornerId) :
    let t := (s.beginFrame r).endFrame.holdAutoPark
    let starved := s.grant .steer < s.ws.nat Item.floorSteerMa
    (∀ rest, s.tse.corner = none → s.tse.list = i :: rest →
      (s.drc.axles.front.state = .brake → s.drc.axles.rear.state = .brake → s.searchBegins t i rest) ∧
        (s.drc.axles.front.state ≠ .brake ∨ s.drc.axles.rear.state ≠ .brake → s.searchStands t)) ∧
      (s.tse.corner = some i → starved → s.searchStands t) ∧
      (s.tse.corner = some i → ¬starved →
        (s.tse.phase = .wait → s.tse.frames < 9 → t.tse = { s.tse with frames := s.tse.frames + 1 }) ∧
          (s.tse.phase = .wait → 9 ≤ s.tse.frames → s.waitJudged t i (s.frameSense r i)) ∧
          (s.tse.phase = .step → s.tse.frames < 3 → t.tse = { s.tse with
            frames := s.tse.frames + 1
            firstSample := if s.tse.frames = 2 then s.frameSense r i else s.tse.firstSample }) ∧
          (s.tse.phase = .step → s.tse.frames = 3 → s.stepJudged t i (s.frameSense r i)) ∧
          (s.tse.phase = .step → 4 ≤ s.tse.frames → s.searchSteps t i s.tse.lastClear s.tse.last0)) := by
  obtain ⟨before, sense, gauge, drc⟩ := State.beginFrame_search r search mode
  obtain ⟨worked, target⟩ := State.endFrame_search (h.beginFrame r) (before.machine.trans search)
  have parked := worked.trans (.parked (s.beginFrame r).endFrame)
  have held (i : CornerId) := (State.holdAutoPark_target (s.beginFrame r).endFrame i).trans (target i)
  exact ⟨fun rest rested listed => State.searchFrame_between search before parked held drc rested listed,
    fun runs starved =>
      State.searchFrame_stands search before parked (by rw [gauge]; exact decide_eq_true starved) runs,
    fun runs fed =>
      State.searchFrame_runs search before parked held (by rw [gauge]; exact decide_eq_false fed) runs (sense i)⟩

/-- Settles O38, by the search's own events and the frame. -/
theorem searchBeginsStepsAndFindsTheEdge : Obligations.SearchBeginsStepsAndFindsTheEdge := by
  intro s i powered search
  refine ⟨fun rest rested listed => State.searchCornerBegin_acts powered search rested listed,
    fun fed runs wait frames => State.searchWaitEnd_acts powered search fed runs wait frames,
    fun fed runs step frames => State.searchStepJudged_acts powered search fed runs step frames,
    fun r h mode => ⟨_, exec_servoFrame r powered, ?_⟩⟩
  obtain ⟨between, starved, runs⟩ := State.servoFrame_searches r h search mode i
  refine ⟨between, starved, runs, ?_, State.changesOnly_act s (State.servoFrame_search_changes r search mode)⟩
  rw [State.holdAutoPark_ws]
  exact s.servoFrame_movesItems r

end Sys2Proof.Machine
end
